-- ==== Sys2Proof/Word.lean ====
section
/-! DEFINITION. The word types of the VE8256 and their plainest arithmetic (R2, R3, R5). -/

namespace Sys2Proof

/-- One byte of flash, host memory or plane memory. -/
abbrev Byte := BitVec 8
/-- A 16-bit local unit id, a node id or a reason code (R11, R24). -/
abbrev Half := BitVec 16
/-- A 32-bit register, a full unit address (R24) or a sequence number. -/
abbrev Word := BitVec 32
/-- A 64-bit register, counter, `stamp64` (R9) or `qns` value (R10). -/
abbrev DWord := BitVec 64
/-- The 64 bytes of a ticket, completion or event entry (R130, R141, R127), bit 0 least significant. -/
abbrev Entry := BitVec 512

end Sys2Proof
end

