-- ==== Sys2Proof/Syntax.lean ====
section
/-! DEFINITION. The commands of the VE8256: one constructor of `Instr` for every row of spec/opcode_table.json, with
the operands the command brings from outside the device. The table gives no operands; they follow the rule each row names
(DESIGN CHOICE, log entry 95). Every command carries `t`, the instant at which it is registered, in quarter-nanoseconds of the
timeline of the REFCLK_SYS reference (log entry 1). -/

namespace Sys2Proof

/-- The supply rails of R581. -/
inductive Rail
  | vdd | vddm | vddl | vddh | vdda | vio18 | vio33 | vstby
  deriving DecidableEq, Repr, Inhabited

/-- The two supply losses of R582. -/
inductive SupplyCause
  | rail (r : Rail)
  | difference
  deriving DecidableEq, Repr

/-- The pin groups of R663 that hang on an I/O bank supply, VIO18 or VIO33. -/
inductive IoBank
  | encoders | sos | cues | sigmaDelta | fieldOutputs | clockLow | clockHigh | systemClock | flash | test | control
  | ethernetTime | perst
  deriving DecidableEq, Repr

/-- The resets of R113. -/
inductive HostResetKind
  | hotReset | linkDown | functionLevel | d3hot | perst
  deriving DecidableEq, Repr

/-- The three rings of R119. -/
inductive Ring
  | ticket | completion | event
  deriving DecidableEq, Repr

/-- The ways a read of host memory fails, with reasons 0x0D07 to 0x0D0A (R192, R685). -/
inductive PcieError
  | unsupportedRequest | completerAbort | poisoned | timeout
  deriving DecidableEq, Repr

/-- The outcome of a read of host memory. -/
inductive ReadResult
  | data (bytes : List Byte)
  | error (why : PcieError)
  deriving DecidableEq, Repr

/-- A scatter entry of R137: bits [127:64] address, [63:32] length, [31:0] reserved. -/
structure SgEntry where
  addr : DWord
  len : Word
  reserved : Word := 0
  deriving DecidableEq, Repr

/-- What the SECDED code of a word of plane memory shows as a line builder reads it (R163): the word at byte address
8 x `word` carries a single-bit error, or a double-bit error (log entry 75). -/
structure EccFlaw where
  word : BitVec 26
  double : Bool
  deriving DecidableEq, Repr

/-- What SPINE finds as it starts: BOOTSEL (R62), and the chip selects whose flash answers its reads (R45). -/
structure SpineStart where
  bootsel : BitVec 2
  answers : BitVec 2
  deriving DecidableEq, Repr

/-- The net counts of a station's primary and secondary encoder (R235, R238). -/
structure EncCounts where
  pri : Int
  sec : Int
  deriving DecidableEq, Repr

/-- A station whose line builder begins to read plane lines, and the flawed words that it reads (R163). -/
structure LineRead where
  stn : Fin 8
  ecc : List EccFlaw
  deriving DecidableEq, Repr

/-- A pulse on the SOS input of a station: the edge it begins with, its width, and the flawed words that the build of the
sweep after it reads (R163, R326, R356). -/
structure SosPulse where
  stn : Fin 8
  rising : Bool
  widthNs : Nat
  ecc : List EccFlaw
  deriving DecidableEq, Repr

/-- A pulse on the EOS input of a station: the edge it begins with, and its width (R323, R356). -/
structure EosPulse where
  stn : Fin 8
  rising : Bool
  widthNs : Nat
  deriving DecidableEq, Repr

/-- An edge on PPS_IN: its instant, and its direction (R557). -/
structure PpsIn where
  t : Nat
  rising : Bool
  deriving DecidableEq, Repr

/-- Why an upstream mark-link frame is discarded (R371). -/
inductive DiscardKind
  /-- a CRC mismatch or an invalid block: 0x0607 -/
  | crc
  /-- an unknown TYPE, a LEN out of range or a nonzero reserved field: 0x0611 -/
  | malformed
  deriving DecidableEq, Repr

/-- A frame as a receiver takes it from the wire: its SOF, data and EOF blocks, and whether a block between SOF and EOF was
invalid (R361, R368). -/
structure RawFrame where
  sof : DWord
  data : List DWord
  eof : DWord
  invalid : Bool := false
  deriving DecidableEq, Repr

/-- A frame as a Xason port takes it from the wire (R596). -/
structure PortFrame where
  port : Fin 5
  frame : RawFrame
  deriving DecidableEq, Repr

/-- What a mark-link receiver may have to discard (R368, R371): a frame, or a data block outside a frame. -/
inductive RxBlocks
  | frame (f : RawFrame)
  | stray
  deriving DecidableEq, Repr

/-- One EXCEPT entry of R288, R375. -/
structure ExceptEntry where
  nozzle : BitVec 12
  cls : BitVec 2
  est : BitVec 8
  deriving DecidableEq, Repr

/-- The body of an EXCEPT frame (R375), with its SEQ. -/
structure ExceptFrame where
  seq : Word
  refSeq : Word
  event : Word
  more : Bool
  pageId : Word
  entries : List ExceptEntry
  deriving DecidableEq, Repr

/-- The body of an ACK frame (R375): `echo` is the T2 and T3 pair and its exchange number when LEN is 4. -/
structure AckFrame where
  creditsRet : Word
  armLast : Word
  sensedSeq : Word
  echo : Option (Word × DWord × DWord)
  deriving DecidableEq, Repr

/-- The body of an executor's HELLO frame (R375). -/
structure HelloFrame where
  kind : BitVec 2
  nozzles : BitVec 13
  headType : Half
  bufBlocks : Half
  input : BitVec 2
  tSetupNs : Half
  reportNs : Word
  version : BitVec 8
  features : BitVec 8
  serial : DWord
  deriving DecidableEq, Repr

/-- The body of a TELEM frame (R375), with its SEQ and whether it answers a STATUS_REQ. -/
structure TelemFrame where
  seq : Word
  req : Bool
  tSample : DWord
  headTemp : Half
  driveMv : Half
  logicMv : Half
  alarms : Half
  lateFrames : Word
  rxErrA : Half
  rxErrB : Half
  deriving DecidableEq, Repr

/-- The body of a MISMATCH frame (R375), with its SEQ. -/
structure MismatchFrame where
  seq : Word
  dupSeq : Word
  dupType : BitVec 6
  what : BitVec 3
  dt : DWord
  deriving DecidableEq, Repr

/-- What an axis samples at a current-loop valley (R435, R438, R444 to R448): the latest 3 x OSR - 2 bits of both
modulators, newest first, and the encoder count. A bit that a shorter list does not give is 0. -/
structure CurrentSample where
  streamU : List Bool
  streamV : List Bool
  count : Int
  deriving DecidableEq, Repr

/-- An output of the over-current filters of an axis (R440): the latest 3 x FAST_OSR - 2 bits of both modulators, newest
first. -/
structure FastSample where
  ax : Fin 24
  streamU : List Bool
  streamV : List Bool
  deriving DecidableEq, Repr

/-- A conversion of a stepper's sense input while its phase drives (R475). -/
structure SenseSample where
  st : Fin 16
  phaseB : Bool
  raw : BitVec 12
  deriving DecidableEq, Repr

/-- A conversion of a lamp's SENSE_AIN (R528). -/
structure LampSense where
  lm : Fin 16
  raw : BitVec 12
  deriving DecidableEq, Repr

/-- A loop at its grid instant, and the count of the encoder it reads where its source is a quadrature encoder (R241, R506). -/
structure LoopSample where
  lp : Fin 64
  count : Int
  deriving DecidableEq, Repr

/-- What a stepper samples in a chopper period (R473, R482): the raw codes of both sense inputs at the midpoint, and the
encoder count. -/
structure PhaseSample where
  rawA : BitVec 12
  rawB : BitVec 12
  count : Int
  deriving DecidableEq, Repr

/-- A conversion of the on-die diode (R566, R577): a reading in 0.1 degrees C, or a failure. -/
inductive DiodeResult
  | reading (tenths : Int)
  | open
  | short
  | failed
  deriving DecidableEq, Repr

/-- A fabric TIME frame (R602), with the arrival instant at this node's pin in `qns` of its own device time. -/
inductive FabricTimeFrame
  | request (timeId : Word) (t1 : DWord)
  | answer (timeId : Word) (t2 t3 : DWord) (settled : Bool)
  deriving DecidableEq, Repr

/-- What an accepted IEEE 1588 message brings to the servo (R556): the master, the measured offset of the device time
counter to it in 2^-16 ns, and currentUtcOffset. -/
structure PtpMessage where
  domain : BitVec 8
  master : DWord
  priority1 : BitVec 8
  priority2 : BitVec 8
  offset : Int
  utcOffset : Half
  clockClass : BitVec 8
  /-- the log2 of its Sync interval, IEEE 802.3 transport, peer delay (R556) -/
  logSync : Int := 0
  ieee8023 : Bool := false
  peerDelay : Bool := false
  deriving DecidableEq, Repr

/-- What a search of a spare DCO has come to (R539, R542): the rate of the output before DIV and of the reference, in mHz, and
the phase errors of the latest reference edges in ps. -/
structure PllSearch where
  rate : Nat
  refRate : Nat
  errs : List Int
  deriving DecidableEq, Repr

/-- The phase errors of a PLL at its latest reference edges, in ps (R544). -/
structure PhaseErrors where
  pll : Fin 10
  errs : List Int
  deriving DecidableEq, Repr

/-- A received TOD_IN frame of 16 bytes (R557). -/
structure TodFrame where
  bytes : List Byte
  deriving DecidableEq, Repr

/-- A fabric HELLO (R601). -/
structure XasonHello where
  node : Half
  depth : BitVec 8
  prio : BitVec 8
  crown : Half
  serial : DWord
  crownSerial : DWord
  port : BitVec 8
  deriving DecidableEq, Repr

/-- A CANDIDACY message (R601). -/
structure CandidacyMsg where
  node : Half
  prio : BitVec 8
  serial : DWord
  /-- True when the candidate is a crown that is already running (R90, R607). -/
  running : Bool
  deriving DecidableEq, Repr

/-- A ROUTE message (R602). -/
structure RouteMsg where
  src : Half
  withdraw : Bool
  routeSeq : Word
  ranges : List (Half × Half)
  deriving DecidableEq, Repr

/-- A CREDIT frame (R602), with its STAMP. -/
structure CreditFrame where
  urgRx : Word
  urgRet : Word
  bulkRx : Word
  bulkRet : Word
  urgHeld : Word
  bulkHeld : Word
  stamp : DWord
  deriving DecidableEq, Repr

/-- A routed frame on its way: its TYPE, ACTIVE and REQ, its route header (R597), and the blocks of its body. -/
structure RouteHeader where
  dst : Half
  src : Half
  hops : BitVec 5
  bulk : Bool
  typ : BitVec 6
  active : Bool := false
  req : Bool := false
  dstLocal : Half := 0
  stamp : DWord := 0
  body : List DWord := []
  deriving DecidableEq, Repr

/-- A ROUTE row's frame: a ROUTE message for this node, or a routed frame to forward (R604). -/
inductive RoutedFrame
  | route (m : RouteMsg)
  | transit (h : RouteHeader)
  deriving DecidableEq, Repr

/-- A MITTEN_JOIN message (R602). -/
structure MittenJoinMsg where
  mitten : Word
  first : BitVec 12
  ancestors : List Word
  last : Bool
  fingers : List Word
  deriving DecidableEq, Repr

/-- A VISOR_REQ message (R601) and its requester. -/
structure VisorReqMsg where
  node : Half
  latchT : DWord
  scope : Word
  visorId : Half
  deriving DecidableEq, Repr

/-- A VISOR_DATA message (R602): `bytes` of the sender's unit blocks (R619). -/
structure VisorDataMsg where
  src : Half
  visorId : Half
  part : Half
  last : Bool
  bytes : List Byte
  deriving DecidableEq, Repr

/-- A VISOR_END message (R601). -/
structure VisorEndMsg where
  src : Half
  visorId : Half
  units : Word
  late : Bool
  deriving DecidableEq, Repr

/-- A LEASE message (R640) as received, with its sender and the pair's lower twin. -/
structure LeaseMsg where
  src : Half
  role : BitVec 2
  rank : BitVec 2
  pairLo : Half
  epoch : Word
  expires : DWord
  stamp : DWord
  deriving DecidableEq, Repr

/-- A FENCE message (R646). -/
structure FenceMsg where
  kind : BitVec 4
  epoch : Word
  referee : Half
  line : BitVec 2
  deriving DecidableEq, Repr

/-- A PAIR message (R602) with its REQ bit. -/
structure PairMsg where
  req : Bool
  node : Half
  epoch : Word
  liningCompat : Word
  pairCrc : Word
  serial : DWord
  deriving DecidableEq, Repr

/-- An axis in section 5 of the lining (R465, R648): duties, integrators, omega_r, electrical zero, and its profile. -/
structure AxisLine where
  du : Nat
  dv : Nat
  dw : Nat
  intD : Int
  intQ : Int
  iW : Int
  wR : Int
  /-- electrical zero and count_Z, where taken (R444, R446) -/
  zero : Option Int
  z : Option Int
  /-- the count at the latest speed-loop execution and its instant in device qns (R448) -/
  cnt : Int
  cntAt : Nat
  /-- gates driven, the safe state (R433), every gate off by a trip (R441) -/
  on : Bool
  safe : Bool
  trip : Bool
  p : Int
  v : Int
  tgt : Int
  deriving DecidableEq, Repr

/-- A stepper in section 5 of the lining (R492, R648): duties, bridge directions, I_c, profile, count_0, since how long the
hold current is taken, in quarter-nanoseconds, and stall HOLD. -/
structure StepLine where
  da : Nat
  db : Nat
  sgA : Int
  sgB : Int
  fastA : Bool
  fastB : Bool
  icA : Int
  icB : Int
  p : Int
  v : Int
  tgt : Int
  count0 : Option Int
  /-- outputs driven -/
  on : Bool
  heldFor : Option Nat
  stallHold : Bool
  deriving DecidableEq, Repr

/-- The open charge entry of a loop in the lining (R530). -/
structure ChargeLine where
  job : Word
  page : Word
  charge : Int
  samples : Nat
  deriving DecidableEq, Repr

/-- A loop in section 6 of the lining (R530, R648): r, the target, integrator, derivative, biquad states, y_prev, output, how
long it has been saturated and in HOLD, in quarter-nanoseconds, and its open charge entry. -/
structure LoopLine where
  r : Int
  target : Int
  iAcc : Int
  dAcc : Int
  u1 : Int
  u2 : Int
  v1 : Int
  v2 : Int
  yPrev : Int
  out : Int
  satFor : Option Nat
  /-- saturated executions of SAT_WIN_MS (R514): how long ago each was -/
  satWin : List Nat
  holdFor : Option Nat
  charge : Option ChargeLine
  deriving DecidableEq, Repr

/-- A lamp in section 6 of the lining (R530, R648): on-time, debt and the counters of its diagnosis. -/
structure LampLine where
  on : Nat
  debt : Nat
  k : Nat
  opens : Nat
  deferred : Bool
  brimK : Option Nat
  deriving DecidableEq, Repr

/-- One entry of the lining (R648), section by section. The manual gives the contents of each section and not their
bits; the entry is carried as typed data (log entry 20). -/
inductive LiningEntry
  /-- section 1: the engagement state and SESSION_ID (R380) -/
  | engagement (engState : BitVec 4) (session : Word)
  /-- section 1: a page's state, and whether the page has been aborted (R157) -/
  | page (job page : Word) (state : BitVec 4) (aborted : Bool)
  /-- section 1: the outcome of a ticket, by ring slot (R158) -/
  | ticket (slot : Half) (outcome : BitVec 4)
  /-- section 1: a job opened or closed, with its STN_MASK (R133) -/
  | job (job : Word) (mask : Byte) (isOpen : Bool)
  /-- section 1: the leading edge bound to a page at a station -/
  | binding (job page : Word) (stn : Fin 8) (le : Int)
  /-- section 1: a station's latest leading edge, G, P_reg, and its glide queue as what remains and the slope of each -/
  | placement (stn : Fin 8) (le : Int) (g pReg : Int) (glides : List (Int × Int))
  /-- section 2: a lane's downstream counter (R377) -/
  | seq (lane : Fin 256) (next : Word)
  /-- section 3: a nozzle's state, coded as in the nozzle state table (R315) -/
  | nozzle (lane : Fin 256) (nozzle : BitVec 12) (state : BitVec 2)
  /-- section 4: a ledger's totals of a page, for comparison only -/
  | ledger (stn : Fin 8) (job page : Word) (requested fired : Nat)
  /-- section 5: an axis (R465) -/
  | axis (ax : Fin 24) (x : AxisLine)
  /-- section 5: a stepper (R492) -/
  | stepper (st : Fin 16) (x : StepLine)
  /-- section 6: a loop (R530) -/
  | loop (lp : Fin 64) (x : LoopLine)
  /-- section 6: an actuator's duty -/
  | act (ac : Fin 32) (duty : Nat)
  /-- section 6: a lamp (R530) -/
  | lamp (lm : Fin 16) (x : LampLine)
  /-- section 7: the calibration generation and records (R425) -/
  | calibration (generation : Word) (records : List Byte)
  /-- over LP beside the sections: the partner's link state of a lane (R396) -/
  | partnerLane (lane : Fin 256) (up : Bool)
  deriving DecidableEq, Repr

/-- A LINING frame (R648): the sender's EPOCH, its lining SEQ, origin stamp and entry. `last` ends a snapshot. -/
structure LiningFrame where
  epoch : Word
  seq : Word
  stamp : DWord
  entry : LiningEntry
  last : Bool
  /-- the bank cut the mirror off while it read this entry (R180) -/
  incomplete : Bool := false
  deriving DecidableEq, Repr

/-- The causes of R649 that end STANDBY_LINED. -/
inductive LagCause
  | lag | seqGap | portDown
  deriving DecidableEq, Repr

/-- The fuse commands of R61. -/
inductive FuseCommand
  | keyHash (h : BitVec 256)
  | enforce
  deriving DecidableEq, Repr

/-- The commands, in the order of spec/opcode_table.json. -/
inductive Instr
  | spineRelease (t : Nat) (x : SpineStart)
  | rstN (t : Nat) (lowNs : Nat)
  | brownout (t : Nat) (rail : Rail)
  | supplyLoss (t : Nat) (cause : SupplyCause)
  | wakeRequest (t : Nat) (lowUs : Nat)
  | imageLoadDone (t : Nat)
  | domainStep (t : Nat)
  | domainGoodTimeout (t : Nat) (dom : Fin 128)
  | pllLock (t : Nat) (pll : Fin 10) (band : BitVec 6) (code : BitVec 24) (x : PllSearch)
  | pllLockAttemptFail (t : Nat) (pll : Fin 10)
  | bandSearchFail (t : Nat) (pll : Fin 10)
  | pllHandover (t : Nat) (pll : Fin 10) (band : BitVec 6) (code : BitVec 24) (rateMilliHz : Nat)
  | pllUnlock (t : Nat) (pll : PhaseErrors)
  | pllRefLost (t : Nat) (pll : Fin 10)
  | holdoverTick (t : Nat) (pll : Fin 10)
  | pllRefReturn (t : Nat) (pll : Fin 10)
  | ppllFollow (t : Nat) (stn : Fin 8)
  | crownWaitTimeout (t : Nat)
  | pairingTimeout (t : Nat)
  | ready (t : Nat)
  | engageDoorbell (t : Nat)
  | disengage (t : Nat)
  | engagePinRise (t : Nat)
  | engagePinFall (t : Nat)
  | timeWaitTimeout (t : Nat)
  | gauntletDone (t : Nat) (badInputs : List Half)
  | rundownStart (t : Nat)
  | axisRest (t : Nat) (unit : Half)
  | stopTimeout (t : Nat)
  | hostReset (t : Nat) (kind : HostResetKind)
  | tqTail (t : Nat) (v : Word)
  | cqHead (t : Nat) (v : Word)
  | eqHead (t : Nat) (v : Word)
  | ringSizeWrite (t : Nat) (ring : Ring) (v : Word)
  | ringBaseWrite (t : Nat) (ring : Ring) (v : DWord)
  | visorReq (t : Nat) (v : Word)
  | eventAck (t : Nat) (unit : Word)
  | timeNowLatchRead (t : Nat)
  | engageStatusLatchRead (t : Nat)
  | registerWrite (t : Nat) (offset : BitVec 16) (v : Word)
  | bar2Write (t : Nat) (offset : BitVec 24) (v : Word)
  | ticketFetch (t : Nat) (entry : Entry)
  | ticketFetchError (t : Nat) (why : PcieError)
  | openJob (t : Nat)
  | page (t : Nat)
  | plane (t : Nat)
  | cal (t : Nat)
  | calBufferReadDone (t : Nat) (r : ReadResult)
  | testpage (t : Nat)
  | nozzle (t : Nat)
  | glide (t : Nat)
  | spit (t : Nat)
  | visor (t : Nat)
  | twinSwap (t : Nat)
  | stageImage (t : Nat)
  | stageBufferReadDone (t : Nat) (r : ReadResult)
  | stageFlashOpDone (t : Nat) (good : Bool)
  | closeJob (t : Nat)
  | msixCoalesceExpiry (t : Nat) (vec : Fin 256)
  | pageArm (t : Nat) (job page : Word)
  | armDeadline (t : Nat) (job page : Word)
  | cueEdge (t : Nat) (cue : Fin 16) (rising : Bool) (widthNs : Nat)
  | virtualLeadingEdge (t : Nat) (stn : Fin 8)
  | lePosReached (t : Nat) (job page : Word)
  | pageEdge (t : Nat) (node : Half) (stn : Fin 8) (seq : Word) (tEdge : DWord)
  | markingStart (t : Nat) (job page : Word)
  | latticeStamp (t : Nat) (stn : Fin 8) (edges : Int) (counts : EncCounts)
  | ssiWord (t : Nat) (enc : Fin 48) (word : Option (BitVec 31))
  | quadError (t : Nat) (enc : Fin 48)
  | encFault (t : Nat) (enc : Fin 48)
  | overspeed (t : Nat) (stn : Fin 8)
  | coastSpent (t : Nat) (stn : Fin 8)
  | glideStep (t : Nat) (stn : Fin 8)
  | fireEventBuildStart (t : Nat) (x : LineRead)
  | fireEventStep4 (t : Nat) (stn : Fin 8)
  | fireFrameIssue (t : Nat) (stn : Fin 8)
  | spitLineIssue (t : Nat) (stn : Fin 8)
  | idleSpitStart (t : Nat) (stn : Fin 8)
  | idleSpitLine (t : Nat) (stn : Fin 8)
  | brimAudit (t : Nat) (stn : Fin 8)
  | bandGrant (t : Nat) (bank : Fin 32)
  | bandReturn (t : Nat) (bank : Fin 32) (band : Fin 256)
  | overholdCutoff (t : Nat) (bank : Fin 32) (requester : Fin 16) (lock : Bool)
  | scatterFetchDone (t : Nat) (ch : Fin 32) (entries : List SgEntry)
  | scatterFetchFail (t : Nat) (ch : Fin 32)
  | dmaReadIssue (t : Nat) (ch : Fin 32)
  | tokenRefill (t : Nat) (ch : Fin 32) (mtPerS : Nat) (width : Nat)
  | dmaReadCompletion (t : Nat) (ch : Fin 32) (tag : BitVec 14) (r : ReadResult)
  | dmaReadTimeout (t : Nat) (ch : Fin 32) (tag : BitVec 14)
  | except (t : Nat) (lane : Fin 256) (f : ExceptFrame)
  | suspectWindowClose (t : Nat) (lane : Fin 256) (nozzle : BitVec 12)
  | ack (t : Nat) (lane : Fin 256) (f : AckFrame)
  | hello (t : Nat) (lane : Fin 256) (f : HelloFrame)
  | telem (t : Nat) (lane : Fin 256) (f : TelemFrame)
  | mismatch (t : Nat) (lane : Fin 256) (f : MismatchFrame)
  | rxFrameDiscard (t : Nat) (lane : Fin 256) (x : RxBlocks)
  | timeExchange (t : Nat) (lane : Fin 256)
  | timeNoEcho (t : Nat) (lane : Fin 256)
  | blockLock (t : Nat) (lane : Fin 256)
  | laneUp (t : Nat) (lane : Fin 256)
  | trainAttemptTimeout (t : Nat) (lane : Fin 256)
  | linkDown (t : Nat) (lane : Fin 256)
  | sosEdge (t : Nat) (x : SosPulse)
  | sosWindowTimeout (t : Nat) (x : LineRead)
  | eosEdge (t : Nat) (x : EosPulse)
  | eosWindowTimeout (t : Nat) (stn : Fin 8)
  | sweepDataIssue (t : Nat) (stn : Fin 8)
  | calStoreWriteDone (t : Nat) (good : Bool)
  | calCommitTimeout (t : Nat)
  | currentLoop (t : Nat) (ax : Fin 24) (x : CurrentSample)
  | axisOvercurrent (t : Nat) (ax : FastSample)
  | sdmLost (t : Nat) (sdm : Fin 48)
  | alignDone (t : Nat) (ax : Fin 24)
  | hallEdge (t : Nat) (ax : Fin 24) (code : BitVec 3)
  | encZEdge (t : Nat) (enc : Fin 48) (count : Int)
  | followingError (t : Nat) (ax : Fin 24)
  | curveSample (t : Nat) (ax : Fin 24)
  | stepperPhaseLoop (t : Nat) (st : Fin 16) (x : PhaseSample)
  | stepperOvercurrent (t : Nat) (st : SenseSample)
  | coilOpen (t : Nat) (st : Fin 16)
  | holdCurrentDelay (t : Nat) (st : Fin 16)
  | stepZeroCapture (t : Nat) (st : Fin 16)
  | stall (t : Nat) (st : Fin 16)
  | profileTick (t : Nat) (unit : Half)
  | adcConversion (t : Nat) (ain : Fin 160) (raw : BitVec 12) (scheduled : Bool)
  | loopExecution (t : Nat) (lp : LoopSample)
  | sourceHoldTimeout (t : Nat) (lp : Fin 64)
  | saturationFinding (t : Nat) (lp : Fin 64)
  | lampPeriod (t : Nat) (lm : Fin 16)
  | lampOvercurrent (t : Nat) (lm : LampSense)
  | xasonTime (t : Nat) (port : Fin 5) (f : FabricTimeFrame)
  | fabricTimeExchange (t : Nat)
  | ptpSync (t : Nat) (m : PtpMessage)
  | ptpAnnounceTimeout (t : Nat)
  | ppsEdge (x : PpsIn)
  | todFrame (t : Nat) (f : TodFrame)
  | ppsLost (t : Nat)
  | scratchWrite (t : Nat)
  | diodeConversion (t : Nat) (r : DiodeResult)
  | thermalPageTest (t : Nat)
  | tcritDomainOff (t : Nat)
  | thermalQ (t : Nat) (node : Half)
  | thermalA (t : Nat) (node : Half) (temp : Half) (sensor : BitVec 2)
  | thermalQueryTimeout (t : Nat)
  | thermalRecheck (t : Nat)
  | thermalSwapTimeout (t : Nat)
  | domainLost (t : Nat) (dom : Fin 128)
  | xportTrained (t : Nat) (port : Fin 5) (oneLane : Bool)
  | xportLinkDown (t : Nat) (port : Fin 5)
  | xasonHello (t : Nat) (port : Fin 5) (f : XasonHello)
  | candidacy (t : Nat) (port : Fin 5) (m : CandidacyMsg)
  | route (t : Nat) (port : Fin 5) (f : RoutedFrame)
  | credit (t : Nat) (port : Fin 5) (f : CreditFrame)
  | auditPeriod (t : Nat)
  | crownLost (t : Nat)
  | status (t : Nat) (finger : Word) (word : Word)
  | mittenJoin (t : Nat) (m : MittenJoinMsg)
  | audit (t : Nat) (mitten : Word) (unit : Word) (reason : Half)
  | visorReqMsg (t : Nat) (m : VisorReqMsg)
  | visorLatch (t : Nat) (node : Half) (visorId : Half)
  | visorData (t : Nat) (m : VisorDataMsg)
  | visorEnd (t : Nat) (m : VisorEndMsg)
  | visorTimeout (t : Nat) (visorId : Half)
  | heartbeatSend (t : Nat) (watchdogsGood : Bool)
  | heartbeat (t : Nat) (m : LeaseMsg)
  | renew (t : Nat) (m : LeaseMsg)
  | leaseExpired (t : Nat)
  | leaseTimeout (t : Nat) (pairLo : Half)
  | fenceReadback (t : Nat) (pairLo : Half) (low : Bool)
  | grant (t : Nat) (m : LeaseMsg)
  | grantRefused (t : Nat) (m : LeaseMsg)
  | rejoinReq (t : Nat) (m : LeaseMsg)
  | rejoinOk (t : Nat) (m : LeaseMsg)
  | claim (t : Nat) (m : LeaseMsg)
  | claimOk (t : Nat) (m : LeaseMsg)
  | swapReq (t : Nat) (m : LeaseMsg)
  | swapRefused (t : Nat) (m : LeaseMsg)
  | swapReqPin (t : Nat) (lowMs : Nat)
  | fence (t : Nat) (m : FenceMsg)
  | fenceN (t : Nat) (high : Bool)
  | refereeLost (t : Nat)
  | pair (t : Nat) (m : PairMsg)
  | liningSnapshot (t : Nat) (f : LiningFrame)
  | liningDelta (t : Nat) (f : LiningFrame)
  | liningLagExceeded (t : Nat) (why : LagCause)
  | resyncTimeout (t : Nat)
  | mirrorHoldExpired (t : Nat)
  | vstbyApplied (t : Nat)
  | vstbyLost (t : Nat)
  | ioBankSupplyGood (t : Nat) (bank : IoBank)
  | fuseProgramming (t : Nat) (cmd : FuseCommand)
  | xasonFrameDiscard (t : Nat) (x : PortFrame)
  deriving DecidableEq, Repr

end Sys2Proof
end

