-- ==== Sys2Proof/Machine/Bits.lean ====
section
/-! DEFINITION. Bit fields (R2, R3), rounding and saturation (R6), CRC-32C (R48), keyed tables and byte memories. -/

namespace Sys2Proof.Machine

/-- Field [hi:lo] of a layout, both end bits included (R2). -/
def bits (x hi lo : Nat) : Nat := x / 2 ^ lo % 2 ^ (hi - lo + 1)

/-- Bit `i` of a layout. -/
def bit (x i : Nat) : Bool := x / 2 ^ i % 2 == 1

/-- The two's-complement value of a `w`-bit field. -/
def sx (w x : Nat) : Int :=
  let y := x % 2 ^ w
  if 2 * y < 2 ^ w then (y : Int) else (y : Int) - (2 ^ w : Nat)

/-- The `w`-bit two's-complement code of an integer, wrapping. -/
def tc (w : Nat) (x : Int) : Nat := (x % ((2 ^ w : Nat) : Int)).toNat

/-- Whether one natural number is below another. -/
def below (a b : Nat) : Bool := a < b

/-- 1 for true, 0 for false. -/
def b2n (b : Bool) : Nat := if b then 1 else 0

/-- Place a field at bit `lo` of a layout. -/
def put (lo v : Nat) : Nat := v * 2 ^ lo

/-- A value limited to lo..hi. -/
def clampI (lo hi x : Int) : Int := if x < lo then lo else if hi < x then hi else x

/-- Saturation at S32 (R6). -/
def sat32 (x : Int) : Int := clampI (-2147483648) 2147483647 x

/-- Saturation at S64 (R6). -/
def sat64 (x : Int) : Int := clampI (-9223372036854775808) 9223372036854775807 x

/-- n / d rounded to nearest, ties toward positive infinity (R6). -/
def rdiv (n d : Int) : Int := if d = 0 then 0 else (2 * n + d) / (2 * d)

/-- A product scaled by 2^-k, rounded under R6 (log entry 5). -/
def shrR (n : Int) (k : Nat) : Int := rdiv n ((2 ^ k : Nat) : Int)

/-- The difference of two integers as a natural number. -/
def absI (x : Int) : Int := if x < 0 then -x else x

/-- The sign of an integer: -1, 0 or 1. -/
def sgnI (x : Int) : Int := if x < 0 then -1 else if x = 0 then 0 else 1

/-- ceil(a / b). -/
def ceilDiv (a b : Nat) : Nat := if b = 0 then 0 else (a + b - 1) / b

/-- The integer square root, by Newton steps on bounded fuel (R449). -/
def isqrtAux (n : Nat) : Nat → Nat → Nat
  | 0, x => x
  | f + 1, x =>
    let y := (x + n / (max x 1)) / 2
    if y < x then isqrtAux n f y else x

/-- floor(sqrt n). -/
def isqrt (n : Nat) : Nat := if n = 0 then 0 else isqrtAux n 200 (n + 1)

/-- The little-endian number of a byte string (R3). -/
def leNat : List Byte → Nat
  | [] => 0
  | b :: bs => b.toNat + 256 * leNat bs

/-- The first `n` bytes of a number, little-endian. -/
def leBytes : Nat → Nat → List Byte
  | 0, _ => []
  | n + 1, x => BitVec.ofNat 8 x :: leBytes n (x / 256)

/-- The big-endian number of a byte string (SEC 1 byte strings of R58). -/
def beNat (bs : List Byte) : Nat := bs.foldl (fun a b => a * 256 + b.toNat) 0

/-- One byte through the reflected CRC-32C register. -/
def crcByte (c : Word) (b : Byte) : Word :=
  let step (x : Word) : Word := if x.getLsbD 0 then (x >>> 1) ^^^ 0x82F63B78#32 else x >>> 1
  step (step (step (step (step (step (step (step (c ^^^ b.setWidth 32))))))))

/-- CRC-32C with polynomial 0x1EDC_6F41 reflected, initial value and final exclusive-OR 0xFFFF_FFFF (R48). -/
def crc32c (bs : List Byte) : Word := (bs.foldl crcByte 0xFFFFFFFF#32) ^^^ 0xFFFFFFFF#32

/-- A keyed table: a list of keys and values, kept in rising order of the keys. -/
abbrev Tbl (α : Type) := List (Nat × α)

/-- The value at a key, or the default where the table lists none. -/
def Tbl.getD {α : Type} (dflt : α) : Tbl α → Nat → α
  | [], _ => dflt
  | (k, v) :: t, i => if i = k then v else Tbl.getD dflt t i

/-- The value at a key, if listed. -/
def Tbl.get? {α : Type} : Tbl α → Nat → Option α
  | [], _ => none
  | (k, v) :: t, i => if i = k then some v else Tbl.get? t i

/-- The table with one value set. -/
def Tbl.set {α : Type} : Tbl α → Nat → α → Tbl α
  | [], i, x => [(i, x)]
  | (k, v) :: t, i, x =>
    if i = k then (k, x) :: t else if i < k then (i, x) :: (k, v) :: t else (k, v) :: Tbl.set t i x

/-- The table without one key. -/
def Tbl.del {α : Type} (t : Tbl α) (i : Nat) : Tbl α := t.filter (fun p => p.1 ≠ i)

/-- The value at a key, the type's own default where none is listed. -/
def Tbl.at {α : Type} [Inhabited α] (t : Tbl α) (i : Nat) : α := Tbl.getD default t i

/-- The table with the value at a key changed. -/
def Tbl.upd {α : Type} [Inhabited α] (t : Tbl α) (i : Nat) (f : α → α) : Tbl α := t.set i (f (t.at i))

/-- A byte memory: (address, byte) cells in rising order of address, none equal to what an unlisted address reads as. -/
abbrev Mem := List Host.Cell

/-- The byte at an address; an unlisted address reads as `d`. -/
def Mem.read (d : Byte) : Mem → Nat → Byte
  | [], _ => d
  | (k, v) :: m, a => if a = k then v else Mem.read d m a

/-- The memory with one byte written, in canonical form. -/
def Mem.write (d : Byte) : Mem → Nat → Byte → Mem
  | [], a, b => if b = d then [] else [(a, b)]
  | (k, v) :: m, a, b =>
    if a = k then (if b = d then m else (a, b) :: m)
    else if a < k then (if b = d then (k, v) :: m else (a, b) :: (k, v) :: m)
    else (k, v) :: Mem.write d m a b

/-- The canonical form: addresses strictly rising and no cell equal to the default. -/
def Mem.wf (d : Byte) : Mem → Bool
  | [] => true
  | [(_, v)] => v != d
  | (k, v) :: (k', v') :: m => v != d && k < k' && Mem.wf d ((k', v') :: m)

/-- `n` bytes from an address on. -/
def Mem.bytes (d : Byte) (m : Mem) (a : Nat) : Nat → List Byte
  | 0 => []
  | n + 1 => m.read d a :: Mem.bytes d m (a + 1) n

/-- Bytes written from an address on. -/
def Mem.writeBytes (d : Byte) : Mem → Nat → List Byte → Mem
  | m, _, [] => m
  | m, a, b :: bs => Mem.writeBytes d (m.write d a b) (a + 1) bs

/-- The memory with `n` bytes from `a` on back at the default (an erase). -/
def Mem.erase (m : Mem) (a n : Nat) : Mem := m.filter (fun c => c.1 < a || a + n ≤ c.1)

/-- The first `n` natural numbers. -/
abbrev upTo (n : Nat) : List Nat := List.range n

/-- The number whose low `w` bits of `x` stand in reversed order (R272, R347). -/
def bitRev : Nat → Nat → Nat
  | 0, _ => 0
  | w + 1, x => (x % 2) * 2 ^ w + bitRev w (x / 2)

/-- Linear interpolation through points of rising x, held at the first and last point (R461, R545, R549). -/
def interp : List (Int × Int) → Int → Int
  | [], _ => 0
  | [(_, y)], _ => y
  | (x0, y0) :: (x1, y1) :: ps, x =>
    if x ≤ x0 then y0
    else if x < x1 then y0 + rdiv ((y1 - y0) * (x - x0)) (x1 - x0)
    else interp ((x1, y1) :: ps) x

end Sys2Proof.Machine
end

