-- ==== Sys2Proof/Machine/Crypto.lean ====
section
/-! DEFINITION. The signature of R59: SHA-256 and the verification of ECDSA on curve P-256 (SEC 1, FIPS 186-5). -/

namespace Sys2Proof.Machine

/-- The greatest number of at most `n` bits whose `e`-th power does not pass `x`, found from the top bit down. -/
def rootBits (e x : Nat) : Nat → Nat → Nat
  | 0, r => r
  | n + 1, r => rootBits e x n (if (r + 2 ^ n) ^ e ≤ x then r + 2 ^ n else r)

/-- The first 32 bits of the fraction of the `e`-th root of `p`. -/
def rootFrac (e p : Nat) : Word := BitVec.ofNat 32 (rootBits e (p * 2 ^ (32 * e)) 40 0)

/-- The prime numbers below 312, of which there are 64. -/
def smallPrimes : List Nat :=
  (upTo 312).filter (fun p => 2 ≤ p && (upTo 18).all (fun q => q < 2 || p ≤ q || p % q != 0))

/-- The round constants: fractions of the cube roots of the first 64 primes (FIPS 180-4). -/
def shaK : List Word := smallPrimes.map (rootFrac 3)

/-- The message schedule: 64 words grown from the 16 of a block, newest last. -/
def shaSchedule : Nat → List Word → List Word
  | 0, w => w
  | n + 1, w =>
    let k := w.length
    let g (i : Nat) : Word := w.getD (k - i) 0
    let s0 := (g 15).rotateRight 7 ^^^ (g 15).rotateRight 18 ^^^ (g 15 >>> 3)
    let s1 := (g 2).rotateRight 17 ^^^ (g 2).rotateRight 19 ^^^ (g 2 >>> 10)
    shaSchedule n (w ++ [g 16 + s0 + g 7 + s1])

/-- The eight working words of a digest. -/
structure ShaState where
  a : Word
  b : Word
  c : Word
  d : Word
  e : Word
  f : Word
  g : Word
  h : Word
  deriving DecidableEq, Repr

/-- One round of SHA-256. -/
def shaRound (s : ShaState) (kw : Word × Word) : ShaState :=
  let s1 := s.e.rotateRight 6 ^^^ s.e.rotateRight 11 ^^^ s.e.rotateRight 25
  let ch := (s.e &&& s.f) ^^^ (~~~s.e &&& s.g)
  let t1 := s.h + s1 + ch + kw.1 + kw.2
  let s0 := s.a.rotateRight 2 ^^^ s.a.rotateRight 13 ^^^ s.a.rotateRight 22
  let mj := (s.a &&& s.b) ^^^ (s.a &&& s.c) ^^^ (s.b &&& s.c)
  ⟨t1 + (s0 + mj), s.a, s.b, s.c, s.d + t1, s.e, s.f, s.g⟩

/-- Big-endian words of a byte string. -/
def beWords : List Byte → List Word
  | a :: b :: c :: d :: r => (a ++ b ++ c ++ d) :: beWords r
  | _ => []

/-- One 64-byte block of SHA-256. -/
def shaBlock (s : ShaState) (blk : List Byte) : ShaState :=
  let r := ((shaK).zip (shaSchedule 48 (beWords blk))).foldl shaRound s
  ⟨s.a + r.a, s.b + r.b, s.c + r.c, s.d + r.d, s.e + r.e, s.f + r.f, s.g + r.g, s.h + r.h⟩

/-- The blocks of a padded message, with fuel for their number. -/
def shaBlocks : Nat → List Byte → ShaState → ShaState
  | 0, _, s => s
  | n + 1, bs, s => shaBlocks n (bs.drop 64) (shaBlock s (bs.take 64))

/-- The SHA-256 digest of a byte string, as a 256-bit number; it starts from the fractions of the square roots of the first
eight primes (FIPS 180-4). -/
def sha256 (bs : List Byte) : Nat :=
  let n := bs.length
  let pad := (119 - n % 64) % 64
  let m := bs ++ (0x80#8 :: List.replicate pad 0#8) ++ (leBytes 8 (8 * n)).reverse
  let h (p : Nat) : Word := rootFrac 2 p
  let s := shaBlocks (m.length / 64) m ⟨h 2, h 3, h 5, h 7, h 11, h 13, h 17, h 19⟩
  (s.a ++ s.b ++ s.c ++ s.d ++ s.e ++ s.f ++ s.g ++ s.h).toNat

/-- The field prime of P-256. -/
def p256 : Nat := 0xffffffff00000001000000000000000000000000ffffffffffffffffffffffff
/-- The group order of P-256. -/
def n256 : Nat := 0xffffffff00000000ffffffffffffffffbce6faada7179e84f3b9cac2fc632551
/-- The coefficient b of P-256; a is -3. -/
def b256 : Nat := 0x5ac635d8aa3a93e7b3ebbd55769886bc651d06b0cc53b0f63bce3c3e27d2604b
/-- The base point of P-256. -/
def g256 : Nat × Nat :=
  (0x6b17d1f2e12c4247f8bce6e563a440f277037d812deb33a0f4a13945d898c296,
   0x4fe342e2fe1a7f9b8ee7eb4a7c0f9e162bce33576b315ececbb6406837bf51f5)

/-- x^e mod m, over the low `n` bits of the exponent. -/
def powMod : Nat → Nat → Nat → Nat → Nat
  | 0, _, _, m => 1 % m
  | n + 1, x, e, m =>
    let r := powMod n (x * x % m) (e / 2) m
    if e % 2 = 1 then r * x % m else r

/-- The inverse modulo a prime. -/
def invMod (x m : Nat) : Nat := powMod 256 (x % m) (m - 2) m

/-- The sum of two points of P-256; `none` is the point at infinity. -/
def ecAdd (p q : Option (Nat × Nat)) : Option (Nat × Nat) :=
  match p, q with
  | none, q => q
  | p, none => p
  | some (x1, y1), some (x2, y2) =>
    if x1 = x2 ∧ (y1 + y2) % p256 = 0 then none
    else
      let l := if x1 = x2 then (3 * x1 * x1 + p256 - 3) * invMod (2 * y1) p256 % p256
        else (y2 + p256 - y1) * invMod (x2 + p256 - x1) p256 % p256
      let x3 := (l * l + 2 * p256 - x1 - x2) % p256
      some (x3, (l * (x1 + p256 - x3) + p256 - y1) % p256)

/-- k times a point, over the low `n` bits of k. -/
def ecMul : Nat → Nat → Option (Nat × Nat) → Option (Nat × Nat)
  | 0, _, _ => none
  | n + 1, k, p =>
    let r := ecMul n (k / 2) (ecAdd p p)
    if k % 2 = 1 then ecAdd r p else r

/-- ECDSA verification of signature (r, s) by key (x, y) over digest `e` (R59). -/
def ecdsaVerify (x y r s e : Nat) : Bool :=
  x < p256 && y < p256 && (y * y) % p256 == (x * x * x + (p256 - 3) * x + b256) % p256
    && 0 < r && r < n256 && 0 < s && s < n256 &&
    (let w := invMod s n256
     match ecAdd (ecMul 256 (e * w % n256) (some g256)) (ecMul 256 (r * w % n256) (some (x, y))) with
     | none => false
     | some (u, _) => u % n256 == r)

end Sys2Proof.Machine
end

