-- ==== Sys2Proof/Machine/Codes.lean ====
section
/-! DEFINITION. Reason codes and their kinds (R11, R12, R686 and the reason-code table of every chapter), unit classes
(R25), unit states (R28) and the identifiers of the counters (R681). -/

namespace Sys2Proof.Machine

/-- The kinds of a reason code (R686). -/
inductive Kind
  | refusal | information | flag | warning | fault | critical
  deriving DecidableEq, Repr

/-- The codes of kind Information, from the tables of every chapter. -/
def infoCodes : List Nat := [
    0x0115, 0x0204, 0x0207, 0x0208, 0x0209, 0x020C, 0x020E, 0x0210, 0x0306, 0x030D, 0x0311, 0x040A, 0x040C,
    0x040D, 0x0509, 0x050A, 0x0605, 0x0612, 0x0613, 0x0703, 0x0705, 0x0805, 0x0907, 0x090A, 0x0910, 0x0911,
    0x0912, 0x0A06, 0x0A07, 0x0B0A, 0x0B0B, 0x0B0E, 0x0B0F, 0x0B14, 0x0C0D, 0x0C0E, 0x0C0F, 0x0D04, 0x0D0C,
    0x0D0E, 0x0E14, 0x1003, 0x1007, 0x100A, 0x100E, 0x1010, 0x1011, 0x1102, 0x1106, 0x1107, 0x1119]

/-- The codes of kind Flag, from the tables of every chapter. -/
def flagCodes : List Nat := [
    0x0213, 0x0307, 0x0308, 0x0309, 0x030A, 0x030C, 0x030E, 0x0310, 0x0408, 0x0409, 0x040B, 0x0507, 0x050B,
    0x050C, 0x050E, 0x050F, 0x0510, 0x0607, 0x0608, 0x060D, 0x060E, 0x060F, 0x0611, 0x0704, 0x0706, 0x0707,
    0x0708, 0x070A, 0x070D, 0x0806, 0x0917, 0x0A05, 0x0B09, 0x0C06, 0x0D07, 0x0D08, 0x0D09, 0x0D0A, 0x0D0B,
    0x0D10, 0x0E13, 0x0E16, 0x0E17, 0x0F03, 0x0F04, 0x0F06, 0x0F0D]

/-- The codes of kind Warning, from the tables of every chapter. -/
def warningCodes : List Nat := [
    0x0116, 0x011C, 0x0205, 0x0206, 0x020B, 0x020D, 0x020F, 0x0211, 0x0212, 0x0304, 0x0305, 0x030F, 0x040E,
    0x050D, 0x0603, 0x0604, 0x060C, 0x0610, 0x070B, 0x070C, 0x0711, 0x0808, 0x0809, 0x080A, 0x080B, 0x0909,
    0x090B, 0x090D, 0x0913, 0x0914, 0x0A08, 0x0A0B, 0x0A0C, 0x0B07, 0x0B10, 0x0B13, 0x0C01, 0x0C05, 0x0D05,
    0x0D06, 0x0D0F, 0x0E11, 0x0E12, 0x0E15, 0x0E18, 0x0E19, 0x0E1A, 0x0E1C, 0x0F02, 0x0F07, 0x0F08, 0x0F0A,
    0x0F0F, 0x1005, 0x1006, 0x1008, 0x1009, 0x100F, 0x1012, 0x1109, 0x110A, 0x111A]

/-- The codes of kind Fault, from the tables of every chapter. -/
def faultCodes : List Nat := [
    0x0303, 0x0508, 0x0511, 0x0602, 0x0606, 0x0609, 0x060A, 0x0709, 0x0710, 0x0908, 0x090C, 0x090E, 0x090F,
    0x0918, 0x0A09, 0x0A0D, 0x0B06, 0x0B08, 0x0B0C, 0x0B0D, 0x0B11, 0x0B12, 0x0C02, 0x0C04, 0x0C07, 0x0C0A,
    0x0D0D, 0x0F05, 0x0F09, 0x0F10, 0x1004, 0x100C, 0x1104, 0x1105, 0x1108]

/-- The codes of kind Critical, from the tables of every chapter. -/
def criticalCodes : List Nat := [
    0x0C03, 0x0C09, 0x100B]

/-- The kind of a reason code; a code of no other kind is a refusal (R686). -/
def kindOf (r : Nat) : Kind :=
  if faultCodes.contains r then .fault else if criticalCodes.contains r then .critical
  else if warningCodes.contains r then .warning else if flagCodes.contains r then .flag
  else if infoCodes.contains r then .information else .refusal

/-- The SEVERITY of a kind (R686). -/
def Kind.severity : Kind → Nat
  | .information => 1
  | .flag => 2
  | .warning => 3
  | .refusal => 4
  | .fault => 4
  | .critical => 5

/-- A kind that makes the gauntlet refuse (R105). -/
def Kind.refuses : Kind → Bool
  | .refusal => true
  | .fault => true
  | .critical => true
  | .information => false
  | .flag => false
  | .warning => false

/-- A kind that requires acknowledgement (R127, R128, R686). -/
def Kind.needsAck : Kind → Bool
  | .fault => true
  | .critical => true
  | .refusal => false
  | .information => false
  | .flag => false
  | .warning => false

/-- The unit states and their codes (R28). -/
inductive UState
  | off | idle | armed | run | hold | stopping | fault | fenced
  deriving DecidableEq, Repr, Inhabited

/-- The code of a unit state in STATE (R28). -/
def UState.code : UState → Nat
  | .off => 0
  | .idle => 1
  | .armed => 2
  | .run => 3
  | .hold => 4
  | .stopping => 5
  | .fault => 6
  | .fenced => 7

/-- The order of R33, 0 the worst: FENCED, FAULT, STOPPING, HOLD, OFF, IDLE, ARMED, RUN. -/
def UState.order : UState → Nat
  | .fenced => 0
  | .fault => 1
  | .stopping => 2
  | .hold => 3
  | .off => 4
  | .idle => 5
  | .armed => 6
  | .run => 7

/-- The state of a STATE code; codes 8 to 15 are reserved and never reported (R29). -/
def UState.ofCode (n : Nat) : UState :=
  match n with
  | 1 => .idle
  | 2 => .armed
  | 3 => .run
  | 4 => .hold
  | 5 => .stopping
  | 6 => .fault
  | 7 => .fenced
  | _ => .off

/-- Unit classes (R25). -/
abbrev cNODE : Nat := 0x00
abbrev cSTN : Nat := 0x01
abbrev cLANE : Nat := 0x02
abbrev cAXIS : Nat := 0x03
abbrev cSTEP : Nat := 0x04
abbrev cLOOP : Nat := 0x05
abbrev cLAMP : Nat := 0x06
abbrev cACT : Nat := 0x07
abbrev cPLL : Nat := 0x08
abbrev cCLKO : Nat := 0x09
abbrev cENC : Nat := 0x0A
abbrev cCUE : Nat := 0x0B
abbrev cAIN : Nat := 0x0C
abbrev cDMA : Nat := 0x0D
abbrev cBANK : Nat := 0x0E
abbrev cXPORT : Nat := 0x0F
abbrev cMITTEN : Nat := 0x10
abbrev cTEMP : Nat := 0x11
abbrev cDOMAIN : Nat := 0x12
abbrev cSDM : Nat := 0x13
abbrev cSOS : Nat := 0x14

/-- The number of units of each class (R25). -/
def classSize : Nat → Nat
  | 0x00 => 1
  | 0x01 => 8
  | 0x02 => 256
  | 0x03 => 24
  | 0x04 => 16
  | 0x05 => 64
  | 0x06 => 16
  | 0x07 => 32
  | 0x08 => 10
  | 0x09 => 16
  | 0x0A => 48
  | 0x0B => 16
  | 0x0C => 160
  | 0x0D => 32
  | 0x0E => 32
  | 0x0F => 5
  | 0x10 => 1024
  | 0x11 => 1
  | 0x12 => 128
  | 0x13 => 48
  | 0x14 => 16
  | _ => 0

/-- The local unit id of index `i` of class `c` (R24). -/
def uid (c i : Nat) : Nat := c * 1024 + i

/-- The class of a local unit id (R24). -/
def uclass (u : Nat) : Nat := u / 1024 % 64

/-- The index of a local unit id (R24). -/
def uindex (u : Nat) : Nat := u % 1024

/-- Whether a local unit id names a unit (R25). -/
def uvalid (u : Nat) : Bool := u < 65536 && uindex u < classSize (uclass u)

/-- The NODE unit. -/
abbrev uNODE : Nat := 0
/-- The TEMP unit. -/
abbrev uTEMP : Nat := 0x4400

/-- The counters of every chapter, each under the manual's name. MISSED_PAGES is the missed-page counter of R148,
      which
no counter table lists. -/
inductive Ctr
  | BANDS_FREE | ALLOCS | RETURNS | WASTED_SLOTS | RESTARTS | OVERHOLDS | ECC_CORRECTED | ECC_UNCORRECTABLE
  | BYTES | DESC_DONE | DESC_BAD | DESC_SKIPPED | LOST_LINES | HOLD_NS | LATTICE_POS | SPEED | GLIDE_G
  | EDGES_BOUND | EDGES_UNBOUND | SHORT_BRIMS | UPSTREAM_GAPS | LATE_LINES | COAST_EVENTS | COAST_LINES
  | COAST_BLANKED | REG_CAPTURES | REG_MISSING | XCHK_EVENTS | COUNTS | QUAD_ERRORS | EDGES | FILTERED | EVENTS
  | FRAMES | DROPS_L1 | DROPS_L2 | DROPS_L3 | DROPS_L4 | DROPS_L5 | DROPS_L6 | DROPS_L7 | THINNED_NOZZLE
  | THINNED_HEAD | DOWNSIZED | INTERVAL_BLANKED | STITCH_SWAPS | AMP_CLAMPS | ENERGY_PEAK | SPIT_DROPS
  | SPIT_VOLUME | SPIT_THINNED | SPIT_TRUNCATED | NOZZLES_IN | NOZZLES_SUSPECT | NOZZLES_OUT | TO_OUT
  | EXC_INVALID | EXC_OVERFLOW | PENDING_PEAK | LEDGER_LOST | TWIN_DIFFS | V_REQUESTED | V_FIRED | V_TRIMMED
  | V_THINNED | V_UNPLACEABLE | V_BLANKED | V_LOST_INPUT | V_MOVED_OUT | V_MOVED_IN | V_DEFICIT | V_EXCESS
  | N_REQUESTED | N_FIRED | N_WEAK | N_MISSING | N_OVERFILL | N_NOSENSE | N_LATE | N_BLANKED_EVENTS | N_LOST_LINES
  | SWEEPS | SWEEPS_SYNTH | FACET_SKIPS | PHASE_FLAGS | PHASE_PEAK | EOS_CLAMPS | E_PEAK | SPURIOUS | PIX_FIRED
  | PIX_THINNED_BEAM | PIX_THINNED_STN | PIX_DOWNSIZED | SWEEPS_BLANKED | ON_PEAK | FRAMES_TX | BLOCKS_TX
  | BLOCKS_RET | CREDIT_STALLS | WRITTEN_OFF | RX_DISCARDS | SEQ_GAPS | LINK_DOWNS | MISMATCHES | TIME_OFFSET
  | TIME_DELAY | EXEC_LATE | HEAD_TEMP | CAL_GENERATION | CAL_SLOT | CAL_COMMITS | CAL_DEFERRED_BRIMS | POSITION
  | IQ | VBUS | OC_TRIPS | SHUNT_SKIPS | UNCHECKED | XCHK_FAILS | SAT_SAMPLES | REVERSALS | CURVE_ONS
  | HALL_ERRORS | LOST | MEASURED | DEV_PEAK | STALLS | HOLD_ENTRIES | MOVES_DONE | PROFILE_REVERSALS | OVERSHOOTS
  | CLAMPS | Y | R | OUT | EXECUTIONS | SAT_US | SAT_FINDINGS | BAND_LEAVES | RAMP_TURNS | SRC_HOLDS
  | CHARGE_TOTAL | CHARGE_BRIM | DUTY | ON_NS | DIAG_PULSES | BRIM_PULSES | OPEN_FINDINGS | CURRENT | VALUE
  | CONVERSIONS | LIMIT_EVENTS | LOCKS | HANDOVERS | HOLDOVERS | FOLLOW_NS | BAND | MULT_M | PHASE_PEAK_PS
  | TIME_ADJ | TIME_STEPS | SYNC_RX | UTC_OFFSET | MAC_ADDR | TEMP_NOW | TEMP_PEAK | SLOPE | WARN_EVENTS
  | STOP_EVENTS | CRIT_EVENTS | SOFT_ANOMALIES | NB_CHECKS_FAILED | LAST_SHUTDOWN | STBY_SCRATCH | FRAMES_RX
  | DEPTH | CROWN_NODE | REPARENTS | HOP_DISCARDS | VISORS | VISORS_LATE | AUDITS | AUDIT_FAULTS | TWIN_ROLE
  | EPOCH | REFEREE_NODE | LINING_LAG | RESYNCS | HB_RELAYED | LEASE_EXPIRIES | HOLD_EXPIRIES | FENCES_ISSUED
  | GRANTS_ISSUED | MISSED_PAGES
  deriving DecidableEq, Repr, Inhabited

/-- The counters of a jet STN unit in block order (R681). -/
def ctrJetStn : List Ctr := [
    .LATTICE_POS, .SPEED, .GLIDE_G, .EDGES_BOUND, .EDGES_UNBOUND, .SHORT_BRIMS, .UPSTREAM_GAPS, .LATE_LINES,
    .COAST_EVENTS, .COAST_LINES, .COAST_BLANKED, .REG_CAPTURES, .REG_MISSING, .XCHK_EVENTS, .EVENTS, .FRAMES,
    .DROPS_L1, .DROPS_L2, .DROPS_L3, .DROPS_L4, .DROPS_L5, .DROPS_L6, .DROPS_L7, .THINNED_NOZZLE, .THINNED_HEAD,
    .DOWNSIZED, .INTERVAL_BLANKED, .STITCH_SWAPS, .AMP_CLAMPS, .ENERGY_PEAK, .SPIT_DROPS, .SPIT_VOLUME,
    .SPIT_THINNED, .SPIT_TRUNCATED, .PENDING_PEAK, .LEDGER_LOST, .TWIN_DIFFS, .V_REQUESTED, .V_FIRED, .V_TRIMMED,
    .V_THINNED, .V_UNPLACEABLE, .V_BLANKED, .V_LOST_INPUT, .V_MOVED_OUT, .V_MOVED_IN, .V_DEFICIT, .V_EXCESS,
    .N_REQUESTED, .N_FIRED, .N_WEAK, .N_MISSING, .N_OVERFILL, .N_NOSENSE, .N_LATE, .N_BLANKED_EVENTS, .N_LOST_LINES]

/-- The counters of a scan STN unit in block order (R681). -/
def ctrScanStn : List Ctr := [
    .LATTICE_POS, .SPEED, .GLIDE_G, .EDGES_BOUND, .EDGES_UNBOUND, .SHORT_BRIMS, .UPSTREAM_GAPS, .LATE_LINES,
    .COAST_EVENTS, .COAST_LINES, .COAST_BLANKED, .REG_CAPTURES, .REG_MISSING, .XCHK_EVENTS, .PENDING_PEAK,
    .LEDGER_LOST, .TWIN_DIFFS, .V_REQUESTED, .V_FIRED, .V_TRIMMED, .V_THINNED, .V_UNPLACEABLE, .V_BLANKED,
    .V_LOST_INPUT, .V_MOVED_OUT, .V_MOVED_IN, .V_DEFICIT, .V_EXCESS, .N_REQUESTED, .N_FIRED, .N_WEAK, .N_MISSING,
    .N_OVERFILL, .N_NOSENSE, .N_LATE, .N_BLANKED_EVENTS, .N_LOST_LINES, .SWEEPS, .SWEEPS_SYNTH, .FACET_SKIPS,
    .PHASE_FLAGS, .PHASE_PEAK, .EOS_CLAMPS, .E_PEAK]

/-- The counters of a jet lane in block order (R681). -/
def ctrJetLane : List Ctr := [
    .EVENTS, .FRAMES, .DROPS_L1, .DROPS_L2, .DROPS_L3, .DROPS_L4, .DROPS_L5, .DROPS_L6, .DROPS_L7, .THINNED_NOZZLE,
    .THINNED_HEAD, .DOWNSIZED, .INTERVAL_BLANKED, .STITCH_SWAPS, .AMP_CLAMPS, .ENERGY_PEAK, .SPIT_DROPS,
    .NOZZLES_IN, .NOZZLES_SUSPECT, .NOZZLES_OUT, .TO_OUT, .RETURNS, .EXC_INVALID, .EXC_OVERFLOW, .FRAMES_TX,
    .BLOCKS_TX, .BLOCKS_RET, .CREDIT_STALLS, .WRITTEN_OFF, .RX_DISCARDS, .SEQ_GAPS, .LINK_DOWNS, .MISMATCHES,
    .TIME_OFFSET, .TIME_DELAY, .EXEC_LATE, .HEAD_TEMP]

/-- The counters of a beam lane in block order (R681). -/
def ctrScanLane : List Ctr := [
    .PIX_FIRED, .PIX_THINNED_BEAM, .PIX_THINNED_STN, .PIX_DOWNSIZED, .SWEEPS_BLANKED, .ON_PEAK, .FRAMES_TX,
    .BLOCKS_TX, .BLOCKS_RET, .CREDIT_STALLS, .WRITTEN_OFF, .RX_DISCARDS, .SEQ_GAPS, .LINK_DOWNS, .MISMATCHES,
    .TIME_OFFSET, .TIME_DELAY, .EXEC_LATE, .HEAD_TEMP]

/-- The LANE rows of R286, which a jet STN unit carries as sums over its lanes. -/
def ctrJetStnSum : List Ctr := [
    .EVENTS, .FRAMES, .DROPS_L1, .DROPS_L2, .DROPS_L3, .DROPS_L4, .DROPS_L5, .DROPS_L6, .DROPS_L7, .THINNED_NOZZLE,
    .THINNED_HEAD, .DOWNSIZED, .INTERVAL_BLANKED, .STITCH_SWAPS, .AMP_CLAMPS, .ENERGY_PEAK, .SPIT_DROPS]

/-- The counters of the classes other than STN and LANE, in block order (R681). -/
def ctrOfClass (c : Nat) : List Ctr :=
  if c = cNODE then [.CAL_GENERATION, .CAL_SLOT, .CAL_COMMITS, .CAL_DEFERRED_BRIMS, .TIME_OFFSET, .TIME_ADJ,
      .TIME_STEPS, .SYNC_RX, .UTC_OFFSET, .MAC_ADDR, .LAST_SHUTDOWN, .STBY_SCRATCH, .DEPTH, .CROWN_NODE,
      .REPARENTS, .HOP_DISCARDS, .VISORS, .VISORS_LATE, .AUDITS, .AUDIT_FAULTS, .TWIN_ROLE, .EPOCH, .REFEREE_NODE,
      .LINING_LAG, .RESYNCS, .HB_RELAYED, .LEASE_EXPIRIES, .HOLD_EXPIRIES, .FENCES_ISSUED, .GRANTS_ISSUED]
  else if c = cAXIS then [.SPEED, .POSITION, .IQ, .VBUS, .OC_TRIPS, .SHUNT_SKIPS, .UNCHECKED, .XCHK_FAILS,
      .SAT_SAMPLES, .REVERSALS, .CURVE_ONS, .HALL_ERRORS, .MOVES_DONE, .PROFILE_REVERSALS, .OVERSHOOTS, .CLAMPS]
  else if c = cSTEP then [.POSITION, .MEASURED, .DEV_PEAK, .STALLS, .OC_TRIPS, .HOLD_ENTRIES, .MOVES_DONE,
      .PROFILE_REVERSALS, .OVERSHOOTS, .CLAMPS]
  else if c = cLOOP then [.Y, .R, .OUT, .EXECUTIONS, .SAT_US, .SAT_FINDINGS, .BAND_LEAVES, .RAMP_TURNS, .SRC_HOLDS,
      .CHARGE_TOTAL, .CHARGE_BRIM]
  else if c = cLAMP then [.DUTY, .ON_NS, .DIAG_PULSES, .BRIM_PULSES, .OPEN_FINDINGS, .CURRENT]
  else if c = cACT then [.DUTY]
  else if c = cPLL then [.LOCKS, .HANDOVERS, .HOLDOVERS, .HOLD_NS, .FOLLOW_NS, .BAND, .MULT_M, .PHASE_PEAK_PS]
  else if c = cENC then [.COUNTS, .QUAD_ERRORS]
  else if c = cCUE then [.EDGES, .FILTERED]
  else if c = cAIN then [.VALUE, .CONVERSIONS, .LIMIT_EVENTS]
  else if c = cDMA then [.BYTES, .DESC_DONE, .DESC_BAD, .DESC_SKIPPED, .LOST_LINES, .HOLD_NS]
  else if c = cBANK then [.BANDS_FREE, .ALLOCS, .RETURNS, .WASTED_SLOTS, .RESTARTS, .OVERHOLDS, .ECC_CORRECTED,
      .ECC_UNCORRECTABLE]
  else if c = cXPORT then [.FRAMES_TX, .FRAMES_RX, .RX_DISCARDS, .CREDIT_STALLS, .LINK_DOWNS]
  else if c = cMITTEN then [.AUDITS, .AUDIT_FAULTS]
  else if c = cTEMP then [.TEMP_NOW, .TEMP_PEAK, .SLOPE, .WARN_EVENTS, .STOP_EVENTS, .CRIT_EVENTS, .SOFT_ANOMALIES,
      .NB_CHECKS_FAILED]
  else if c = cDOMAIN then [.ON_NS]
  else if c = cSDM then [.LOST]
  else if c = cSOS then [.EDGES, .SPURIOUS]
  else []

end Sys2Proof.Machine
end

