-- ==== Sys2Proof/Machine/Layouts.lean ====
section
/-! DEFINITION. The layouts of the configuration records: every field with its bits, its default and its range, every
reserved range, the body length and the reason code, as the record tables of the chapters give them. -/

namespace Sys2Proof.Machine

/-- The record types (R55). -/
inductive RT
  | node | pll | clko | time | stnPlace | enc | cue | stnJet | nozzleMap | waveform | waveset | stitchMask
  | spitPattern | stnScan | facetDelay | pulsePattern | sos | lane | health | calDefaults | testPattern | axis
  | sdm | blowerCurve | step | microstepTable | profile | loop | lamp | act | ain | thermal | domain | bank
  | dma | host | xport | mitten | fabric | twin | referee | startup
  deriving DecidableEq, Repr, Inhabited

/-- The fields of the configuration records, under the manual's names. -/
inductive F
  | FLASH_CS1_MIB | FLASH_CS0_MIB | CAL_CS | NODE_ID | LOCK_TOL_PS | UNLOCK_TOL_PS | BW_LOG2 | TC_POINTS | DIV
  | SOURCE | TAP | FORMAT | START | PARK | INVERT | PTP_DOMAIN | PRIORITY1 | PRIORITY2 | IP_PREFIX
  | PPS_DELAY_NS | SLEW_PPB | STEP_NS | FAB_PERIOD_MS | LOG_SYNC | LOG_ANNOUNCE | LOG_DELAY_REQ
  | ANNOUNCE_TIMEOUT | TIME_SRC | ETH_MODE | TRANSPORT | DELAY_MECH | TWO_STEP | PPS_POL | SCALE_NUM
  | SCALE_DEN | WEB_REPEAT | STN_OFFSET | REG_OFFSET | LEAD_NS | BRIM_MIN_LINES | GLIDE_SLOPE | XCHK_TOL
  | REG_WINDOW | UPSTREAM_NODE | VMAX_MM_S | COAST_MAX | REG_GAIN | PRI_ENC | SEC_ENC | LE_CUE | REG_CUE
  | UPSTREAM_STN | SPEED_WIN | LE_SRC | SEC_EN | XCHK_ACTION | REG_EN | ACCEL_EN | WEB | COUNT_NM | MODE
  | DIR_INVERT | SSI_BITS | SSI_CLK_MHZ | SSI_PERIOD_US | HOLDOFF_US | LATENCY_NS | FILTER_NS | POLARITY
  | PLANE_COLS | LINE_RATE_MAX | HEAD_E_MAX | HEAD_TYPE | AMP_MIN | AMP_MAX | AMP_STEP | DUTY_M | DUTY_ACTION
  | BUILD_AHEAD | MASK_PHASE | SPIT_AUTO_IDX | SPIT_AUTO_EN | SPIT_GAP_LINES | IDLE_SPIT_MS
  | IDLE_SPIT_PERIOD_US | LANE_MASK | STITCH_SWAP_EN | COL_BASE | NOZZLES | ROWS_M1 | ROW3_LINES | ROW2_LINES
  | ROW1_LINES | ROW0_LINES | ROW3_PU | ROW2_PU | ROW1_PU | ROW0_PU | SWEEP_PIXELS | PIX_PER_FACET
  | SOS_TO_IMAGE | SE_PIXELS | STN_E_MAX | STN_WIN_SWEEPS | BEAM_ON_MAX | PHASE_SLEW | PHASE_TOL | SOS_WIN
  | EOS_TRIM_MAX | FACET0_ANGLE | POLY_AXIS | BEAMS | FACETS_M1 | EOS_FILT | LATENCY_PS | BUF_MIN
  | TIME_PERIOD_US | ASYM_PS | RETURN_SLACK_US | TELEM_PERIOD_US | KIND | FALLBACK_EN | FORCE_LOW | TX_INVERT
  | RX_INVERT | OUT_K | WINDOW_EVENTS | SPREAD_MAX | CHECK_PATTERN | CHECK_FIRES | MISSING_OUT
  | OVERFILL_COUNTS | PARTNER_EN | CHECK_EN | APPLY_LEAD_US | RUNG_LINES | COMB_PITCH | BLOCK_LINES
  | MARK_LEVEL | XCHK_SUM | XCHK_AGREE | HALL_OFFSET | FOLLOW_RPM | ID_REF | ALIGN_I | VBUS_MIN_V | VBUS_MAX_V
  | FOLLOW_MS | ALIGN_MS | SPEED_TOL_RPM | XCHK_COUNT | KP_I | KI_I | KP_W | KI_W | KP_P | KP_PH | KI_PH
  | REF_VALUE | COUNTS_PER_REV | ANGLE_OFFSET | IQ_MAX | OC_LIMIT | W_MAX | ACC_RPM_S | DEC_RPM_S | PWM_PHASE
  | PWM_HALF | DEADTIME | GATE_POL | SHUNT_WIN_NS | MOD_MAX | SHUNT_U_AIN | SHUNT_V_AIN | SHUNT_W_AIN
  | VBUS_AIN | ENC | HALL_ENC | REF_IDX | POLE_PAIRS | REF_SRC | ANGLE_SRC | SPEED_DIV_M1 | LOOP_DIV_M1
  | PHASE_STN | SAFE_STATE | ACTION | OSR | FAST_OSR | MCLK_DIV | MCLK_SEL | MCLK_EDGE | FS | OFFSET | T_ON
  | T_OFF | POINTS | IN_SRC | IN_IDX | IN_FILT | IRUN | IHOLD | KP_C | KI_C | STEP_PER_COUNT | STALL_W
  | HOLD_DELAY_MS | STALL_MS | CHOP_HALF | SENSE_WIN_NS | DMAX | SENSE_A_AIN | SENSE_B_AIN | USTEP_LOG2 | DECAY
  | MIX | STALL_ACTION | OUT_POL | TGT_OFFSET | POS_MIN | POS_MAX | VMAX | ACC | DEC | TGT_SCALE | TGT_SRC
  | TGT_IDX | TGT_DEADBAND | KP | KI | KD | KFF | B0 | B1 | B2 | A1 | A2 | OUT_MIN | OUT_MAX | SAFE_OUT
  | SP_VALUE | RAMP_RATE | BAND | PHASE_US | T_SAT_MS | SAT_WIN_MS | SAT_FRAC | BAND_SAMPLES | SRC_HOLD_MS
  | KP_SH | KI_SH | KD_SH | KFF_SH | B0_SH | B1_SH | B2_SH | A1_SH | A2_SH | DF_SH | SRC_KIND | SRC_IDX
  | SRC_CNT_M1 | SP_SRC | SP_IDX | DST_KIND | DST_IDX | DST_CNT_M1 | SAT_ACTION | CHARGE_EN | CHARGE_STN
  | BQ_EN | PERIOD_T | DUTY_MAX | OPEN_MA | OC_MA | T_DIAG_NS | N_DIAG | SENSE_AIN | LAMP_STN | DIAG_EN
  | OPEN_COUNT | SAFE_DUTY | DUTY_MIN | ENABLE_LOOP | LIMIT_HI | LIMIT_LO | GAIN | ELEC_MAX | ELEC_MIN
  | GAIN_SH | FILT | UNIT | LIMIT_SAFE | NB0_NODE | NB1_NODE | NB2_NODE | NB3_NODE | NB0_OFS | NB1_OFS
  | NB2_OFS | NB3_OFS | NB_COUNT | BG_POINTS | BLIND_FINISH_MS | FORCE_ON | WEIGHT_M1 | STN_MASK | SYS_BANDS
  | TICKET_USE | METERED | WPORT | SHARE | BURST_KIB | MAX_READS | ARM_MARGIN_US | PREFILL_LINES | PAGES_MAX
  | CQ_COALESCE_US | EVENT_VEC | MAX_RATE | MAX_WIDTH | EVENT_MIN_SEV | PEER_NODE | PEER_PORT | ROLE | LANES
  | TWIN | COUNT | CROWN_PRIO | VISOR_LEAD_US | VISOR_TIMEOUT_MS | AUDIT_PERIOD_MS | CROWN_LOST_MS | DEPTH_MAX
  | PARTNER_NODE | REF0_NODE | REF1_NODE | REF2_NODE | REF3_NODE | MITTEN_IDX | REF_LOST_MS | HOLD_MAX_MS
  | LINING_LAG_US | INITIAL_ACTIVE | SWAP_PIN_EN | PAIR_HI | FENCE_LO | FENCE_HI | LIVE_WAIT_MS | TIME_WAIT_S
  | REQUIRE_TIME | ENGAGE_SRC | CROWN_WAIT_MS | DOMAIN_STEP_US | DOMAIN_STEP_MAX | STOP_MAX_MS
  deriving DecidableEq, Repr, Inhabited

/-- One field of a layout: its bits, default, range and whether it is two's complement. -/
structure Field where
  f : F
  hi : Nat
  lo : Nat
  dflt : Int
  min : Int
  max : Int
  signed : Bool
  deriving DecidableEq, Repr

/-- The fields of a record body (the rule of each layout stands beside it). -/
def RT.fields : RT → List Field
  | .node => [  -- R56
      ⟨.FLASH_CS1_MIB, 63, 48, 0, 0, 65535, false⟩, ⟨.FLASH_CS0_MIB, 47, 32, 128, 128, 65535, false⟩,
      ⟨.CAL_CS, 16, 16, 0, 0, 1, false⟩, ⟨.NODE_ID, 15, 0, 0, 0, 65535, false⟩]
  | .pll => [  -- R561
      ⟨.LOCK_TOL_PS, 127, 112, 50, 5, 1000, false⟩, ⟨.UNLOCK_TOL_PS, 111, 96, 500, 0, 65535, false⟩,
      ⟨.BW_LOG2, 95, 92, 6, 2, 12, false⟩, ⟨.TC_POINTS, 91, 87, 0, 0, 16, false⟩]
  | .clko => [  -- R562
      ⟨.DIV, 63, 40, 0, 0, 16777215, false⟩, ⟨.SOURCE, 39, 36, 0, 0, 9, false⟩,
      ⟨.TAP, 35, 34, 0, 0, 2, false⟩, ⟨.FORMAT, 33, 31, 0, 0, 4, false⟩,
      ⟨.START, 30, 30, 0, 0, 1, false⟩, ⟨.PARK, 29, 29, 0, 0, 1, false⟩,
      ⟨.INVERT, 28, 28, 0, 0, 1, false⟩]
  | .time => [  -- R563
      ⟨.PTP_DOMAIN, 255, 248, 0, 0, 127, false⟩, ⟨.PRIORITY1, 247, 240, 128, 0, 255, false⟩,
      ⟨.PRIORITY2, 239, 232, 128, 0, 255, false⟩, ⟨.IP_PREFIX, 231, 216, 49320, 0, 65535, false⟩,
      ⟨.PPS_DELAY_NS, 215, 200, 0, 0, 65535, false⟩, ⟨.SLEW_PPB, 199, 186, 1000, 10, 10000, false⟩,
      ⟨.STEP_NS, 185, 170, 1000, 100, 65535, false⟩, ⟨.FAB_PERIOD_MS, 169, 162, 32, 4, 255, false⟩,
      ⟨.LOG_SYNC, 161, 158, -3, -7, 4, true⟩, ⟨.LOG_ANNOUNCE, 157, 154, 0, -3, 4, true⟩,
      ⟨.LOG_DELAY_REQ, 153, 150, 0, -7, 4, true⟩, ⟨.ANNOUNCE_TIMEOUT, 149, 146, 3, 2, 10, false⟩,
      ⟨.TIME_SRC, 145, 144, 0, 0, 2, false⟩, ⟨.ETH_MODE, 143, 142, 0, 0, 2, false⟩,
      ⟨.TRANSPORT, 141, 141, 0, 0, 1, false⟩, ⟨.DELAY_MECH, 140, 140, 0, 0, 1, false⟩,
      ⟨.TWO_STEP, 139, 139, 1, 0, 1, false⟩, ⟨.PPS_POL, 138, 138, 0, 0, 1, false⟩]
  | .stnPlace => [  -- R239
      ⟨.SCALE_NUM, 383, 352, 0, 0, 4294967295, false⟩, ⟨.SCALE_DEN, 351, 320, 1, 0, 4294967295, false⟩,
      ⟨.WEB_REPEAT, 319, 272, 0, 0, 281474976710655, false⟩, ⟨.STN_OFFSET, 271, 240, 0, -2147483648, 2147483647, true⟩,
      ⟨.REG_OFFSET, 239, 208, 0, -2147483648, 2147483647, true⟩, ⟨.LEAD_NS, 207, 192, 2000, 500, 50000, false⟩,
      ⟨.BRIM_MIN_LINES, 191, 176, 256, 16, 65535, false⟩, ⟨.GLIDE_SLOPE, 175, 160, 256, 1, 4096, false⟩,
      ⟨.XCHK_TOL, 159, 144, 256, 1, 65535, false⟩, ⟨.REG_WINDOW, 143, 128, 2048, 1, 65535, false⟩,
      ⟨.UPSTREAM_NODE, 127, 112, 0, 0, 65535, false⟩, ⟨.VMAX_MM_S, 111, 98, 10000, 1, 10000, false⟩,
      ⟨.COAST_MAX, 97, 85, 512, 1, 4096, false⟩, ⟨.REG_GAIN, 84, 77, 64, 1, 255, false⟩,
      ⟨.PRI_ENC, 76, 71, 0, 0, 47, false⟩, ⟨.SEC_ENC, 70, 65, 0, 0, 47, false⟩,
      ⟨.LE_CUE, 64, 61, 0, 0, 15, false⟩, ⟨.REG_CUE, 60, 57, 0, 0, 15, false⟩,
      ⟨.UPSTREAM_STN, 56, 54, 0, 0, 7, false⟩, ⟨.SPEED_WIN, 53, 51, 3, 1, 6, false⟩,
      ⟨.LE_SRC, 50, 49, 0, 0, 1, false⟩, ⟨.SEC_EN, 48, 48, 0, 0, 1, false⟩,
      ⟨.XCHK_ACTION, 47, 47, 0, 0, 1, false⟩, ⟨.REG_EN, 46, 46, 0, 0, 1, false⟩,
      ⟨.ACCEL_EN, 45, 45, 1, 0, 1, false⟩, ⟨.WEB, 44, 44, 0, 0, 1, false⟩]
  | .enc => [  -- R211
      ⟨.COUNT_NM, 63, 32, 0, 1, 4294967295, false⟩, ⟨.MODE, 31, 30, 0, 0, 1, false⟩,
      ⟨.DIR_INVERT, 29, 29, 0, 0, 1, false⟩, ⟨.SSI_BITS, 28, 24, 0, 0, 31, false⟩,
      ⟨.SSI_CLK_MHZ, 23, 20, 0, 0, 15, false⟩, ⟨.SSI_PERIOD_US, 19, 12, 0, 0, 255, false⟩]
  | .cue => [  -- R240
      ⟨.HOLDOFF_US, 63, 48, 1000, 0, 65535, false⟩, ⟨.LATENCY_NS, 47, 32, 0, 0, 65535, false⟩,
      ⟨.FILTER_NS, 31, 18, 20, 0, 10000, false⟩, ⟨.MODE, 17, 16, 0, 0, 1, false⟩,
      ⟨.POLARITY, 15, 15, 0, 0, 1, false⟩]
  | .stnJet => [  -- R284
      ⟨.PLANE_COLS, 255, 238, 0, 1, 131072, false⟩, ⟨.LINE_RATE_MAX, 237, 220, 200000, 1000, 200000, false⟩,
      ⟨.HEAD_E_MAX, 219, 188, 0, 1, 4294967295, false⟩, ⟨.HEAD_TYPE, 187, 172, 0, 0, 65535, false⟩,
      ⟨.AMP_MIN, 171, 156, 8192, 4096, 16384, false⟩, ⟨.AMP_MAX, 155, 140, 24576, 16384, 32768, false⟩,
      ⟨.AMP_STEP, 139, 128, 16, 1, 4095, false⟩, ⟨.DUTY_M, 127, 121, 48, 1, 64, false⟩,
      ⟨.DUTY_ACTION, 120, 119, 0, 0, 1, false⟩, ⟨.BUILD_AHEAD, 118, 113, 4, 2, 63, false⟩,
      ⟨.MASK_PHASE, 112, 107, 0, 0, 63, false⟩, ⟨.SPIT_AUTO_IDX, 106, 103, 0, 0, 15, false⟩,
      ⟨.SPIT_AUTO_EN, 102, 102, 0, 0, 1, false⟩, ⟨.SPIT_GAP_LINES, 101, 86, 32, 0, 65535, false⟩,
      ⟨.IDLE_SPIT_MS, 85, 70, 0, 0, 65535, false⟩, ⟨.IDLE_SPIT_PERIOD_US, 69, 54, 100, 5, 65535, false⟩,
      ⟨.LANE_MASK, 53, 22, 4294967295, 0, 4294967295, false⟩, ⟨.STITCH_SWAP_EN, 21, 21, 1, 0, 1, false⟩]
  | .nozzleMap => [  -- R245
      ⟨.COL_BASE, 127, 111, 0, 0, 131071, false⟩, ⟨.NOZZLES, 110, 98, 0, 1, 4096, false⟩,
      ⟨.ROWS_M1, 97, 96, 0, 0, 3, false⟩, ⟨.ROW3_LINES, 95, 84, 0, 0, 4095, false⟩,
      ⟨.ROW2_LINES, 83, 72, 0, 0, 4095, false⟩, ⟨.ROW1_LINES, 71, 60, 0, 0, 4095, false⟩,
      ⟨.ROW0_LINES, 59, 48, 0, 0, 4095, false⟩, ⟨.ROW3_PU, 47, 40, 0, 0, 255, false⟩,
      ⟨.ROW2_PU, 39, 32, 0, 0, 255, false⟩, ⟨.ROW1_PU, 31, 24, 0, 0, 255, false⟩,
      ⟨.ROW0_PU, 23, 16, 0, 0, 255, false⟩]
  | .waveform => []  -- R261
  | .waveset => []  -- R264
  | .stitchMask => []  -- R258
  | .spitPattern => []  -- R276
  | .stnScan => [  -- R352
      ⟨.SWEEP_PIXELS, 255, 239, 0, 1, 65536, false⟩, ⟨.PIX_PER_FACET, 238, 221, 0, 2, 262143, false⟩,
      ⟨.SOS_TO_IMAGE, 220, 205, 1024, 128, 65535, false⟩, ⟨.SE_PIXELS, 204, 187, 0, 0, 262143, false⟩,
      ⟨.STN_E_MAX, 186, 155, 0, 0, 4294967295, false⟩, ⟨.STN_WIN_SWEEPS, 154, 147, 16, 1, 255, false⟩,
      ⟨.BEAM_ON_MAX, 146, 139, 128, 1, 255, false⟩, ⟨.PHASE_SLEW, 138, 131, 32, 1, 128, false⟩,
      ⟨.PHASE_TOL, 130, 123, 32, 1, 255, false⟩, ⟨.SOS_WIN, 122, 115, 16, 1, 255, false⟩,
      ⟨.EOS_TRIM_MAX, 114, 107, 64, 1, 255, false⟩, ⟨.FACET0_ANGLE, 106, 91, 0, 0, 65535, false⟩,
      ⟨.POLY_AXIS, 90, 86, 0, 0, 23, false⟩, ⟨.BEAMS, 85, 80, 0, 1, 32, false⟩,
      ⟨.FACETS_M1, 79, 76, 0, 0, 15, false⟩, ⟨.EOS_FILT, 75, 73, 2, 0, 7, false⟩,
      ⟨.DUTY_ACTION, 72, 71, 0, 0, 1, false⟩]
  | .facetDelay => []  -- R353
  | .pulsePattern => []  -- R354
  | .sos => [  -- R356
      ⟨.LATENCY_PS, 63, 48, 0, 0, 65535, false⟩, ⟨.FILTER_NS, 47, 40, 2, 2, 255, false⟩,
      ⟨.POLARITY, 39, 39, 0, 0, 1, false⟩]
  | .lane => [  -- R397
      ⟨.NOZZLES, 127, 115, 0, 1, 4096, false⟩, ⟨.BUF_MIN, 114, 99, 1024, 16, 65535, false⟩,
      ⟨.TIME_PERIOD_US, 98, 83, 100, 10, 10000, false⟩, ⟨.ASYM_PS, 82, 67, 0, -32768, 32767, true⟩,
      ⟨.RETURN_SLACK_US, 66, 51, 50, 10, 65535, false⟩, ⟨.TELEM_PERIOD_US, 50, 35, 1000, 100, 65535, false⟩,
      ⟨.KIND, 34, 34, 0, 0, 1, false⟩, ⟨.FALLBACK_EN, 33, 33, 1, 0, 1, false⟩,
      ⟨.FORCE_LOW, 32, 32, 0, 0, 1, false⟩, ⟨.TX_INVERT, 31, 31, 0, 0, 1, false⟩,
      ⟨.RX_INVERT, 30, 30, 0, 0, 1, false⟩]
  | .health => [  -- R316
      ⟨.OUT_K, 63, 59, 3, 1, 16, false⟩, ⟨.WINDOW_EVENTS, 58, 43, 4096, 16, 65535, false⟩,
      ⟨.SPREAD_MAX, 42, 39, 2, 0, 8, false⟩, ⟨.CHECK_PATTERN, 38, 35, 0, 0, 15, false⟩,
      ⟨.CHECK_FIRES, 34, 27, 8, 1, 255, false⟩, ⟨.MISSING_OUT, 26, 26, 1, 0, 1, false⟩,
      ⟨.OVERFILL_COUNTS, 25, 25, 1, 0, 1, false⟩, ⟨.PARTNER_EN, 24, 24, 1, 0, 1, false⟩,
      ⟨.CHECK_EN, 23, 23, 0, 0, 1, false⟩]
  | .calDefaults => [  -- R423
      ⟨.APPLY_LEAD_US, 63, 48, 200, 10, 10000, false⟩]
  | .testPattern => [  -- R405
      ⟨.RUNG_LINES, 63, 52, 64, 8, 4095, false⟩, ⟨.COMB_PITCH, 51, 44, 16, 2, 255, false⟩,
      ⟨.BLOCK_LINES, 43, 32, 128, 8, 4095, false⟩, ⟨.MARK_LEVEL, 31, 29, 4, 1, 7, false⟩]
  | .axis => [  -- R466
      ⟨.XCHK_SUM, 639, 628, 50, 1, 4095, false⟩, ⟨.XCHK_AGREE, 627, 616, 50, 1, 4095, false⟩,
      ⟨.HALL_OFFSET, 615, 608, 0, 0, 255, false⟩, ⟨.FOLLOW_RPM, 607, 592, 200, 1, 65535, false⟩,
      ⟨.ID_REF, 591, 576, 0, -32768, 32767, true⟩, ⟨.ALIGN_I, 575, 560, 0, 0, 65535, false⟩,
      ⟨.VBUS_MIN_V, 559, 550, 10, 1, 1023, false⟩, ⟨.VBUS_MAX_V, 549, 540, 60, 1, 1023, false⟩,
      ⟨.FOLLOW_MS, 539, 532, 50, 1, 255, false⟩, ⟨.ALIGN_MS, 531, 524, 100, 1, 255, false⟩,
      ⟨.SPEED_TOL_RPM, 523, 516, 20, 1, 255, false⟩, ⟨.XCHK_COUNT, 515, 512, 4, 1, 15, false⟩,
      ⟨.KP_I, 511, 480, 0, -2147483648, 2147483647, true⟩, ⟨.KI_I, 479, 448, 0, -2147483648, 2147483647, true⟩,
      ⟨.KP_W, 447, 416, 0, -2147483648, 2147483647, true⟩, ⟨.KI_W, 415, 384, 0, -2147483648, 2147483647, true⟩,
      ⟨.KP_P, 383, 352, 0, -2147483648, 2147483647, true⟩, ⟨.KP_PH, 351, 320, 0, -2147483648, 2147483647, true⟩,
      ⟨.KI_PH, 319, 288, 0, -2147483648, 2147483647, true⟩, ⟨.REF_VALUE, 287, 256, 0, -2147483648, 2147483647, true⟩,
      ⟨.COUNTS_PER_REV, 255, 232, 4096, 4, 16777215, false⟩, ⟨.ANGLE_OFFSET, 231, 216, 0, 0, 65535, false⟩,
      ⟨.IQ_MAX, 215, 200, 0, 1, 65535, false⟩, ⟨.OC_LIMIT, 199, 184, 0, 0, 65535, false⟩,
      ⟨.W_MAX, 183, 168, 0, 1, 65535, false⟩, ⟨.ACC_RPM_S, 167, 152, 1000, 1, 65535, false⟩,
      ⟨.DEC_RPM_S, 151, 136, 1000, 1, 65535, false⟩, ⟨.PWM_PHASE, 135, 120, 0, 0, 65535, false⟩,
      ⟨.PWM_HALF, 119, 105, 5000, 2000, 20000, false⟩, ⟨.DEADTIME, 104, 97, 40, 4, 255, false⟩,
      ⟨.GATE_POL, 96, 96, 0, 0, 1, false⟩, ⟨.SHUNT_WIN_NS, 95, 84, 1200, 200, 4095, false⟩,
      ⟨.MOD_MAX, 83, 76, 240, 128, 255, false⟩, ⟨.SHUNT_U_AIN, 75, 68, 0, 0, 159, false⟩,
      ⟨.SHUNT_V_AIN, 67, 60, 0, 0, 159, false⟩, ⟨.SHUNT_W_AIN, 59, 52, 0, 0, 159, false⟩,
      ⟨.VBUS_AIN, 51, 44, 0, 0, 159, false⟩, ⟨.ENC, 43, 38, 0, 0, 47, false⟩,
      ⟨.HALL_ENC, 37, 32, 0, 0, 47, false⟩, ⟨.REF_IDX, 31, 24, 0, 0, 255, false⟩,
      ⟨.POLE_PAIRS, 23, 19, 1, 1, 31, false⟩, ⟨.MODE, 18, 16, 1, 0, 4, false⟩,
      ⟨.REF_SRC, 15, 14, 0, 0, 3, false⟩, ⟨.ANGLE_SRC, 13, 12, 0, 0, 2, false⟩,
      ⟨.SPEED_DIV_M1, 11, 8, 3, 0, 15, false⟩, ⟨.LOOP_DIV_M1, 7, 6, 0, 0, 3, false⟩,
      ⟨.PHASE_STN, 5, 3, 0, 0, 7, false⟩, ⟨.SAFE_STATE, 2, 2, 0, 0, 1, false⟩,
      ⟨.ACTION, 1, 0, 2, 0, 2, false⟩]
  | .sdm => [  -- R467
      ⟨.OSR, 63, 55, 128, 16, 256, false⟩, ⟨.FAST_OSR, 54, 48, 16, 8, 64, false⟩,
      ⟨.MCLK_DIV, 47, 40, 20, 16, 80, false⟩, ⟨.MCLK_SEL, 39, 37, 0, 0, 7, false⟩,
      ⟨.MCLK_EDGE, 36, 36, 0, 0, 1, false⟩, ⟨.FS, 35, 20, 0, 1, 65535, false⟩,
      ⟨.OFFSET, 19, 4, 0, -32768, 32767, true⟩]
  | .blowerCurve => [  -- R468
      ⟨.T_ON, 127, 96, 0, -2147483648, 2147483647, true⟩, ⟨.T_OFF, 95, 64, 0, -2147483648, 2147483647, true⟩,
      ⟨.POINTS, 63, 56, 0, 2, 32, false⟩, ⟨.IN_SRC, 55, 54, 0, 0, 3, false⟩,
      ⟨.IN_IDX, 53, 46, 0, 0, 255, false⟩, ⟨.IN_FILT, 45, 42, 0, 0, 15, false⟩]
  | .step => [  -- R493
      ⟨.IRUN, 255, 240, 0, 1, 65535, false⟩, ⟨.IHOLD, 239, 224, 0, 0, 65535, false⟩,
      ⟨.OC_LIMIT, 223, 208, 0, 0, 65535, false⟩, ⟨.KP_C, 207, 176, 0, -2147483648, 2147483647, true⟩,
      ⟨.KI_C, 175, 144, 0, -2147483648, 2147483647, true⟩, ⟨.STEP_PER_COUNT, 143, 112, 0, 0, 4294967295, false⟩,
      ⟨.STALL_W, 111, 96, 64, 1, 65535, false⟩, ⟨.HOLD_DELAY_MS, 95, 80, 100, 0, 65535, false⟩,
      ⟨.STALL_MS, 79, 72, 20, 1, 255, false⟩, ⟨.CHOP_HALF, 71, 57, 5000, 2000, 20000, false⟩,
      ⟨.SENSE_WIN_NS, 56, 45, 500, 200, 4095, false⟩, ⟨.DMAX, 44, 37, 240, 128, 255, false⟩,
      ⟨.SENSE_A_AIN, 36, 29, 0, 0, 159, false⟩, ⟨.SENSE_B_AIN, 28, 21, 0, 0, 159, false⟩,
      ⟨.ENC, 20, 15, 0, 0, 47, false⟩, ⟨.USTEP_LOG2, 14, 11, 4, 0, 8, false⟩,
      ⟨.DECAY, 10, 9, 2, 0, 2, false⟩, ⟨.MIX, 8, 5, 4, 1, 15, false⟩,
      ⟨.STALL_ACTION, 4, 3, 0, 0, 2, false⟩, ⟨.OUT_POL, 2, 2, 0, 0, 1, false⟩,
      ⟨.DIR_INVERT, 1, 1, 0, 0, 1, false⟩]
  | .microstepTable => []  -- R479
  | .profile => [  -- R494
      ⟨.TGT_OFFSET, 383, 320, 0, -9223372036854775808, 9223372036854775807, true⟩, ⟨.POS_MIN, 319, 256, -4611686018427387904, -9223372036854775808, 9223372036854775807, true⟩,
      ⟨.POS_MAX, 255, 192, 4611686018427387904, -9223372036854775808, 9223372036854775807, true⟩, ⟨.VMAX, 191, 160, 0, 1, 4294967295, false⟩,
      ⟨.ACC, 159, 128, 0, 1, 4294967295, false⟩, ⟨.DEC, 127, 96, 0, 1, 4294967295, false⟩,
      ⟨.TGT_SCALE, 95, 64, 65536, -2147483648, 2147483647, true⟩, ⟨.TGT_SRC, 63, 62, 0, 0, 3, false⟩,
      ⟨.TGT_IDX, 61, 54, 0, 0, 255, false⟩, ⟨.TGT_DEADBAND, 53, 38, 0, 0, 65535, false⟩]
  | .loop => [  -- R531
      ⟨.KP, 767, 736, 0, -2147483648, 2147483647, true⟩, ⟨.KI, 735, 704, 0, -2147483648, 2147483647, true⟩,
      ⟨.KD, 703, 672, 0, -2147483648, 2147483647, true⟩, ⟨.KFF, 671, 640, 0, -2147483648, 2147483647, true⟩,
      ⟨.B0, 639, 608, 1, -2147483648, 2147483647, true⟩, ⟨.B1, 607, 576, 0, -2147483648, 2147483647, true⟩,
      ⟨.B2, 575, 544, 0, -2147483648, 2147483647, true⟩, ⟨.A1, 543, 512, 0, -2147483648, 2147483647, true⟩,
      ⟨.A2, 511, 480, 0, -2147483648, 2147483647, true⟩, ⟨.OUT_MIN, 479, 448, 0, -2147483648, 2147483647, true⟩,
      ⟨.OUT_MAX, 447, 416, 0, -2147483648, 2147483647, true⟩, ⟨.SAFE_OUT, 415, 384, 0, -2147483648, 2147483647, true⟩,
      ⟨.SP_VALUE, 383, 352, 0, -2147483648, 2147483647, true⟩, ⟨.RAMP_RATE, 351, 320, 0, 1, 4294967295, false⟩,
      ⟨.BAND, 319, 288, 0, 0, 4294967295, false⟩, ⟨.DIV, 287, 272, 100, 10, 65535, false⟩,
      ⟨.PHASE_US, 271, 256, 0, 0, 65535, false⟩, ⟨.T_SAT_MS, 255, 240, 1000, 1, 65535, false⟩,
      ⟨.SAT_WIN_MS, 239, 224, 10000, 1, 65535, false⟩, ⟨.SAT_FRAC, 223, 216, 192, 1, 255, false⟩,
      ⟨.BAND_SAMPLES, 215, 208, 16, 1, 255, false⟩, ⟨.SRC_HOLD_MS, 207, 200, 20, 1, 255, false⟩,
      ⟨.KP_SH, 199, 195, 16, 0, 31, false⟩, ⟨.KI_SH, 194, 190, 16, 0, 31, false⟩,
      ⟨.KD_SH, 189, 185, 16, 0, 31, false⟩, ⟨.KFF_SH, 184, 180, 16, 0, 31, false⟩,
      ⟨.B0_SH, 179, 175, 0, 0, 31, false⟩, ⟨.B1_SH, 174, 170, 0, 0, 31, false⟩,
      ⟨.B2_SH, 169, 165, 0, 0, 31, false⟩, ⟨.A1_SH, 164, 160, 0, 0, 31, false⟩,
      ⟨.A2_SH, 159, 155, 0, 0, 31, false⟩, ⟨.DF_SH, 154, 151, 0, 0, 15, false⟩,
      ⟨.SRC_KIND, 150, 148, 0, 0, 4, false⟩, ⟨.SRC_IDX, 147, 140, 0, 0, 255, false⟩,
      ⟨.SRC_CNT_M1, 139, 134, 0, 0, 31, false⟩, ⟨.SP_SRC, 133, 131, 0, 0, 4, false⟩,
      ⟨.SP_IDX, 130, 123, 0, 0, 255, false⟩, ⟨.DST_KIND, 122, 120, 0, 0, 5, false⟩,
      ⟨.DST_IDX, 119, 112, 0, 0, 255, false⟩, ⟨.DST_CNT_M1, 111, 106, 0, 0, 31, false⟩,
      ⟨.SAT_ACTION, 105, 104, 0, 0, 2, false⟩, ⟨.CHARGE_EN, 103, 103, 0, 0, 1, false⟩,
      ⟨.CHARGE_STN, 102, 100, 0, 0, 7, false⟩, ⟨.BQ_EN, 99, 99, 0, 0, 1, false⟩]
  | .lamp => [  -- R529
      ⟨.PERIOD_T, 191, 160, 0, 400, 4000000, false⟩, ⟨.DUTY_MAX, 159, 144, 0, 1, 65535, false⟩,
      ⟨.SP_VALUE, 143, 128, 0, 0, 65535, false⟩, ⟨.OPEN_MA, 127, 112, 50, 0, 65535, false⟩,
      ⟨.OC_MA, 111, 96, 0, 0, 65535, false⟩, ⟨.T_DIAG_NS, 95, 84, 2000, 500, 4095, false⟩,
      ⟨.N_DIAG, 83, 76, 64, 2, 255, false⟩, ⟨.SENSE_AIN, 75, 68, 0, 0, 159, false⟩,
      ⟨.LAMP_STN, 67, 65, 0, 0, 7, false⟩, ⟨.DIAG_EN, 64, 64, 1, 0, 1, false⟩,
      ⟨.OUT_POL, 63, 63, 0, 0, 1, false⟩, ⟨.OPEN_COUNT, 62, 59, 3, 1, 15, false⟩]
  | .act => [  -- R524
      ⟨.PERIOD_T, 127, 96, 0, 40, 400000000, false⟩, ⟨.SP_VALUE, 95, 80, 0, 0, 65535, false⟩,
      ⟨.SAFE_DUTY, 79, 64, 0, 0, 65535, false⟩, ⟨.DUTY_MIN, 63, 48, 0, 0, 65535, false⟩,
      ⟨.DUTY_MAX, 47, 32, 0, 1, 65535, false⟩, ⟨.ENABLE_LOOP, 31, 26, 0, 0, 63, false⟩,
      ⟨.KIND, 25, 25, 0, 0, 1, false⟩, ⟨.OUT_POL, 24, 24, 0, 0, 1, false⟩]
  | .ain => [  -- R502
      ⟨.LIMIT_HI, 191, 160, 2147483647, -2147483648, 2147483647, true⟩, ⟨.LIMIT_LO, 159, 128, -2147483648, -2147483648, 2147483647, true⟩,
      ⟨.GAIN, 127, 96, 65536, -2147483648, 2147483647, true⟩, ⟨.OFFSET, 95, 64, 0, -2147483648, 2147483647, true⟩,
      ⟨.ELEC_MAX, 63, 52, 4095, 0, 4095, false⟩, ⟨.ELEC_MIN, 51, 40, 0, 0, 4095, false⟩,
      ⟨.GAIN_SH, 39, 35, 16, 0, 31, false⟩, ⟨.FILT, 34, 31, 0, 0, 15, false⟩,
      ⟨.UNIT, 30, 27, 0, 0, 6, false⟩, ⟨.LIMIT_SAFE, 26, 26, 0, 0, 1, false⟩]
  | .thermal => [  -- R592
      ⟨.NB0_NODE, 127, 112, 0, 0, 65535, false⟩, ⟨.NB1_NODE, 111, 96, 0, 0, 65535, false⟩,
      ⟨.NB2_NODE, 95, 80, 0, 0, 65535, false⟩, ⟨.NB3_NODE, 79, 64, 0, 0, 65535, false⟩,
      ⟨.NB0_OFS, 63, 56, 0, -128, 127, true⟩, ⟨.NB1_OFS, 55, 48, 0, -128, 127, true⟩,
      ⟨.NB2_OFS, 47, 40, 0, -128, 127, true⟩, ⟨.NB3_OFS, 39, 32, 0, -128, 127, true⟩,
      ⟨.NB_COUNT, 31, 29, 0, 0, 4, false⟩, ⟨.BG_POINTS, 28, 24, 0, 0, 16, false⟩,
      ⟨.BLIND_FINISH_MS, 23, 8, 100, 0, 65535, false⟩]
  | .domain => [  -- R587
      ⟨.FORCE_ON, 63, 63, 0, 0, 1, false⟩, ⟨.WEIGHT_M1, 62, 60, 0, 0, 7, false⟩]
  | .bank => [  -- R197
      ⟨.STN_MASK, 63, 56, 255, 0, 255, false⟩, ⟨.SYS_BANDS, 55, 48, 0, 0, 64, false⟩]
  | .dma => [  -- R198
      ⟨.TICKET_USE, 63, 63, 1, 0, 1, false⟩, ⟨.METERED, 62, 62, 0, 0, 1, false⟩,
      ⟨.WPORT, 61, 60, 0, 0, 3, false⟩, ⟨.SHARE, 59, 51, 256, 1, 256, false⟩,
      ⟨.BURST_KIB, 50, 43, 16, 4, 255, false⟩, ⟨.MAX_READS, 42, 32, 64, 1, 1024, false⟩]
  | .host => [  -- R159
      ⟨.ARM_MARGIN_US, 63, 48, 200, 10, 10000, false⟩, ⟨.PREFILL_LINES, 47, 32, 256, 0, 65535, false⟩,
      ⟨.PAGES_MAX, 31, 24, 64, 1, 255, false⟩, ⟨.CQ_COALESCE_US, 23, 16, 0, 0, 255, false⟩,
      ⟨.EVENT_VEC, 15, 8, 0, 0, 255, false⟩, ⟨.MAX_RATE, 7, 5, 0, 0, 5, false⟩,
      ⟨.MAX_WIDTH, 4, 3, 0, 0, 2, false⟩, ⟨.EVENT_MIN_SEV, 2, 0, 2, 1, 5, false⟩]
  | .xport => [  -- R624
      ⟨.PEER_NODE, 127, 112, 65535, 0, 65535, false⟩, ⟨.ASYM_PS, 111, 96, 0, -32768, 32767, true⟩,
      ⟨.PEER_PORT, 95, 88, 255, 0, 255, false⟩, ⟨.ROLE, 87, 86, 0, 0, 2, false⟩,
      ⟨.LANES, 85, 85, 0, 0, 1, false⟩, ⟨.TX_INVERT, 84, 84, 0, 0, 1, false⟩,
      ⟨.RX_INVERT, 83, 83, 0, 0, 1, false⟩]
  | .mitten => [  -- R612
      ⟨.TWIN, 31, 31, 0, 0, 1, false⟩, ⟨.COUNT, 11, 0, 0, 1, 4095, false⟩]
  | .fabric => [  -- R625
      ⟨.CROWN_PRIO, 127, 120, 128, 0, 255, false⟩, ⟨.VISOR_LEAD_US, 119, 104, 200, 50, 65535, false⟩,
      ⟨.VISOR_TIMEOUT_MS, 103, 88, 100, 1, 65535, false⟩, ⟨.AUDIT_PERIOD_MS, 87, 80, 10, 1, 255, false⟩,
      ⟨.CROWN_LOST_MS, 79, 72, 20, 2, 255, false⟩, ⟨.DEPTH_MAX, 71, 67, 24, 1, 24, false⟩]
  | .twin => [  -- R659
      ⟨.PARTNER_NODE, 127, 112, 0, 0, 65535, false⟩, ⟨.REF0_NODE, 111, 96, 0, 0, 65535, false⟩,
      ⟨.REF1_NODE, 95, 80, 65535, 0, 65535, false⟩, ⟨.REF2_NODE, 79, 64, 65535, 0, 65535, false⟩,
      ⟨.REF3_NODE, 63, 48, 65535, 0, 65535, false⟩, ⟨.MITTEN_IDX, 47, 38, 0, 0, 1023, false⟩,
      ⟨.REF_LOST_MS, 37, 30, 10, 2, 255, false⟩, ⟨.HOLD_MAX_MS, 29, 22, 10, 1, 255, false⟩,
      ⟨.LINING_LAG_US, 21, 12, 200, 10, 1023, false⟩, ⟨.INITIAL_ACTIVE, 11, 11, 0, 0, 1, false⟩,
      ⟨.SWAP_PIN_EN, 10, 10, 1, 0, 1, false⟩]
  | .referee => [  -- R660
      ⟨.PAIR_HI, 63, 48, 0, 0, 65535, false⟩, ⟨.FENCE_LO, 47, 46, 0, 0, 3, false⟩,
      ⟨.FENCE_HI, 45, 44, 0, 0, 3, false⟩]
  | .startup => [  -- R110
      ⟨.LIVE_WAIT_MS, 63, 56, 20, 1, 255, false⟩, ⟨.TIME_WAIT_S, 55, 51, 12, 1, 30, false⟩,
      ⟨.REQUIRE_TIME, 50, 50, 1, 0, 1, false⟩, ⟨.ENGAGE_SRC, 49, 48, 0, 0, 3, false⟩,
      ⟨.CROWN_WAIT_MS, 47, 38, 400, 10, 800, false⟩, ⟨.DOMAIN_STEP_US, 37, 28, 50, 10, 1000, false⟩,
      ⟨.DOMAIN_STEP_MAX, 27, 22, 8, 1, 32, false⟩, ⟨.STOP_MAX_MS, 21, 6, 5000, 100, 65535, false⟩]

/-- The reserved ranges of a body of fixed layout, or of its header. -/
def RT.reserved : RT → List (Nat × Nat)
  | .node => [(31, 17)]
  | .pll => [(86, 0)]
  | .clko => [(27, 0)]
  | .time => [(137, 0)]
  | .stnPlace => [(43, 0)]
  | .enc => [(11, 0)]
  | .cue => [(14, 0)]
  | .stnJet => [(20, 0)]
  | .nozzleMap => [(15, 0)]
  | .waveform => []
  | .waveset => []
  | .stitchMask => []
  | .spitPattern => []
  | .stnScan => [(70, 0)]
  | .facetDelay => []
  | .pulsePattern => []
  | .sos => [(38, 0)]
  | .lane => [(29, 0)]
  | .health => [(22, 0)]
  | .calDefaults => [(47, 0)]
  | .testPattern => [(28, 0)]
  | .axis => []
  | .sdm => [(3, 0)]
  | .blowerCurve => [(41, 0)]
  | .step => [(0, 0)]
  | .microstepTable => []
  | .profile => [(37, 0)]
  | .loop => [(98, 0)]
  | .lamp => [(58, 0)]
  | .act => [(23, 0)]
  | .ain => [(25, 0)]
  | .thermal => [(7, 0)]
  | .domain => [(59, 0)]
  | .bank => [(47, 0)]
  | .dma => [(31, 0)]
  | .host => []
  | .xport => [(82, 0)]
  | .mitten => [(30, 12)]
  | .fabric => [(66, 0)]
  | .twin => [(9, 0)]
  | .referee => [(43, 0)]
  | .startup => [(5, 0)]

/-- The type code of a record (R55). -/
def RT.code : RT → Nat
  | .node => 0x0101
  | .pll => 0x0201
  | .clko => 0x0202
  | .time => 0x0203
  | .stnPlace => 0x0301
  | .enc => 0x0302
  | .cue => 0x0303
  | .stnJet => 0x0401
  | .nozzleMap => 0x0402
  | .waveform => 0x0403
  | .waveset => 0x0404
  | .stitchMask => 0x0405
  | .spitPattern => 0x0406
  | .stnScan => 0x0501
  | .facetDelay => 0x0502
  | .pulsePattern => 0x0503
  | .sos => 0x0504
  | .lane => 0x0601
  | .health => 0x0701
  | .calDefaults => 0x0801
  | .testPattern => 0x0802
  | .axis => 0x0901
  | .sdm => 0x0902
  | .blowerCurve => 0x0903
  | .step => 0x0A01
  | .microstepTable => 0x0A02
  | .profile => 0x0A03
  | .loop => 0x0B01
  | .lamp => 0x0B02
  | .act => 0x0B03
  | .ain => 0x0B04
  | .thermal => 0x0C01
  | .domain => 0x0C02
  | .bank => 0x0D01
  | .dma => 0x0D02
  | .host => 0x0E01
  | .xport => 0x0F01
  | .mitten => 0x0F02
  | .fabric => 0x0F03
  | .twin => 0x1001
  | .referee => 0x1002
  | .startup => 0x1101

/-- The body bytes after UNIT_COMMON, before any counted part. -/
def RT.baseLen : RT → Nat
  | .node => 8
  | .pll => 144
  | .clko => 8
  | .time => 32
  | .stnPlace => 48
  | .enc => 8
  | .cue => 8
  | .stnJet => 32
  | .nozzleMap => 16
  | .waveform => 516
  | .waveset => 192
  | .stitchMask => 1028
  | .spitPattern => 132
  | .stnScan => 32
  | .facetDelay => 1024
  | .pulsePattern => 56
  | .sos => 8
  | .lane => 16
  | .health => 8
  | .calDefaults => 8
  | .testPattern => 8
  | .axis => 80
  | .sdm => 8
  | .blowerCurve => 272
  | .step => 32
  | .microstepTable => 512
  | .profile => 48
  | .loop => 96
  | .lamp => 24
  | .act => 16
  | .ain => 24
  | .thermal => 144
  | .domain => 8
  | .bank => 8
  | .dma => 8
  | .host => 8
  | .xport => 16
  | .mitten => 4
  | .fabric => 16
  | .twin => 16
  | .referee => 8
  | .startup => 8

/-- The reason code of a field outside its range. -/
def RT.rangeCode : RT → Nat
  | .node => 0x0120
  | .pll => 0x0201
  | .clko => 0x0202
  | .time => 0x0203
  | .stnPlace => 0x0120
  | .enc => 0x0120
  | .cue => 0x0120
  | .stnJet => 0x0401
  | .nozzleMap => 0x0120
  | .waveform => 0x0405
  | .waveset => 0x0406
  | .stitchMask => 0x0404
  | .spitPattern => 0x040F
  | .stnScan => 0x0501
  | .facetDelay => 0x0505
  | .pulsePattern => 0x0506
  | .sos => 0x0120
  | .lane => 0x0601
  | .health => 0x0701
  | .calDefaults => 0x080C
  | .testPattern => 0x080C
  | .axis => 0x0901
  | .sdm => 0x0905
  | .blowerCurve => 0x0906
  | .step => 0x0A01
  | .microstepTable => 0x0A02
  | .profile => 0x0A03
  | .loop => 0x0B01
  | .lamp => 0x0B03
  | .act => 0x0B04
  | .ain => 0x0B05
  | .thermal => 0x0C0B
  | .domain => 0x0C0C
  | .bank => 0x0120
  | .dma => 0x0D03
  | .host => 0x0120
  | .xport => 0x0F01
  | .mitten => 0x0F01
  | .fabric => 0x0F01
  | .twin => 0x1001
  | .referee => 0x1002
  | .startup => 0x0120

/-- Every record type. -/
def RT.all : List RT := [
  .node, .pll, .clko, .time, .stnPlace, .enc, .cue, .stnJet, .nozzleMap, .waveform, .waveset, .stitchMask,
  .spitPattern, .stnScan, .facetDelay, .pulsePattern, .sos, .lane, .health, .calDefaults, .testPattern,
  .axis, .sdm, .blowerCurve, .step, .microstepTable, .profile, .loop, .lamp, .act, .ain, .thermal, .domain,
  .bank, .dma, .host, .xport, .mitten, .fabric, .twin, .referee, .startup]

/-- The record type of a code, if any (R55). -/
def RT.ofCode (c : Nat) : Option RT := RT.all.find? (fun r => r.code == c)

/-- The classes a record type takes (R55). -/
def RT.classes : RT → List Nat
  | .node => [cNODE]
  | .pll => [cPLL]
  | .clko => [cCLKO]
  | .time => [cNODE]
  | .stnPlace => [cSTN]
  | .enc => [cENC]
  | .cue => [cCUE]
  | .stnJet => [cSTN]
  | .nozzleMap => [cLANE]
  | .waveform => [cSTN]
  | .waveset => [cSTN]
  | .stitchMask => [cLANE]
  | .spitPattern => [cSTN]
  | .stnScan => [cSTN]
  | .facetDelay => [cSTN]
  | .pulsePattern => [cSTN]
  | .sos => [cSOS]
  | .lane => [cLANE]
  | .health => [cSTN]
  | .calDefaults => [cSTN]
  | .testPattern => [cSTN]
  | .axis => [cAXIS]
  | .sdm => [cSDM]
  | .blowerCurve => [cAXIS]
  | .step => [cSTEP]
  | .microstepTable => [cSTEP]
  | .profile => [cAXIS, cSTEP]
  | .loop => [cLOOP]
  | .lamp => [cLAMP]
  | .act => [cACT]
  | .ain => [cAIN]
  | .thermal => [cTEMP]
  | .domain => [cDOMAIN]
  | .bank => [cBANK]
  | .dma => [cDMA]
  | .host => [cNODE]
  | .xport => [cXPORT]
  | .mitten => [cMITTEN]
  | .fabric => [cNODE]
  | .twin => [cNODE]
  | .referee => [cNODE]
  | .startup => [cNODE]

/-- The record types marked local, excluded from PAIR_CRC (R55). -/
def RT.isLocal : RT → Bool
  | .node => true
  | .pll => false
  | .clko => false
  | .time => false
  | .stnPlace => false
  | .enc => false
  | .cue => false
  | .stnJet => false
  | .nozzleMap => false
  | .waveform => false
  | .waveset => false
  | .stitchMask => false
  | .spitPattern => false
  | .stnScan => false
  | .facetDelay => false
  | .pulsePattern => false
  | .sos => false
  | .lane => false
  | .health => false
  | .calDefaults => false
  | .testPattern => false
  | .axis => false
  | .sdm => false
  | .blowerCurve => false
  | .step => false
  | .microstepTable => false
  | .profile => false
  | .loop => false
  | .lamp => false
  | .act => false
  | .ain => false
  | .thermal => false
  | .domain => false
  | .bank => false
  | .dma => false
  | .host => true
  | .xport => true
  | .mitten => false
  | .fabric => true
  | .twin => true
  | .referee => true
  | .startup => false

/-- The field's place in a record type's layout. -/
def RT.field? (r : RT) (f : F) : Option Field := r.fields.find? (fun x => x.f == f)

/-- The raw value of a field in a body. -/
def Field.raw (x : Field) (body : Nat) : Nat := bits body x.hi x.lo

/-- The value of a field in a body, signed where the layout says so. -/
def Field.val (x : Field) (body : Nat) : Int :=
  if x.signed then sx (x.hi - x.lo + 1) (x.raw body) else (x.raw body : Int)

/-- Whether a field lies inside its range. -/
def Field.ok (x : Field) (body : Nat) : Bool := x.min ≤ x.val body && x.val body ≤ x.max

/-- The value of a field of a body, or the layout's default for it. -/
def RT.get (r : RT) (body : Nat) (f : F) : Int :=
  match r.field? f with
  | some x => x.val body
  | none => 0

/-- The default value of a field. -/
def RT.dflt (r : RT) (f : F) : Int :=
  match r.field? f with
  | some x => x.dflt
  | none => 0

/-- The default of DMA's WPORT is the channel index mod 4 (R198); every other default is the table's. -/
def RT.dfltAt (r : RT) (i : Nat) (f : F) : Int :=
  if r = .dma ∧ f = .WPORT then ((i % 4 : Nat) : Int) else r.dflt f

end Sys2Proof.Machine
end

