-- ==== Sys2Proof/Machine/State.lean ====
section
/-! DEFINITION. The state of one VE8256 as plain data, its reset value, and the reasons a step can stop. A field that
the manual gives no reset value starts at the value its line shows (log entry 10). -/

namespace Sys2Proof.Machine

/-- Nothing faults: errors of the device are states and reports of it. Safe: no constructor exists. -/
inductive Fault
  deriving DecidableEq, Repr

/-- Why a command has no meaning yet. -/
inductive Refusal
  /-- Raised by Dispatch for a command without a meaning; safe, since nothing is claimed of it. -/
  | notModelled (mnemonic : String)
  deriving DecidableEq, Repr

/-- One record of the loaded image, or one calibration record (R49, R50): `addr` with node id 0xFFFF replaced (R52). -/
structure Rec where
  typ : Nat
  ver : Nat := 1
  addr : Nat
  len : Nat := 0
  enable : Bool := true
  label : Nat := 0
  body : Nat := 0
  deriving DecidableEq, Repr, Inhabited

/-- The common status word of a unit (R28) and what R30, R34 and R128 need beside it. -/
structure UnitStat where
  /-- STATE (R28) -/
  state : UState := .off
  /-- SEVERITY of LAST_REASON (R28) -/
  sev : BitVec 4 := 0
  /-- LAST_REASON (R28) -/
  reason : Half := 0
  /-- EVENT_COUNT, wrapping from 255 to 0 (R28) -/
  count : BitVec 8 := 0
  /-- CORE cycle of the latest event (R30) -/
  cycle : Nat := 0
  /-- rank under R682 of the happening that set STATE in that cycle, 8 while none has (R30) -/
  rank : Nat := 0
  /-- an event of that cycle carried a reason (R30) -/
  told : Bool := false
  /-- order of the latest event among all units (R34) -/
  order : Nat := 0
  /-- a Fault or Critical event not yet acknowledged (R128) -/
  unacked : Bool := false
  deriving DecidableEq, Repr, Inhabited

/-- What an ARM frame carries (R374). -/
inductive ArmItem
  | session (telemUs session : Nat)
  | waveform (idx : Nat) (pulses : Nat)
  | waveset (idx : Nat) (set : Nat)
  | delay (first : Nat) (vals : List Int)
  | trim (first : Nat) (words : List Nat)
  | pulse (words : Nat)
  | facet (delays : List Int)
  | page (pageId set : Nat)
  deriving DecidableEq, Repr

/-- Downstream mark-link frame bodies (R373). -/
inductive LaneBody
  | arm (item : ArmItem) (calGen : Nat)
  | fire (tFire : Nat) (event page puQns amp set : Nat) (levels : List Nat)
  | spit (tFire : Nat) (line puQns amp set : Nat) (levels : List Nat)
  | sweepData (tHat tDiscard sweep page facet segment : Nat) (levels : List Nat)
  | sweepStart (tSos sweep pj : Nat)
  | time (t1 timeId prevId : Nat) (offset : Int)
  | statusReq
  deriving DecidableEq, Repr

/-- A downstream frame (R368, R369): link-local frames carry SEQ 0. -/
structure LaneFrame where
  lane : Nat
  seq : Nat
  active : Bool
  sentAt : Nat
  body : LaneBody
  deriving DecidableEq, Repr

/-- Xason frame bodies the device sends (R601, R602, R640, R646, R648). -/
inductive XBody
  | hello (h : XasonHello)
  | candidacy (m : CandidacyMsg)
  | route (m : RouteMsg)
  | credit (f : CreditFrame)
  | time (f : FabricTimeFrame)
  | status (finger word : Nat)
  | mittenJoin (m : MittenJoinMsg)
  | visorReq (m : VisorReqMsg)
  | visorData (m : VisorDataMsg)
  | visorEnd (m : VisorEndMsg)
  | pageEdge (stn seq : Nat) (tEdge : Nat)
  | lease (kind : Nat) (req active : Bool) (m : LeaseMsg)
  | thermalQ
  | thermalA (temp : Int) (sensor : Nat)
  | audit (mitten unit reason : Nat)
  | fence (m : FenceMsg)
  | lining (snapshot : Bool) (f : LiningFrame)
  | pair (m : PairMsg)
  | forward (h : RouteHeader)
  deriving DecidableEq, Repr

/-- What the device puts on its interfaces, newest first in `HostSt.out`. -/
inductive Out
  /-- bytes 4 to 63 of an entry of a ring in host memory, and then its bytes 0 to 3 (R126) -/
  | entryBody (ring : Ring) (slot : Nat) (body : BitVec 480)
  | entryHead (ring : Ring) (slot : Nat) (word : Word)
  | msix (vec : Nat)
  | pcieRead (addr len : Nat)
  | hostWrite (addr : Nat) (bytes : List Byte)
  | readData (v : BitVec 128)
  | lane (f : LaneFrame)
  /-- a Xason frame on a port, with its destination, 0xFFFF for a link or a flood, its SEQ in its virtual channel and its
  stamp (R596, R597) -/
  | xason (dst port : Nat) (f : XBody) (seq stamp : Nat)
  /-- a command byte to a flash, as an 8D-8D-8D or a 1S-1S-1S transfer (R45, R46) -/
  | flashCommand (cs : Nat) (octal : Bool) (cmd : Nat)
  /-- a register of a flash is written by the command a header names (R46) -/
  | flashSet (cs cmd addr value : Nat)
  | flashRead (cs off len cmd dummy : Nat) (octal : Bool)
  | flashErase (cs off len : Nat)
  | flashWrite (cs off : Nat) (bytes : List Byte)
  | arp
  /-- TRAIN blocks on a lane, and IDLE once it is UP (R362, R364) -/
  | train (lane stage : Nat) (low : Bool)
  | idle (lane : Nat)
  | trainPort (port : Nat)
  deriving DecidableEq, Repr

/-- A completion that has arisen (R141); STAMP is given at posting. -/
structure Compl where
  seq : Nat
  slot : Nat
  vec : Nat
  tag : Nat
  job : Nat
  page : Nat
  typ : Nat
  outcome : Nat
  reason : Nat
  flags : Nat
  pageState : Nat
  r0 : Nat
  r1 : Nat
  deriving DecidableEq, Repr, Inhabited

/-- An event that has arisen (R127). -/
structure Event where
  seq : Nat
  stamp : Nat
  unit : Nat
  reason : Nat
  sev : Nat
  state : Nat
  ack : Bool
  detail : Nat
  deriving DecidableEq, Repr, Inhabited

/-- One ring of R119: base and size registers, the index of each side, PHASE of the pass being written, and the entries
written and not yet returned. -/
structure RingSt where
  /-- base, 4 KiB aligned (R115) -/
  base : DWord := 0
  /-- entries, 0 off (R115) -/
  size : Word := 0
  /-- TQ_HEAD, or the device's write index (R115, R119) -/
  devIdx : Word := 0
  /-- TQ_TAIL, CQ_HEAD or EQ_HEAD (R115) -/
  hostIdx : Word := 0
  /-- PHASE of the present pass (R119, R122) -/
  phase : Bool := true
  /-- entries written and not returned (R124, R125) -/
  used : Nat := 0
  deriving DecidableEq, Repr, Inhabited

/-- A fetched ticket that has not posted its final completion (R122, R124). -/
structure Tkt where
  /-- ring slot plus 65,536 times the tickets fetched before it (log entry 29) -/
  slot : Nat
  entry : Entry
  started : Bool := false
  /-- completions still set aside for it, from four (R124) -/
  room : Nat := 4
  deriving DecidableEq, Repr, Inhabited

/-- The error that the spec has the device log in AER, and the severity it gives it (R121). -/
inductive AerError
  | unsupportedRequest
  deriving DecidableEq, Repr

/-- Severities of AER. -/
inductive AerSeverity
  | advisoryNonFatal
  deriving DecidableEq, Repr

/-- Device power states of the PCI Express function (R112). -/
inductive DevPower
  | d0 | d3hot
  deriving DecidableEq, Repr, Inhabited

/-- The host port: registers of BAR0, rings, kept entries and interrupts (R115 to R129). -/
structure HostSt where
  /-- TQ_BASE, TQ_SIZE, TQ_HEAD, TQ_TAIL (R115) -/
  tq : RingSt := {}
  /-- CQ_BASE, CQ_SIZE, CQ_HEAD and the write index (R115) -/
  cq : RingSt := {}
  /-- EQ_BASE, EQ_SIZE, EQ_HEAD and the write index (R115) -/
  eq : RingSt := {}
  /-- EQ_DROPPED (R115, R125) -/
  eqDropped : Word := 0
  /-- the next completion SEQ (R141) -/
  cqSeq : Nat := 1
  /-- the next event SEQ (R127) -/
  eqSeq : Nat := 1
  /-- completions not posted, oldest first, at most 4,096 (R114, R124) -/
  keptCq : List Compl := []
  /-- events not posted, oldest first, at most 256 (R114, R125) -/
  keptEq : List Event := []
  /-- an event with 0x0E18 is owed (R125) -/
  overflow : Bool := false
  /-- TQ_HEAD at a reset of the HOST region, owed in an event with 0x0E1A (R113) -/
  linkReset : Option Nat := none
  /-- tickets fetched since reset: the model's own count, which tells apart two tickets of one ring slot (log entry 29) -/
  fetched : Nat := 0
  /-- fetched tickets without their final completion, oldest first (R122) -/
  tickets : List Tkt := []
  /-- a failed ticket read waits for the next write of TQ_TAIL (R685) -/
  fetchHalt : Bool := false
  /-- VISOR_T (R115) -/
  visorT : DWord := 0
  /-- VISOR_SCOPE (R115) -/
  visorScope : Word := 0
  /-- the MSI-X table, entry n at key n (R115) -/
  msixTable : Tbl (BitVec 128) := []
  /-- the MSI-X pending-bit array (R115) -/
  pba : BitVec 256 := 0
  /-- the TIME_NOW latch (R117) -/
  timeLatch : BitVec 128 := 0
  /-- the ENGAGE_STATUS latch (R117) -/
  engLatch : DWord := 0
  /-- what has been logged in AER, newest first (R112, R121) -/
  aer : List (AerError × AerSeverity) := []
  /-- the function's power state (R112) -/
  power : DevPower := .d0
  /-- the function's class code (R112) -/
  classCode : BitVec 24 := 0x118000
  /-- vectors whose signal is held under CQ_COALESCE_US, with the instant it is due (R129) -/
  coalesce : Tbl Nat := []
  /-- order of events among all units, for R34 -/
  order : Nat := 1
  /-- what the device has put on its interfaces, newest first -/
  out : List Out := []
  deriving DecidableEq, Repr, Inhabited

/-- Time: the REFCLK_SYS timeline of the commands and the time counter of R553. -/
structure Clock where
  /-- the latest instant registered, in quarter-nanoseconds of the REFCLK_SYS timeline (log entry 1) -/
  now : Nat := 0
  /-- the rank under R682 of the happening being taken, 0 before any (R682) -/
  rank : Nat := 0
  /-- the time counter in 2^-48 ns: seconds, nanoseconds, fraction and its internal fraction (R553) -/
  tai : Nat := 0
  /-- ADJ, S32 in 2^-32 ns (R553) -/
  adj : Int := 0
  /-- the TIME clock runs -/
  running : Bool := false
  /-- latest offset to the time source, 2^-16 ns (R564) -/
  offset : Int := 0
  /-- settled under R560 -/
  settled : Bool := false
  /-- consecutive exchanges within 2 ns (R560) -/
  good : Nat := 0
  /-- consecutive exchanges beyond 4 ns (R560) -/
  bad : Nat := 0
  /-- an offset beyond 1 us was reported in this excursion (R554) -/
  far : Bool := false
  /-- the present PTP master, and the instant of its latest accepted Sync (R558) -/
  master : Option DWord := none
  syncAt : Option Nat := none
  /-- the disciplined ADJ from which the slew limit counts (R554) -/
  adjBase : Int := 0
  /-- instant at which ADJ last changed (R554) -/
  adjAt : Nat := 0
  /-- a valid ToD frame: the TAI second of the next PPS edge and its arrival (R557) -/
  tod : Option (Nat × Nat) := none
  /-- instant of the latest valid PPS edge (R557) -/
  ppsAt : Option Nat := none
  /-- clockClass announced: 6, 7 or 248 (R557) -/
  clockClass : Nat := 248
  /-- the next fabric TIME exchange number (R602) -/
  timeId : Nat := 1
  /-- the exchange in progress: number and T1 (R559) -/
  exch : Option (Nat × Nat) := none
  /-- the instant of the latest exchange sent (R559) -/
  exchAt : Option Nat := none
  /-- the best master rank of the master followed (R556) -/
  masterRank : Nat := 0
  /-- time has been received from the crown, or the node is the crown (R94) -/
  got : Bool := false
  deriving DecidableEq, Repr, Inhabited

/-- Where start-up stands (R80 to R94). -/
inductive Stage
  | unpowered | released | stepping | locking | up | recovery | critical
  deriving DecidableEq, Repr, Inhabited

/-- An image read from a slot (R46, R49). -/
structure Image where
  header : Nat := 0
  recs : List Rec := []
  deriving DecidableEq, Repr, Inhabited

/-- The steps of a staging (R71). -/
inductive StageStep
  | none | reading | erasing | writing | comparing | header | headerLast | headerCheck
  deriving DecidableEq, Repr, Inhabited

/-- One operation of the flash that the calibration store or a staging asks for (R71, R418). -/
inductive FlashOp
  | erase (cs off len : Nat)
  | write (cs off : Nat) (bytes : List Byte)
  | read (cs off len : Nat)
  deriving DecidableEq, Repr, Inhabited

/-- The xSPI controller after start-up (R73): the operation it runs, with whether it is one of the calibration store, and
the operation that each user has waiting. -/
structure Xspi where
  run : Option (Bool × FlashOp) := none
  calOp : Option FlashOp := none
  stageOp : Option FlashOp := none
  deriving DecidableEq, Repr, Inhabited

/-- Start-up, flash, fuses, the AON island and staging (R42 to R94, R581 to R591). -/
structure Boot where
  /-- stage of start-up (R80 to R94) -/
  stage : Stage := .unpowered
  /-- BOOTSEL[1:0] as sampled at the release (R62, R670) -/
  bootsel : BitVec 2 := 0
  /-- chip selects whose flash answers the 1-1-1 Fast Read after the reset of this start (R45) -/
  answers : BitVec 2 := 0b11
  /-- the flash has been switched to octal DDR (R46) -/
  octal : Bool := false
  /-- the table-memory and DMA domains run from SYSPLL, no longer from the boot clock (R82) -/
  sysClk : Bool := false
  /-- the xSPI controller (R73) -/
  xspi : Xspi := {}
  /-- flash on chip select 0; an unlisted byte reads 0xFF (R42) -/
  flash0 : Mem := []
  /-- flash on chip select 1; an unlisted byte reads 0xFF (R42) -/
  flash1 : Mem := []
  /-- the KEY_HASH fuse (R60, R61) -/
  keyHash : BitVec 256 := 0
  /-- the ENFORCE fuse (R60, R61) -/
  enforce : Bool := false
  /-- slots still to be tried, in order (R62) -/
  trySlots : List Nat := []
  /-- a slot failed at its full check in this start (R62) -/
  fellBack : Bool := false
  /-- the image in effect (R63); empty until one loads -/
  image : Image := {}
  /-- an image is in effect -/
  loaded : Bool := false
  /-- SLOT of NODE_STATUS (R116) -/
  slot : Nat := 0
  /-- RECOVERY of NODE_STATUS (R116) -/
  recovery : Bool := false
  /-- BOOT_REASON of NODE_STATUS (R116) -/
  reason : Half := 0
  /-- instant of the release under R80 -/
  releasedAt : Nat := 0
  /-- domains still to be powered, in the order of R83 -/
  domQueue : List Nat := []
  /-- the domains have been stepped (R94) -/
  stepped : Bool := false
  /-- instant of the latest domain step (R83), and whether one has been taken since the image took effect -/
  stepAt : Nat := 0
  stepOnce : Bool := false
  /-- a start was interrupted by a brownout, owed as 0x1109 (R81) -/
  brownout : Bool := false
  /-- failed lock attempts of SYSPLL and TPLL (R85) -/
  lockFails : Tbl Nat := []
  /-- VSTBY is inside its range (R77) -/
  vstby : Bool := false
  /-- the retained scratch word (R589) -/
  scratch : DWord := 0
  /-- the shutdown cause (R591) -/
  cause : BitVec 8 := 0
  /-- AON holds WAKE_N low (R590) -/
  wakeHeld : Bool := false
  /-- STAGE_STATUS bits [31:28] (R115) -/
  stState : BitVec 4 := 0
  /-- STAGE_STATUS bits [27:0], KiB written (R115) -/
  stKib : BitVec 28 := 0
  /-- step of the staging in progress (R71) -/
  stStep : StageStep := .none
  /-- ring slot of the STAGE_IMAGE in progress -/
  stTicket : Nat := 0
  /-- the staged image's bytes (R71) -/
  stData : List Byte := []
  /-- the slot under staging (R67, R70) -/
  stSlot : Nat := 0
  /-- bytes of the staged image programmed so far, from byte 64 (R71) -/
  stOff : Nat := 64
  deriving DecidableEq, Repr, Inhabited

/-- Pins of R663 that hold a level the device drives or reads. -/
structure Pins where
  /-- READY (R94, R95) -/
  ready : Bool := false
  /-- ACTIVE (R632) -/
  active : Bool := false
  /-- FAULT_N is pulled low (R65, R85, R574) -/
  faultLow : Bool := false
  /-- FENCE_N is low (R643) -/
  fenceLow : Bool := false
  /-- the ENGAGE pin is high (R96) -/
  engage : Bool := false
  /-- FENCE_OUT0 to FENCE_OUT3 driven low (R641) -/
  fenceOut : BitVec 4 := 0
  /-- I/O banks whose own supply is good, one bit per group (R78) -/
  supply : BitVec 13 := 0
  /-- I/O banks whose reset state SPINE has applied, so that their pins have left high impedance (R78) -/
  banks : BitVec 13 := 0
  deriving DecidableEq, Repr, Inhabited

/-- ENG_STATE (R103). -/
inductive EngState
  | idle | waitTime | gauntlet | engaged | refused | disengaging
  deriving DecidableEq, Repr, Inhabited

/-- Engagement, its report and the stop (R96 to R109). -/
structure Eng where
  /-- ENG_STATE (R103) -/
  st : EngState := .idle
  /-- FIRST_UNIT (R103) -/
  firstUnit : Word := 0
  /-- FIRST_REASON (R103) -/
  firstReason : Half := 0
  /-- REPORT_COUNT (R103) -/
  count : Nat := 0
  /-- TRUNCATED (R103) -/
  trunc : Bool := false
  /-- the gauntlet refusal report, entry 0 first (R109) -/
  report : List (BitVec 128) := []
  /-- the latched doorbell ring of ENGAGE_SRC 3 (R96) -/
  latch : Bool := false
  /-- ENG_STATE, FIRST_UNIT, FIRST_REASON before the request (R99) -/
  before : EngState × Word × Half := (.idle, 0, 0)
  /-- instant of the request (R98), and of the start of the gauntlet (R105) -/
  requestAt : Nat := 0
  gauntletAt : Nat := 0
  /-- SESSION_ID of the present or latest session (R380) -/
  session : Word := 0
  /-- a session has been engaged before -/
  hadSession : Bool := false
  /-- section 1 of the lining has brought the SESSION_ID of the next session; the present one waits for it, so that no ordered
  frame leaves (R380) -/
  sessionNew : Bool := false
  sessionWait : Bool := false
  /-- the reason of the stop in progress: 0x0E14, 0x0C02, 0x0C04 or 0x0C07 (R151, R570) -/
  stopReason : Half := 0
  /-- step 2 of R104 has begun, with its instant -/
  rundownAt : Option Nat := none
  /-- DISENGAGE is to follow at the next brim of a station (R328) -/
  stopAtBrim : Bool := false
  deriving DecidableEq, Repr, Inhabited

/-- Page states (R142). -/
inductive PState
  | queued | armed | marking | marked | settled | refused | missed
  deriving DecidableEq, Repr, Inhabited

/-- The drop and pixel ledger of one page at one station (R310); volumes in 0.1 pL. -/
structure Ledger where
  vRequested : Nat := 0
  vFired : Nat := 0
  vTrimmed : Nat := 0
  vThinned : Nat := 0
  vUnplaceable : Nat := 0
  vBlanked : Nat := 0
  vLostInput : Nat := 0
  vMovedOut : Nat := 0
  vMovedIn : Nat := 0
  vDeficit : Nat := 0
  vExcess : Nat := 0
  nRequested : Nat := 0
  nFired : Nat := 0
  nWeak : Nat := 0
  nMissing : Nat := 0
  nOverfill : Nat := 0
  nNosense : Nat := 0
  nLate : Nat := 0
  nBlankedEvents : Nat := 0
  nLostLines : Nat := 0
  /-- pixels thinned and pixels in blanked beam-sweeps, for the audit of R351 -/
  pxThinned : Nat := 0
  pxBlanked : Nat := 0
  settleStamp : Nat := 0
  job : Nat := 0
  page : Nat := 0
  flags : Nat := 0
  stn : Nat := 0
  auditOk : Bool := false
  deriving DecidableEq, Repr, Inhabited

/-- A page at one of its stations (R142 to R150, R214 to R220). -/
structure PgStn where
  /-- LE_k in 1/256 pu, once a leading edge is bound (R214, R216) -/
  le : Option Int := none
  /-- qns stamp of the capture -/
  leStamp : Nat := 0
  /-- the leading edge has reached the station -/
  begun : Bool := false
  /-- fire events built, and events or sweeps done at the station -/
  built : Nat := 0
  done : Nat := 0
  /-- lines fired and lines blanked (R141) -/
  fired : Nat := 0
  blanked : Nat := 0
  /-- the last line is fired or blanked (R150) -/
  marked : Bool := false
  /-- the brim audit has run (R309) -/
  audited : Bool := false
  /-- instant of the page's last event -/
  endAt : Nat := 0
  /-- ARM sequence numbers awaited, as (lane, SEQ) pairs (R145, R382) -/
  arms : List (Nat × Nat) := []
  /-- the PAGE items have been sent (R267) -/
  armed : Bool := false
  /-- the ledger (R304, R310) -/
  led : Ledger := {}
  /-- the page's capture at the station has been taken (R214, R218) -/
  bound : Bool := false
  /-- the register mark was captured, or has passed (R230) -/
  regSeen : Bool := false
  /-- lines placed while coasting (R235) -/
  coastLines : Nat := 0
  /-- plane lines whose presence test has run: those from line 0, and others beyond; the lost ones among them, newest
  first (R194, R195) -/
  top : Nat := 0
  ahead : List Nat := []
  lost : List Nat := []
  /-- the coast budget is spent, and no further line is placed at this station on this page (R235) -/
  cut : Bool := false
  /-- the residual of a sweep has reached a whole line, and every later sweep of the page is blanked (R336) -/
  phaseLost : Bool := false
  deriving DecidableEq, Repr, Inhabited

/-- A span of described lines of a page at a station (R136): blank, or data with its ring slot. -/
structure Span where
  stn : Nat
  first : Nat
  count : Nat
  blank : Bool
  slot : Nat
  /-- the DMA channel of a data span (R136) -/
  ch : Nat := 0
  deriving DecidableEq, Repr, Inhabited

/-- A page (R134, R138, R142). -/
structure Page where
  job : Nat
  id : Nat
  slot : Nat
  state : PState := .queued
  test : Bool := false
  mask : Nat := 0
  lines : Nat := 0
  bpp : Nat := 1
  levelMap : Nat := 0
  waveset : Nat := 0
  loopMask : Nat := 0
  axisMask : Nat := 0
  width : Nat := 0
  leMode : Bool := false
  lePos : Int := 0
  pattern : Nat := 0
  param : Nat := 0
  /-- order of fetch, oldest lowest (R145) -/
  order : Nat := 0
  /-- FLAGS gathered for the completion (R141) -/
  flags : Nat := 0
  /-- reason gathered for the completion -/
  reason : Nat := 0
  /-- the abort instant in device qns (R154) -/
  abortAt : Option Nat := none
  /-- the arm deadline has been tested (R147) -/
  deadline : Bool := false
  /-- stations of the page -/
  stn : Tbl PgStn := []
  /-- lines described (R136) -/
  spans : List Span := []
  /-- stamp64 of the leading edge at the first active station (R141) -/
  leStamp : Nat := 0
  /-- device qns at which the page became ARMED (R145) -/
  armedAt : Nat := 0
  deriving DecidableEq, Repr, Inhabited

/-- Jobs and pages (R131 to R158). -/
structure Jobs where
  /-- open jobs: JOB_ID to STN_MASK (R133) -/
  isOpen : Tbl Nat := []
  /-- jobs closed by CLOSE_JOB (R133) -/
  closed : List Nat := []
  /-- CLOSE_JOB tickets waiting for the pages of their job: (job, ring slot) (R131) -/
  closing : List (Nat × Nat) := []
  /-- PAGE_IDs used, as (job, page) (R143) -/
  used : List (Nat × Nat) := []
  /-- pages from QUEUED until their job forgets them, oldest first (R142) -/
  pages : List Page := []
  /-- the next fetch order -/
  order : Nat := 0
  deriving DecidableEq, Repr, Inhabited

/-- The owner of an allocated band (R167, R172): the page's plane lines from `group` times the lines of a band (R164). -/
structure BandOwner where
  stn : Nat
  job : Nat
  page : Nat
  ord : Nat
  group : Nat
  /-- withdrawn by the audit of R174 -/
  withdrawn : Bool := false
  deriving DecidableEq, Repr, Inhabited

/-- A DMA descriptor (R186). -/
structure Desc where
  /-- the channel's own number of the descriptor, in descriptor order -/
  id : Nat
  src : Nat
  dst : Nat
  len : Nat
  line : Nat
  sg : Nat
  page : Nat
  slot : Nat
  lastOfLine : Bool
  lastOfTicket : Bool
  wport : Nat
  status : Nat := 0
  reason : Nat := 0
  stn : Nat
  job : Nat
  /-- order of fetch of its page -/
  ord : Nat
  /-- bytes requested, and the answered pieces by their offset; no byte of a BAD descriptor is written (R192) -/
  issued : Nat := 0
  pieces : Tbl (List Byte) := []
  deriving DecidableEq, Repr, Inhabited

/-- A PLANE ticket in a channel (R182, R183). -/
structure PlaneJob where
  slot : Nat
  job : Nat
  page : Nat
  ord : Nat
  stn : Nat
  sgAddr : Nat
  sgCount : Nat
  lineBytes : Nat
  lineCount : Nat
  firstLine : Nat
  /-- scatter entries asked for, and fetched -/
  asked : Nat := 0
  fetched : Nat := 0
  /-- bytes of the list split so far, and bytes of the entries fetched (R137) -/
  offset : Nat := 0
  listed : Nat := 0
  /-- every descriptor has been generated -/
  complete : Bool := false
  /-- REASON of the completion, bytes written, and its flags (R196) -/
  reason : Nat := 0
  bytes : Nat := 0
  bad : Bool := false
  skipped : Bool := false
  deriving DecidableEq, Repr, Inhabited

/-- A DMA channel (R182 to R198). -/
structure Chan where
  /-- PLANE tickets in fetch order (R182) -/
  jobs : List PlaneJob := []
  /-- the descriptor store, at most 512, oldest first (R184) -/
  store : List Desc := []
  /-- the last 16 written-back descriptors, newest first (R186) -/
  done : List Desc := []
  /-- tokens of the bucket in 1/8,192,000 byte (R190) -/
  tokens : Nat := 0
  /-- instant of the latest refill (R190) -/
  refillAt : Nat := 0
  /-- scatter entries fetched and not yet split -/
  sg : List SgEntry := []
  /-- waits for a band of a bank, for a group of lines (R171) -/
  waitBand : Option (Nat × Nat) := none
  /-- HOLD since the instant (R199) -/
  holdAt : Option Nat := none
  /-- a run-out token bucket holds the channel (R191) -/
  dry : Bool := false
  /-- the next descriptor number -/
  nextId : Nat := 0
  /-- outstanding reads: tag, descriptor number, bytes, offset (R185) -/
  reads : List (Nat × Nat × Nat × Nat) := []
  deriving DecidableEq, Repr, Inhabited

/-- The descriptors of a plane line of a page at a station (R194). -/
structure LineSt where
  /-- descriptors generated, and written back done -/
  made : Nat := 0
  done : Nat := 0
  /-- the last descriptor of the line has been generated -/
  whole : Bool := false
  deriving DecidableEq, Repr, Inhabited

/-- Plane memory, bands and the DMA channels (R161 to R199). -/
structure Plane where
  /-- bytes of plane memory; an unlisted byte reads 0 (log entry 12) -/
  mem : Mem := []
  /-- allocated bands by bank x 256 + band (R161, R167) -/
  bands : Tbl BandOwner := []
  /-- per station, the bank that allocates next (R167) -/
  turn : Tbl Nat := []
  /-- allocations waiting: (since, station, bank, channel), oldest first (R167) -/
  waiting : List (Nat × Nat × Nat × Nat) := []
  /-- lines by (page order x 8 + station) x 2^32 + line (R194) -/
  lines : Tbl LineSt := []
  /-- lines that never arrive because a piece of their scatter list failed: (page order, station, first, last) (R193) -/
  never : List (Nat × Nat × Nat × Nat) := []
  /-- the DMA channels (R182) -/
  ch : Tbl Chan := []
  /-- the channels in the order in which the request slots come to them (R189, R191) -/
  slots : List Nat := List.range 32
  /-- the next read tag; the channels share one tag space (R189) -/
  tag : Nat := 0
  /-- flawed words, as commands have named them, until they are written (R163, log entry 75) -/
  flaws : List EccFlaw := []
  /-- conservation faults owed to the pages that settle at the next brim of a station, 8 for any (R173, R387, R520) -/
  conserve : List Nat := []
  deriving DecidableEq, Repr, Inhabited

/-- A glide in a station's queue (R229, R231), in 1/256 pu. -/
structure Glide where
  slot : Nat
  rem : Int
  slope : Int
  deriving DecidableEq, Repr, Inhabited

/-- A raise of a receiver's level, in the pending store or placed in an event (R299, R300). -/
structure Raise where
  ord : Nat
  /-- source lane and event -/
  srcLane : Nat
  srcEvent : Nat
  /-- receiving lane, nozzle and event -/
  lane : Nat
  nozzle : Nat
  event : Nat
  /-- the planned level, and the volume -/
  lvTo : Nat
  vol : Nat
  deriving DecidableEq, Repr, Inhabited

/-- What a stitch swap makes of a nozzle's level in an event (R260): the chosen nozzle's becomes 0, the other's that of the
pixel. -/
structure Swap where
  ord : Nat
  lane : Nat
  nozzle : Nat
  event : Nat
  level : Nat
  deriving DecidableEq, Repr, Inhabited

/-- One lane's part of a fire event (R243, R305); volumes in 0.1 pL. -/
structure LaneEv where
  /-- levels by nozzle after step 3 (R243, R305) -/
  lv3 : List Nat := []
  /-- volume lost with plane lines (R305) -/
  lost : Nat := 0
  /-- levels with every OUT nozzle at 0, and with the raises placed (R297, R299) -/
  own : List Nat := []
  lv : List Nat := []
  /-- the raises of this lane's nozzles in this event, in order (R299 to R301) -/
  raises : List Raise := []
  /-- volume placed by them, and volume that could not be placed (R301) -/
  arr : Nat := 0
  unplacedHeld : Nat := 0
  /-- volume of this lane's OUT drops that no receiver took (R302) -/
  unplaced : Nat := 0
  /-- volume of this lane's OUT drops that events already sent or blanked have booked -/
  given : Nat := 0
  /-- step 4 has run on the lane (R294) -/
  step4 : Bool := false
  /-- its frame waited for AVAIL and has been counted (R398) -/
  stalled : Bool := false
  /-- the lane's frame has been sent, needed none, or was blanked -/
  ended : Bool := false
  deriving DecidableEq, Repr, Inhabited

/-- How the loss of the reference bears on an event (R235): not yet decided, not at all, placed while coasting, or beyond
the coast budget. -/
inductive Coast
  | undecided | none | placed | beyond
  deriving DecidableEq, Repr, Inhabited

/-- A fire event in build (R243, R253). -/
structure Build where
  ord : Nat
  k : Nat
  lanes : Tbl LaneEv := []
  /-- its compensation reader was cut off, so that nothing is placed (R180) -/
  cut : Bool := false
  /-- step 4 has run on a lane (R294) -/
  step4 : Bool := false
  coast : Coast := .undecided
  /-- lanes blanked so far, whether a late one was counted (R225), and the latest fire instant -/
  blanked : Nat := 0
  late : Bool := false
  tMax : Nat := 0
  deriving DecidableEq, Repr, Inhabited

/-- The spit work of a brim (R276 to R281, R313). -/
structure Spit where
  /-- patterns to run in this brim: index, ring slot of a ticket, and whether it is the check (R280) -/
  queue : List (Nat × Option Nat × Bool) := []
  /-- the next spit line of the running pattern, and of the brim, that some lane has not issued -/
  line : Nat := 0
  brimLine : Nat := 0
  /-- lines of the brim issued, by lane (R278) -/
  sent : Tbl Nat := []
  /-- the line of the brim from which on the next page excludes them (R279), and the line below which a late one has been
  counted (R225) -/
  stop : Option Nat := none
  lateTo : Nat := 0
  /-- idle spitting: start in device qns and the next line (R281) -/
  idle : Option (Nat × Nat) := none
  deriving DecidableEq, Repr, Inhabited

/-- A sweep in build (R333 to R342): levels of each beam after the duty limits. -/
structure Sweep where
  j : Nat
  /-- the facet predicted (R322, R341) -/
  facet : Nat := 0
  /-- the order of the page it writes, and y_j (R333) -/
  ord : Option Nat := none
  y : Int := 0
  /-- predicted SOS and close of its window, in qns (R341) -/
  tHat : Nat := 0
  tClose : Nat := 0
  /-- levels by beam -/
  lv : Tbl (List Nat) := []
  /-- pixels requested and thinned while it was built (R350) -/
  asked : Nat := 0
  thinned : Nat := 0
  /-- beams whose data frames have been sent, those whose wait for AVAIL has been counted (R398), and beams blanked under
  R342 -/
  sent : List Nat := []
  stalled : List Nat := []
  late : List Nat := []
  deriving DecidableEq, Repr, Inhabited

/-- The scan state of a station (R319 to R351). -/
structure Scan where
  /-- the next sweep number -/
  j : Nat := 1
  /-- instant of the latest SOS, accepted or synthesised, in 1/256 qns -/
  tLast : Int := 0
  /-- an SOS has been accepted since engagement -/
  begun : Bool := false
  /-- T(f), the interval from facet f's SOS to the next, in 1/256 qns (R325) -/
  interval : Tbl Int := []
  /-- the predicted SOS, in 1/256 qns (R325) -/
  tHat : Int := 0
  /-- consecutive misses (R328) -/
  misses : Nat := 0
  /-- the latest facet (R322) -/
  facet : Nat := 0
  /-- rho(f) as U32>>24; 1.0 where none is listed (R323) -/
  rho : Tbl Nat := []
  /-- f_pix at the latest SOS, in mHz (R323) -/
  rate : Nat := 0
  /-- the EOS of the latest SOS is accepted, or its window has closed (R324) -/
  eosOver : Bool := true
  /-- Phi_ref in 1/256 pu, once set (R337) -/
  phiRef : Option Int := none
  /-- e_j at the latest SOS, pu (R338) -/
  e : Int := 0
  /-- the sweep being built (R340) -/
  sweep : Option Sweep := none
  /-- page order and y of the latest sweep of a page (R333), and whether a sweep is held back until the lattice passes the
  next line's target forward (R207, R227) -/
  yLast : Option (Nat × Int) := none
  held : Bool := false
  /-- beam cursors and the station cursor (R347, R348) -/
  pixCursor : Tbl Nat := []
  beamCursor : Nat := 0
  /-- exposures of the latest sweeps, newest first (R348) -/
  expo : List Nat := []
  /-- SOS has failed: no START is sent (R328) -/
  dead : Bool := false
  deriving DecidableEq, Repr, Inhabited

/-- A station (R201 to R241 and the chapters of its kind). -/
structure Stn where
  /-- the lattice counter, pu (R201) -/
  lattice : Int := 0
  /-- the last 1,024 stamps, newest first: position and qns (R208, R210) -/
  stamps : List (Int × Nat) := []
  /-- the latest leading edge in 1/256 pu (R215, R216) -/
  leLast : Option Int := none
  /-- the position of the last line of the latest page bound, in 1/256 pu, for the short-brim rule (R217), and that page's
  order -/
  prevEnd : Option Int := none
  prevOrd : Nat := 0
  /-- web mode waits for a real capture (R215) -/
  webWait : Bool := false
  /-- G in 1/256 pu (R228) -/
  g : Int := 0
  /-- P_reg in 1/256 pu (R228) -/
  pReg : Int := 0
  /-- the whole multiple of 256 pu at which G took its latest step (R228) -/
  gAt : Int := 0
  /-- the glide queue, at most 16 (R229) -/
  glides : List Glide := []
  /-- the reference is lost (R234, R235) -/
  coasting : Bool := false
  /-- the reference has returned and the place PLL has relocked (R237) -/
  refBack : Bool := false
  /-- positions of recent illegal quadrature transitions, in 1/256 pu (R234) -/
  quad : List Int := []
  /-- the medium moves backward (R227) -/
  back : Bool := false
  /-- the fractional accumulator of FOLLOW, in 1 / SCALE_NUM of a lattice edge (R543) -/
  share : Int := 0
  /-- counts of the primary and secondary encoder at the last brim, and whether their difference has been flagged since
  (R238) -/
  priBase : Int := 0
  secBase : Int := 0
  xchkDone : Bool := false
  /-- E of R278 but for the lane's part, in 1/256 pu, and whether it has one: the target of the last fire event of the
  previous page has, the lattice count at engagement has none -/
  eLast : Int := 0
  eLane : Bool := false
  /-- the next EDGE_SEQ expected, and sent (R233, R608) -/
  upSeq : Nat := 0
  edgeSeq : Nat := 0
  /-- fire events in build, oldest first (R253) -/
  builds : List Build := []
  /-- the pending store (R300) -/
  pending : List Raise := []
  /-- stitch swaps that reach later events (R260) -/
  swaps : List Swap := []
  /-- spit work (R280) -/
  spit : Spit := {}
  /-- SPIT tickets in ring order: ring slot, pattern, repetitions left (R280) -/
  spitTickets : List (Nat × Nat × Nat) := []
  /-- NOZZLE actions for the next brim: ring slot, action, lane, nozzle, and the nozzles that a return of this brim has
  brought back (R311) -/
  nozActs : List (Nat × Nat × Nat × Nat) := []
  nozRets : List (Nat × Nat) := []
  /-- the ledger ring, newest first, at most 256 (R310) -/
  ring : List Ledger := []
  /-- entries not yet returned by a visor (R310) -/
  ringNew : Nat := 0
  /-- MEDIA_WIDTH of the page that most recently entered ARMED (R508) -/
  width : Nat := 0
  scan : Scan := {}
  /-- instant of the latest lattice edge (R281) -/
  edgeAt : Nat := 0
  deriving DecidableEq, Repr, Inhabited

/-- A nozzle of a lane (R291, R313). -/
structure Noz where
  /-- 0 IN, 1 SUSPECT, 2 OUT (R291) -/
  st : Nat := 0
  /-- OUT by force of a NOZZLE ticket (R312) -/
  forced : Bool := false
  /-- exceptions in the window, and the EVENTS count at which it opened (R291) -/
  exc : Nat := 0
  win : Nat := 0
  /-- clean check drops in a row (R313) -/
  run : Nat := 0
  /-- OUT takes effect at an event of a page: the page's order and the event (R295) -/
  outFrom : Option (Nat × Nat) := none
  /-- fires of the last 64 fire events (R271) -/
  duty : DWord := 0
  deriving DecidableEq, Repr, Inhabited

/-- A frame sent on a lane, kept for R289 and R386. -/
structure SentFrame where
  seq : Nat
  /-- blocks on the wire, 0 once the link went DOWN, and the release instant (R386) -/
  blocks : Nat
  release : Nat
  /-- the last fire event of its page (R290) -/
  ends : Bool := false
  /-- a FIRE or SPIT frame, its event, page order, set and levels (R289); of a SPIT frame the order of the next page -/
  fires : Bool := false
  event : Nat := 0
  page : Nat := 0
  set : Nat := 0
  spit : Bool := false
  levels : List Nat := []
  /-- nozzles whose drop is a check drop with no exception so far (R313) -/
  check : List Nat := []
  deriving DecidableEq, Repr, Inhabited

/-- A mark lane (R359 to R398). -/
structure Lane where
  /-- the lane is UP (R364) -/
  up : Bool := false
  /-- training, since when its attempt runs, with its failed attempts at each rate (R365) -/
  training : Bool := false
  trainAt : Nat := 0
  fails : Nat := 0
  failsLow : Nat := 0
  /-- runs or trains at 3.125 Gb/s (R365, R366) -/
  low : Bool := false
  /-- the device is in block lock (R363) -/
  lock : Bool := false
  /-- it can come UP only at 3.125 Gb/s and waits for a brim (R366) -/
  lowOnly : Bool := false
  /-- the executor's latest HELLO (R375), its instant, and the one before the lane went DOWN -/
  hello : Option HelloFrame := none
  helloAt : Nat := 0
  lastHello : Option HelloFrame := none
  /-- T_setup of the latest HELLO, in ns, and lead_eff in 1/100 ns (R222) -/
  tSetup : Nat := 0
  lead : Nat := 0
  /-- SENT and RETURNED of the credit epoch (R384) -/
  sent : Nat := 0
  returned : Nat := 0
  /-- the downstream counter (R376) -/
  seq : Nat := 1
  /-- the latest upstream ordered SEQ, and the numbers below it that have not come, as (first, count) (R370, R383) -/
  upSeq : Option Nat := none
  upGaps : List (Nat × Nat) := []
  /-- when the latest TIME exchange was due, the next one's number, the exchange in progress and its T1 (R389) -/
  timeAt : Option Nat := none
  timeId : Nat := 1
  exch : Option (Nat × Nat) := none
  /-- the offset o measured last, in 1/256 qns, and its exchange (R389) -/
  off : Int := 0
  offId : Nat := 0
  /-- consecutive exchanges within 1 ns, beyond 2 ns, and time lock (R390) -/
  good : Nat := 0
  bad : Nat := 0
  locked : Bool := false
  /-- ARM_LAST (R375), and the SEQ of the latest ARM frame built, 0 before any (R382) -/
  armLast : Nat := 0
  armSeq : Nat := 0
  /-- SEQ of the latest calibration item sent at a brim, 0 before any (R414) -/
  calSeq : Nat := 0
  /-- ordered and link-local frames that wait for AVAIL, oldest first (R384), and whether the first has been counted -/
  queue : List (Nat × LaneBody) := []
  stalled : Bool := false
  /-- the spit line that waits for AVAIL and has been counted (R398) -/
  spitStall : Option Nat := none
  /-- pages whose PAGE item waits for time lock (R390) -/
  pageWait : List Nat := []
  /-- the ARM items have been sent again since the lane came UP (R395) -/
  resent : Bool := false
  /-- their acknowledgement has been reported (R395) -/
  resentTold : Bool := false
  /-- the lane has gone DOWN since power-up -/
  wasDown : Bool := false
  /-- SENSED_SEQ (R375) -/
  sensed : Nat := 0
  /-- frames sent in this credit epoch, newest first, and the blocks of released ones no longer listed (R386) -/
  frames : List SentFrame := []
  oldBlocks : Nat := 0
  /-- TELEM: LATE_FRAMES, ALARMS, HEAD_TEMP, and the instant of the latest frame (R399, R506) -/
  late : Nat := 0
  alarms : Nat := 0
  headTemp : Half := 0
  telemAt : Option Nat := none
  /-- it went DOWN in this session and has not rejoined (R393, R395) -/
  outOfUse : Bool := false
  /-- a HELLO did not match: the lane stays in FAULT with 0x0606 until the next engagement (R395) -/
  refused : Bool := false
  /-- STAGE of the TRAIN blocks it sends: 0 SEEK, 1 LOCKED, 2 READY (R362, R364) -/
  stage : Nat := 0
  /-- the partner's link to the lane is UP (R396), and 0x0612 was reported -/
  partnerUp : Bool := false
  viaPartner : Bool := false
  /-- the amplitude scale last sent, U16>>14 (R268) -/
  amp : Nat := 0x4000
  /-- the page on which its hold was reported (R269) -/
  ampHeld : Option Nat := none
  /-- nozzles (R291) -/
  noz : Tbl Noz := []
  /-- fire events built on the lane (R291) -/
  events : Nat := 0
  /-- the cursor of R272 -/
  cursor : Nat := 0
  /-- events of the head window, newest first: predicted instant and energy (R272) -/
  window : List (Nat × Nat) := []
  /-- predicted instant of the latest event sent (R275) -/
  lastFire : Option Nat := none
  /-- consecutive events with MORE, the page order and event of the latest and whether it ended its page, and the page
  order and event from which every nozzle is OUT (R290) -/
  more : Nat := 0
  moreLast : Nat × Nat × Bool := (0, 0, false)
  allOut : Option (Nat × Nat) := none
  deriving DecidableEq, Repr, Inhabited

/-- An encoder input (R204, R211, R234). -/
structure Enc where
  /-- signed net counts (R241) -/
  count : Int := 0
  /-- consecutive failed SSI frames, and the latest word (R204, R234) -/
  ssiFails : Nat := 0
  ssiLast : Option Nat := none
  /-- open or shorted (R234) -/
  bad : Bool := false
  /-- the count at the latest Z edge (R446) -/
  z : Option Int := none
  /-- instants and counts of the moves of the latest millisecond and the one before, newest first (R506) -/
  past : List (Nat × Int) := []
  deriving DecidableEq, Repr, Inhabited

/-- The calibration store and what is in effect (R400 to R426). -/
structure CalSt where
  /-- the calibration records in effect (R400) -/
  recs : List Rec := []
  /-- the generation in effect, 0 for factory values (R426) -/
  gen : Nat := 0
  /-- CAL_SLOT: 0 A, 1 B, 2 factory (R426) -/
  slot : Nat := 2
  /-- the CAL ticket running: ring slot, STN_MASK, BUF_ADDR, BUF_LEN (R410) -/
  job : Option (Nat × Nat × Nat × Nat) := none
  /-- the accepted records that wait for a brim, and the stations still to apply them (R413) -/
  wait : List Rec := []
  waitMask : Nat := 0
  /-- the buffer read is outstanding (R411) -/
  reading : Bool := false
  /-- the records that wait are the whole set of the active twin (R425) -/
  adopt : Bool := false
  /-- the stations at which the records of `newGen` are in effect before their commit, and the records of the generation
  in effect (R415, R419) -/
  applied : Nat := 0
  stored : List Rec := []
  /-- the store write in progress: its step of R418 (2 to 7), instant of step 2 and body -/
  step : Nat := 0
  stepAt : Nat := 0
  body : List Byte := []
  /-- the commit record being programmed (R418 step 6) -/
  commit : List Byte := []
  target : Nat := 0
  newGen : Nat := 0
  deriving DecidableEq, Repr, Inhabited

/-- The profile of an axis in POSITION mode or a stepper (R486 to R489); p, v and the target with 32 fraction bits. -/
structure Prof where
  p : Int := 0
  v : Int := 0
  /-- the target in effect (R487) -/
  tgt : Int := 0
  on : Bool := false
  /-- the braking for the present target has been counted (R489) -/
  brake : Bool := false
  /-- the target source is not available; the raw target is clamped (R487, R490) -/
  held : Bool := false
  clamped : Bool := false
  /-- the 10 us tick of device time in which the profile last ran (R486) -/
  slot : Option Nat := none
  deriving DecidableEq, Repr, Inhabited

/-- A brushless axis (R428 to R465). -/
structure Axis where
  /-- gates energised -/
  on : Bool := false
  /-- duties of U, V and W as high-side on-times in compare steps of 156.25 ps (R429, R431) -/
  du : Nat := 0
  dv : Nat := 0
  dw : Nat := 0
  /-- the duties before, which drive until `dutyAt` (R432) -/
  wu : Nat := 0
  wv : Nat := 0
  ww : Nat := 0
  /-- the boundary from which the gates are driven, in device qns (R652) -/
  onFrom : Nat := 0
  /-- the PWM period of the latest current-loop execution, and the boundary at which its duties take effect, in device qns
  (R430, R432, R449) -/
  period : Option Nat := none
  dutyAt : Nat := 0
  /-- the 100 us slot of device time in which a CURVE axis last sampled its input (R459) -/
  sampled : Option Nat := none
  /-- current-loop executions since the latest speed-loop execution (R450) -/
  sdiv : Nat := 0
  /-- int_d and int_q (R449) -/
  intD : Int := 0
  intQ : Int := 0
  /-- iq_ref in mA (R450, R452) -/
  iqRef : Int := 0
  /-- i_q measured, mA (R469) -/
  iq : Int := 0
  /-- I_omega (R450) -/
  iW : Int := 0
  /-- omega and omega_r in 0.01 rpm (R448, R454); omega_r with 16 fraction bits -/
  w : Int := 0
  wR : Int := 0
  /-- the final speed target, and the reference in effect (R453, R456) -/
  target : Int := 0
  ref : Int := 0
  refHeld : Bool := false
  /-- a target beyond W_MAX has been flagged (R454) -/
  clamped : Bool := false
  /-- electrical zero count, once taken, and alignment since (R444) -/
  zero : Option Int := none
  alignAt : Option Nat := none
  /-- count at the latest speed-loop execution and its instant (R448) -/
  cnt : Int := 0
  cntAt : Nat := 0
  /-- Hall: latest valid code, its edge instant, the last sector's duration, invalid codes in a row (R445, R447) -/
  hall : BitVec 3 := 0
  hallAt : Nat := 0
  hallDur : Nat := 0
  hallBad : Nat := 0
  /-- the angle an invalid code holds (R447) -/
  hallHeld : Option Int := none
  /-- running on Hall after a fall-back (R447) -/
  onHall : Bool := false
  /-- consecutive cross-check failures (R439) -/
  xfail : Nat := 0
  /-- bus voltage in mV (R437) -/
  vbus : Int := 0
  /-- following error since (R456) -/
  follow : Option Nat := none
  /-- PHASE: I_ph and the correction c (R458) -/
  iPh : Int := 0
  c : Int := 0
  /-- CURVE: x_f, ON, input held (R459, R460, R462) -/
  xf : Option Int := none
  curveOn : Bool := false
  curveHeld : Bool := false
  /-- running down for a stop, or for a fault action after which the axis is in FAULT (R104, R463) -/
  ramp : Bool := false
  rampFault : Bool := false
  /-- within SPEED_TOL_RPM since (R104) -/
  restAt : Option Nat := none
  /-- the safe state is taken (R433); every gate off by a trip (R441). The latest 2.5 ns CTL cycle of each (R442) -/
  safe : Bool := true
  trip : Bool := false
  safeAt : Option Nat := none
  tripAt : Option Nat := none
  deriving DecidableEq, Repr, Inhabited

/-- What a bridge of a stepper does in a period besides its duty (R473, R474): the duty in 1/65,536, the sign of i_ref, and
fast decay throughout. -/
structure Bridge where
  d : Nat := 0
  sg : Int := 0
  fast : Bool := false
  deriving DecidableEq, Repr, Inhabited

/-- A stepper (R471 to R485). -/
structure Stepper where
  /-- outputs energised -/
  on : Bool := false
  /-- duties of phases A and B in 1/65,536, and I_c of each (R473) -/
  da : Nat := 0
  db : Nat := 0
  icA : Int := 0
  icB : Int := 0
  /-- sign of i_ref of each phase, and whether this period is in fast decay throughout (R474) -/
  sgA : Int := 0
  sgB : Int := 0
  fastA : Bool := false
  fastB : Bool := false
  /-- both phases before, which drive until `dutyAt`, and the boundary from which the outputs are driven; a stepper that STOP
  ends drives until `offAt`; in device qns (R473, R483, R652) -/
  wasA : Bridge := {}
  wasB : Bridge := {}
  dutyAt : Nat := 0
  onFrom : Nat := 0
  offAt : Nat := 0
  /-- IRUN_eff in mA (R480) -/
  irun : Int := 0
  /-- floor(p) as driven, the instant of its latest change, and since when hold current is taken (R480) -/
  lastStep : Int := 0
  stepAt : Nat := 0
  held : Option Nat := none
  /-- the instant of the energisation at engagement (R481), and the chopper period in which the loop last ran (R472) -/
  onAt : Nat := 0
  period : Option Nat := none
  /-- the measured zero, once taken (R481) -/
  count0 : Option Int := none
  /-- deviation beyond STALL_W since (R482) -/
  devAt : Option Nat := none
  /-- stall HOLD (R483) -/
  stallHold : Bool := false
  /-- stall detection suspended (R485) -/
  suspended : Bool := false
  /-- full duty with little current since (R476) -/
  fullA : Option Nat := none
  fullB : Option Nat := none
  /-- the safe state is taken (R477), by a trip (R475) -/
  safe : Bool := true
  trip : Bool := false
  deriving DecidableEq, Repr, Inhabited

/-- An analog input (R497 to R501). -/
structure Ain where
  /-- the latest raw code after R549, and the filtered one -/
  raw : Int := 0
  xf : Int := 0
  /-- consecutive codes outside and inside the electrical range (R500) -/
  outs : Nat := 0
  ins : Nat := 0
  /-- outside LIMIT_LO to LIMIT_HI (R501) -/
  beyond : Bool := false
  deriving DecidableEq, Repr, Inhabited

/-- A charge entry (R521). -/
structure Charge where
  charge : Int := 0
  stamp : Nat := 0
  job : Nat := 0
  page : Nat := 0
  samples : Nat := 0
  stn : Nat := 0
  aborted : Bool := false
  deriving DecidableEq, Repr, Inhabited

/-- A loop (R503 to R520). -/
structure Loop where
  /-- r with 16 fraction bits (R505) -/
  r : Int := 0
  target : Int := 0
  iAcc : Int := 0
  dAcc : Int := 0
  u1 : Int := 0
  u2 : Int := 0
  v1 : Int := 0
  v2 : Int := 0
  yPrev : Int := 0
  y : Int := 0
  /-- the output (R505) -/
  out : Int := 0
  satHi : Bool := false
  satLo : Bool := false
  /-- saturated since, and saturated executions in the window: instants (R514) -/
  satAt : Option Nat := none
  satWin : List Nat := []
  satFlagged : Bool := false
  /-- in band, and consecutive executions within BAND (R512) -/
  inBand : Bool := false
  bandRun : Nat := 0
  /-- the grid instant of the latest execution, in us of device time (R503) -/
  ranAt : Option Nat := none
  /-- HOLD since (R513) -/
  holdAt : Option Nat := none
  spHeld : Bool := false
  /-- the ramp and states start at the next execution (R509) -/
  fresh : Bool := true
  /-- the open charge entry, the ring newest first, entries not yet returned (R518, R519) -/
  charge : Option Charge := none
  ring : List Charge := []
  ringNew : Nat := 0
  /-- CHARGE_TOTAL, CHARGE_BRIM and the sum of closed entries (R518, R520) -/
  total : Int := 0
  brim : Int := 0
  closed : Int := 0
  deriving DecidableEq, Repr, Inhabited

/-- An actuator output (R522, R523). -/
structure Act where
  /-- duty, U16 fraction of the period (R522) -/
  duty : Nat := 0
  /-- the duty before, which drives the output until the period boundary at which `duty` takes effect, in device qns
  (R522) -/
  was : Nat := 0
  at_ : Nat := 0
  /-- the duty that section 6 of the lining gave (R530) -/
  mirror : Option Nat := none
  deriving DecidableEq, Repr, Inhabited

/-- A lamp (R525 to R528), on-times in 156.25 ps. -/
structure Lamp where
  duty : Nat := 0
  on : Nat := 0
  debt : Nat := 0
  k : Nat := 0
  deferred : Bool := false
  opens : Nat := 0
  /-- periods since the brim began (R527) -/
  brimK : Option Nat := none
  current : Nat := 0
  onTotal : Nat := 0
  /-- the present period carries a diagnostic pulse, and its latest conversion (R526) -/
  diag : Bool := false
  sample : Option Int := none
  /-- the number of the present period (R522, R525) -/
  period : Option Nat := none
  /-- turned off by a finding of R528 -/
  failed : Bool := false
  deriving DecidableEq, Repr, Inhabited

/-- A user PLL (R534 to R548). -/
structure Pll where
  /-- has made its first lock (R86, R540) -/
  everLocked : Bool := false
  locked : Bool := false
  /-- FOLLOW (R543), HOLD (R545), searching (R548) -/
  follow : Bool := false
  hold : Bool := false
  /-- reference present; lost, so that a search waits for its return (R548) -/
  ref : Bool := false
  refLost : Bool := false
  /-- main DCO: band, fine code, m (R535, R537) -/
  band : BitVec 6 := 0
  code : BitVec 24 := 0
  m : Nat := 0
  /-- which of the two DCOs is the main one, and the band and code the spare was left at (R535, R540) -/
  second : Bool := false
  spareBand : BitVec 6 := 0
  spareCode : BitVec 24 := 0
  /-- the code at the freeze and the temperature T0 (R545) -/
  code0 : Int := 0
  t0 : Int := 0
  /-- the rate of the output, in mHz -/
  rate : Nat := 0
  /-- instant of entry to HOLD or FOLLOW, for HOLD_NS and FOLLOW_NS -/
  since : Nat := 0
  /-- the latest phase sample of an SSI encoder that a place PLL takes: its count and instant (R204) -/
  sample : Option (Int × Nat) := none
  deriving DecidableEq, Repr, Inhabited

/-- A clock output (R550, R551). -/
structure Clko where
  run : Bool := false
  level : Bool := false
  /-- tap cycles up to `at_`, in 1/(4 x 10^12) cycle, since the start; the tap keeps its rate from then on (R551) -/
  phase : Nat := 0
  at_ : Nat := 0
  deriving DecidableEq, Repr, Inhabited

/-- The diode and its stops (R566 to R580). -/
structure Temp where
  /-- the latest valid reading, 0.1 degrees C (R566) -/
  now : Int := 250
  /-- valid readings of the latest 1.1 s, newest first, with their instants (R568, R578) -/
  past : List (Nat × Int) := []
  /-- s in 0.01 degrees C per second (R568); none without a valid slope -/
  slope : Option Int := none
  /-- above T_warn until below 104.0 degrees C; at or above T_stop (R567) -/
  warned : Bool := false
  stopped : Bool := false
  /-- an orderly stop is in progress (R569, R570) -/
  orderly : Bool := false
  /-- failed conversions in a row (R577) -/
  fails : Nat := 0
  /-- hard fault (R577), soft anomaly (R578), and the fault of a failed check (R580) -/
  hard : Bool := false
  soft : Bool := false
  failed : Bool := false
  /-- the check of R579 passes (R580) -/
  confirmed : Bool := false
  /-- valid readings since (R577), normal behaviour since (R578) -/
  validAt : Option Nat := none
  normalAt : Option Nat := none
  /-- the latest instant at which a domain switched or a station entered or left MARKING (R578) -/
  switchAt : Nat := 0
  /-- the query in progress: its instant, and the answers: node, temperature, SENSOR (R579) -/
  query : Option Nat := none
  answers : List (Nat × Int × Nat) := []
  /-- the instant of the next check (R580) -/
  recheckAt : Option Nat := none
  /-- a thermal swap is awaited since, and the reason of the stop it puts off (R573) -/
  swapAt : Option (Nat × Nat) := none
  /-- the instant of T_crit (R574) -/
  critAt : Option Nat := none
  deriving DecidableEq, Repr, Inhabited

/-- A power domain (R584). -/
structure Dom where
  on : Bool := false
  good : Bool := false
  since : Nat := 0
  onTotal : Nat := 0
  deriving DecidableEq, Repr, Inhabited

/-- A Xason port (R595 to R610). -/
structure Port where
  up : Bool := false
  oneLane : Bool := false
  training : Bool := false
  /-- the peer's HELLO (R601), and a peer that differs from the XPORT record (R624) -/
  peer : Option XasonHello := none
  mismatch : Bool := false
  /-- SENT of the urgent and bulk channel in the credit epoch (R609), and the next SEQ of each (R596) -/
  sentU : Nat := 0
  sentB : Nat := 0
  seqU : Nat := 1
  seqB : Nat := 1
  /-- the latest CREDIT (R610) -/
  credit : Option CreditFrame := none
  /-- device qns, blocks and channel of sends since 2 us before the latest CREDIT (R610) -/
  recent : List (Nat × Nat × Bool) := []
  /-- frames that wait for credit, oldest first: destination and body (R609) -/
  waitU : List (Nat × XBody) := []
  /-- blocks received on the urgent and the bulk channel since HELLO, modulo 2^32, and those returned in the own CREDIT
  frames (R384, R385, R609, R610) -/
  rxU : Nat := 0
  rxB : Nat := 0
  retU : Nat := 0
  retB : Nat := 0
  waitB : List (Nat × XBody) := []
  /-- ranges of node ids in the port's subtree (R602, R604) -/
  subtree : List (Nat × Nat) := []
  deriving DecidableEq, Repr, Inhabited

/-- A visor pending at this node (R615 to R621). -/
structure Visor where
  id : Nat
  /-- the requester -/
  node : Nat
  t : Nat
  scope : Nat
  /-- the ring slot of the ticket, its buffer and length; none for VISOR_REQ and for another node's visor -/
  slot : Option Nat := none
  buf : Nat := 0
  len : Nat := 0
  latched : Bool := false
  /-- bytes of unit blocks gathered by the requester, by source node x 65536 + PART (R602, R620) -/
  parts : Tbl (List Byte) := []
  /-- nodes in scope, nodes that ended their contribution, and nodes that came too late (R615, R621) -/
  nodes : List Nat := []
  reported : List Nat := []
  late : List Nat := []
  deriving DecidableEq, Repr, Inhabited

/-- The fabric, mittens and visors (R595 to R626). -/
structure Fab where
  ports : Tbl Port := []
  /-- the best candidacy seen: node, priority, serial; and whether it is that of a running crown (R88, R90) -/
  best : Option (Nat × Nat × Nat) := none
  bestRun : Bool := false
  /-- the crown this node follows; own node when it is crown (R88, R603) -/
  crown : Option Nat := none
  /-- this node is a running crown (R90) -/
  running : Bool := false
  depth : Nat := 0xFF
  parent : Option Nat := none
  routeSeq : Nat := 1
  /-- the latest ROUTE number applied, by sender (R602) -/
  routes : Tbl Nat := []
  /-- frames that wait for a route (R605) -/
  held : List (Nat × XBody) := []
  /-- node ids found twice (R91) -/
  dup : Bool := false
  /-- candidacies that have been flooded on, as (node, serial) (R88, R91) -/
  heard : List (Nat × Nat) := []
  /-- no route to the crown since (R606) -/
  lostAt : Option Nat := none
  /-- the node stays out of the fabric by depth (R603) -/
  tooDeep : Bool := false
  /-- the node's own mittens have told their fingers, and since when (R88, R94) -/
  joined : Bool := false
  joinedAt : Nat := 0
  /-- fingers of this node: local unit to mitten, index, enclosing mittens (R614, R620) -/
  fingers : Tbl (Nat × Nat × List Nat) := []
  /-- the latest status word of remote fingers, with the order of its arrival (R34, R614) -/
  remote : Tbl (Nat × Nat) := []
  visors : List Visor := []
  visorId : Nat := 1
  /-- the instant of the latest audit of AUDIT_PERIOD (R611) -/
  auditAt : Option Nat := none
  /-- the next block of this node is marked INCOMPLETE: an access of the visor was cut off (R180) -/
  visorCut : Bool := false
  /-- the visor image in BAR2 from 0x0010_0000 (R120, R618) -/
  shadow : List Byte := []
  deriving DecidableEq, Repr, Inhabited

/-- Twin roles (R632, R640). -/
inductive Role
  | unlined | lined | active | fenced
  deriving DecidableEq, Repr, Inhabited

/-- A twin (R632 to R656). A device that is no twin uses only the role FENCED of it (R643). -/
structure Twin where
  role : Role := .unlined
  /-- the highest epoch received (R633) -/
  epoch : Nat := 0
  /-- pairing has ended (R93): with the partner, or alone -/
  paired : Bool := false
  alone : Bool := false
  /-- the partner's identity has arrived (R93, R602) -/
  met : Bool := false
  partnerSerial : Nat := 0
  partnerCompat : Nat := 0
  partnerPairCrc : Nat := 0
  /-- EXPIRES of the latest RENEW or GRANT (R638), and whether 0x1005 was reported -/
  expires : Option Nat := none
  expired : Bool := false
  /-- the serving referee's rank, the instant of its latest message, and whether 0x1009 was reported (R636, R657) -/
  refRank : Nat := 0
  refAt : Nat := 0
  refLost : Bool := false
  /-- KIND of the latest FENCE (R646, R647) -/
  fenceKind : Option Nat := none
  /-- the device came out of reset under a low FENCE_N: it may ask to rejoin at once (R647) -/
  resetFenced : Bool := false
  /-- the warden's latest HEARTBEAT was due at (R636) -/
  beatAt : Option Nat := none
  /-- the swap in progress: the ring slot of its ticket, none for the pin or a thermal swap (R654) -/
  swap : Option (Option Nat) := none
  /-- the next lining SEQ, the latest lag in ns, a full snapshot is applied, stations that have sent since (R649) -/
  linSeq : Option Nat := none
  linLag : Nat := 0
  snapped : Bool := false
  sentSince : List Nat := []
  /-- a resynchronisation has run since (R650) -/
  resyncAt : Option Nat := none
  /-- the standby left STANDBY_LINED, or a resynchronisation started, at (R651) -/
  unlinedAt : Nat := 0
  /-- the mirror of field outputs was refreshed at, and has expired (R635) -/
  mirrorAt : Nat := 0
  mirrorStale : Bool := false
  /-- outcomes of the active's tickets and of the own ones by ring slot, and page states from the lining (R157, R158) -/
  outcomes : Tbl Nat := []
  myOutcomes : Tbl Nat := []
  pages : List (Nat × Nat × Nat) := []
  /-- pages that the active has aborted before the own page was MARKING (R154, R157) -/
  aborts : List (Nat × Nat) := []
  /-- nozzle states of the active (R315), by lane x 4096 + nozzle -/
  noz : Tbl Nat := []
  /-- the partner's calibration generation and records (R425) -/
  partnerGen : Option Nat := none
  partnerRecs : List Byte := []
  /-- the lining SEQ the active sends next; the partner has asked for a snapshot, and gets deltas; it is lined as far as
  this twin knows (R648, R650) -/
  outSeq : Nat := 1
  partnerReq : Bool := false
  serving : Bool := false
  partnerLined : Bool := false
  /-- a bank cut the mirror off, and the next entry is marked incomplete (R180) -/
  mirrorCut : Bool := false
  deriving DecidableEq, Repr, Inhabited

/-- What a referee knows of a twin's latest heartbeat: STAMP, role code, EPOCH (R637, R640, R641). -/
structure Beat where
  stamp : Nat
  role : Nat
  epoch : Nat
  deriving DecidableEq, Repr, Inhabited

/-- The referee of one pair (R641 to R647). -/
structure Ref where
  /-- the epoch granted last and the holder of it (R633) -/
  epoch : Nat := 0
  holder : Option Nat := none
  /-- the latest heartbeats of the lower and the higher twin, and the arrival of the first of either -/
  lo : Option Beat := none
  hi : Option Beat := none
  firstAt : Option Nat := none
  /-- a fence in progress: victim, KIND, instant (R641) -/
  fence : Option (Nat × Nat × Nat) := none
  /-- the line reads back low since (R642) -/
  lowSince : Option Nat := none
  /-- 0x100C or 0x100B was reported for the fence in progress; after 0x100C no grant follows (R642) -/
  failed : Bool := false
  stuck : Bool := false
  /-- the twin a swap is to make active (R654) -/
  swapTo : Option Nat := none
  /-- the pair was adopted under a CLAIM at (R657) -/
  adoptedAt : Option Nat := none
  /-- RANK of the latest heartbeat (R640) -/
  rank : Nat := 0
  deriving DecidableEq, Repr, Inhabited

/-- The whole device but for its queue of commands. -/
structure Dev where
  clk : Clock := {}
  /-- status words by local unit id (R28) -/
  units : Tbl UnitStat := []
  /-- counters by local unit id x 256 + counter (R681) -/
  ctr : Tbl DWord := []
  host : HostSt := {}
  boot : Boot := {}
  pins : Pins := {}
  eng : Eng := {}
  jobs : Jobs := {}
  plane : Plane := {}
  stn : Tbl Stn := []
  lane : Tbl Lane := []
  enc : Tbl Enc := []
  /-- the instant until which a cue ignores edges (R212) -/
  cueHold : Tbl Nat := []
  cal : CalSt := {}
  axis : Tbl Axis := []
  prof : Tbl Prof := []
  step : Tbl Stepper := []
  ain : Tbl Ain := []
  loop : Tbl Loop := []
  act : Tbl Act := []
  lamp : Tbl Lamp := []
  pll : Tbl Pll := []
  clko : Tbl Clko := []
  temp : Temp := {}
  dom : Tbl Dom := []
  fab : Fab := {}
  twin : Twin := {}
  /-- referees by the lower twin's node id (R660) -/
  ref : Tbl Ref := []
  /-- how many values the manual leaves open have been taken: the model's own counter, DESIGN CHOICE (log entry 11) -/
  free : Nat := 0
  deriving DecidableEq, Repr, Inhabited

/-- The machine: the device and the commands that wait, first in, first out. -/
structure State where
  pending : List Instr := []
  dev : Dev := {}
  deriving DecidableEq, Repr

/-- The machine right after reset: no supply applied, nothing loaded, every field at the value its line gives. -/
def State.reset : State := {}

end Sys2Proof.Machine
end

