-- ==== Sys2Proof/Machine/Flags.lean ====
section
/-! DEFINITION. The status words and flags the device reports: the common status word (R28), the FLAGS of a completion
(R141), ENGAGE_STATUS (R103), NODE_STATUS (R116), and the layouts of completion and event entries (R127, R141). -/

namespace Sys2Proof.Machine

/-- The common status word (R28). -/
def UnitStat.word (s : UnitStat) : Word :=
  BitVec.ofNat 4 s.state.code ++ s.sev ++ s.reason ++ s.count

/-- The FLAGS bits of a completion (R141). -/
abbrev fFINAL : Nat := 0
abbrev fSTANDBY : Nat := 1
abbrev fINTERLOCK : Nat := 2
abbrev fLOST_INPUT : Nat := 3
abbrev fBLANKED : Nat := 4
abbrev fABORTED : Nat := 5
abbrev fDUTY : Nat := 6
abbrev fUNPLACEABLE : Nat := 7
abbrev fCONSERVATION : Nat := 8
abbrev fDURABLE : Nat := 9
abbrev fBAD_DESC : Nat := 10
abbrev fDIVERGED : Nat := 11

/-- FLAGS with one bit set. -/
def flag (fs i : Nat) : Nat := fs ||| 2 ^ i

/-- FLAGS with one bit set where a condition holds. -/
def flagIf (c : Bool) (fs i : Nat) : Nat := if c then flag fs i else fs

/-- The code of ENG_STATE (R103). -/
def EngState.code : EngState → Nat
  | .idle => 0
  | .waitTime => 1
  | .gauntlet => 2
  | .engaged => 3
  | .refused => 4
  | .disengaging => 5

/-- ENGAGE_STATUS (R103). -/
def Eng.status (e : Eng) : DWord :=
  e.firstUnit ++ e.firstReason ++ BitVec.ofNat 7 e.count ++ BitVec.ofBool e.trunc ++ 0#4 ++ BitVec.ofNat 4 e.st.code

/-- The code of a page state (R142). -/
def PState.code : PState → Nat
  | .queued => 0
  | .armed => 1
  | .marking => 2
  | .marked => 3
  | .settled => 4
  | .refused => 5
  | .missed => 6

/-- SETTLED, REFUSED and MISSED are terminal (R142). -/
def PState.terminal : PState → Bool
  | .queued => false
  | .armed => false
  | .marking => false
  | .marked => false
  | .settled => true
  | .refused => true
  | .missed => true

/-- The completion entry of R141 but for PHASE. -/
def Compl.entry (c : Compl) (stamp node : Nat) : Entry :=
  BitVec.ofNat 512 (put 448 (stamp % 2 ^ 64) + put 384 (c.r1 % 2 ^ 64) + put 320 (c.r0 % 2 ^ 64)
    + put 256 (c.tag % 2 ^ 64) + put 224 (c.job % 2 ^ 32) + put 192 (c.page % 2 ^ 32)
    + put 176 (c.reason % 2 ^ 16) + put 160 (c.flags % 2 ^ 16) + put 152 (c.typ % 256) + put 148 (c.outcome % 16)
    + put 144 (c.pageState % 16) + put 128 (node % 2 ^ 16) + put 96 (c.seq % 2 ^ 32) + put 80 (c.slot % 2 ^ 16))

/-- The event entry of R127 but for PHASE. -/
def Event.entry (e : Event) : Entry :=
  BitVec.ofNat 512 (put 448 (e.stamp % 2 ^ 64) + put 384 (e.detail % 2 ^ 64) + put 96 (e.unit % 2 ^ 32)
    + put 80 (e.reason % 2 ^ 16) + put 76 (e.sev % 16) + put 72 (e.state % 16) + put 71 (b2n e.ack)
    + put 32 (e.seq % 2 ^ 32))

/-- A role's code (R640). -/
def Role.code : Role → Nat
  | .unlined => 0
  | .lined => 1
  | .active => 2
  | .fenced => 3

end Sys2Proof.Machine
end

