-- ==== Sys2Proof/Machine/Operands.lean ====
section
/-! DEFINITION. The operands of tickets: the common header (R130), the bodies (R133 to R140), their reserved bits (R4,
R132), and the parameters of a test pattern (R406). -/

namespace Sys2Proof.Machine

/-- A field of a ticket entry. -/
def tf (e : Entry) (hi lo : Nat) : Nat := bits e.toNat hi lo

/-- TAG (R130). -/
def tTag (e : Entry) : Nat := tf e 127 64
/-- JOB_ID (R130). -/
def tJob (e : Entry) : Nat := tf e 63 32
/-- MSIX_VEC (R130). -/
def tVec (e : Entry) : Nat := tf e 31 24
/-- NOTIFY (R130). -/
def tNotify (e : Entry) : Nat := tf e 23 20
/-- WAIT_PRIOR (R130). -/
def tWait (e : Entry) : Bool := bit e.toNat 16
/-- TICKET_VERSION (R130). -/
def tVersion (e : Entry) : Nat := tf e 15 8
/-- TYPE (R130, R131). -/
def tType (e : Entry) : Nat := tf e 7 0

/-- The reserved ranges of a ticket's body by TYPE (R133 to R140). -/
def ticketReserved (typ : Nat) : List (Nat × Nat) :=
  match typ with
  | 0x01 => [(511, 168)]
  | 0x02 => [(255, 163)]
  | 0x03 => [(335, 169)]
  | 0x04 => [(447, 168)]
  | 0x05 => [(255, 172)]
  | 0x06 => [(511, 162), (147, 136)]
  | 0x07 => [(511, 192), (143, 136)]
  | 0x08 => [(511, 160)]
  | 0x09 => [(319, 128)]
  | 0x0A => [(511, 144)]
  | 0x0B => [(415, 144), (127, 128)]
  | 0x0C => [(511, 128)]
  | _ => []

/-- Types that name a job (R130). -/
def ticketHasJob (typ : Nat) : Bool := [0x01, 0x02, 0x03, 0x05, 0x0C].contains typ

/-- The format check of R132: type, version, reserved fields and the use of JOB_ID. -/
def ticketFormatOk (e : Entry) : Bool :=
  let typ := tType e
  1 ≤ typ && typ ≤ 0x0C && tVersion e == 1 && tf e 19 17 == 0
    && !bit e.toNat 23 && (typ == 0x02 || typ == 0x05 || tNotify e == 0)
    && (if ticketHasJob typ then tJob e != 0 else tJob e == 0)
    && (ticketReserved typ).all (fun r => r.1 < r.2 || tf e r.1 r.2 == 0)

/-- The node ids a ticket names (R27, R132): SCOPE of VISOR, NEW_ACTIVE and TARGET_NODE. -/
def ticketNodeAny (e : Entry) : Bool :=
  match tType e with
  | 0x09 => tf e 351 336 == 0xFFFF
  | 0x0A => tf e 143 128 == 0xFFFF
  | 0x0B => tf e 143 128 == 0xFFFF
  | _ => false

/-- A page as a PAGE ticket asks for it (R134). -/
def pageOfTicket (e : Entry) (slot order : Nat) : Page :=
  { job := tJob e, id := tf e 159 128, slot := slot, mask := tf e 263 256, lines := tf e 383 352, bpp := tf e 161 160,
    levelMap := tf e 327 304, waveset := tf e 351 328, loopMask := tf e 447 384, axisMask := tf e 287 264,
    width := tf e 303 288, leMode := bit e.toNat 162, lePos := sx 64 (tf e 511 448), order := order }

/-- A page as a TESTPAGE ticket asks for it (R138). -/
def pageOfTestTicket (e : Entry) (slot order : Nat) : Page :=
  { job := tJob e, id := tf e 159 128, slot := slot, test := true, mask := tf e 167 160, lines := tf e 415 384, bpp := 3,
    levelMap := 0xFAC688, waveset := tf e 295 272, loopMask := tf e 383 320, axisMask := tf e 319 296,
    width := tf e 271 256, leMode := bit e.toNat 171, lePos := sx 64 (tf e 511 448), pattern := tf e 170 168,
    param := tf e 447 416, order := order }

/-- The waveform set of station `n` in WAVESET_SEL (R134). -/
def Page.set (p : Page) (n : Nat) : Nat := bits p.waveset (3 * n + 2) (3 * n)

/-- The level of pixel value `v` in LEVEL_MAP (R134, R135). -/
def Page.level (p : Page) (v : Nat) : Nat := bits p.levelMap (3 * v + 2) (3 * v)

/-- LEVEL_MAP and BPP under R135 and check 3 of R143. -/
def Page.levelMapOk (p : Page) : Bool :=
  1 ≤ p.bpp && p.bpp ≤ 3 && p.level 0 == 0
    && (upTo 8).all (fun v => v < 2 ^ p.bpp || p.level v == 0)

/-- PHASE, SELECT and EACH of PATTERN_PARAM (R406). -/
def Page.phase (p : Page) : Nat := bits p.param 15 8
/-- SELECT of PATTERN_PARAM (R406). -/
def Page.select (p : Page) : Nat := bits p.param 7 4
/-- EACH of PATTERN_PARAM (R406). -/
def Page.each (p : Page) : Bool := bit p.param 3

/-- The stations of a mask, in rising order. -/
def stnsOf (mask : Nat) : List Nat := (upTo 8).filter (fun n => bit mask n)

end Sys2Proof.Machine
end

