-- ==== Sys2Proof/Config.lean ====
section
/-! DEFINITION. What one device fixes, and the values the manual leaves open: constants without a body, so that no
proof can see what they are. A statement holds whatever they are. -/

namespace Sys2Proof.Config

/-- The device serial number, read at BAR0 0x0018 and used in crown election (R88, R115). -/
opaque serial : DWord
/-- The silicon revision in IDENTITY bits [15:8] (R115). -/
opaque siliconRevision : BitVec 8
/-- The factory-programmed Ethernet address of counter MAC_ADDR (R556, R564). -/
opaque macAddr : BitVec 48
/-- The `n`-th value that the manual leaves open; the field `free` of `Machine.Dev` says which `n` is next. -/
opaque freeValue : Nat → Nat
/-- The higher twin of the pair whose lower twin is the node given is the only one with INITIAL_ACTIVE set: a referee's
first grant follows it, and no message carries it (R645, log entry 30). -/
opaque namesHigher : Nat → Bool
/-- Word 0: KEY of a lining frame; word i + 1: block B(i + 2) of its entry, for which R648 gives no layout (log entry
20). -/
opaque liningWord : LiningEntry → Nat → Nat

end Sys2Proof.Config
end

