-- ==== Sys2Proof/Machine/Wire.lean ====
section
/-! DEFINITION. The blocks of the mark link and of Xason (R48, R361, R362, R368 to R375, R595 to R597, R601, R602, R640,
R646, R648): what a frame puts on the wire, with its CRC, and what is wrong with a frame received. -/

namespace Sys2Proof.Machine

/-- Field [hi:lo] of a block, cut to its width. -/
def fld (hi lo v : Nat) : Nat := put lo (v % 2 ^ (hi + 1 - lo))

/-- The bytes of a value of `n` bytes, its highest bits first. -/
def beBytes (n v : Nat) : List Byte := (leBytes n v).reverse

/-- The IDLE block (R361). -/
def idleWord : Nat := fld 63 56 0x1E

/-- A TRAIN block the device sends (R362); with `port` the port index, one of a Xason port (R595). -/
def trainWord (stage : Nat) (low : Bool) (port node : Nat) : Nat :=
  fld 63 56 0x2D + fld 55 54 stage + fld 53 53 (b2n low) + fld 47 40 port + fld 31 16 node

/-- A SOF block (R369). -/
def sofWord (typ len : Nat) (active req : Bool) (seq : Nat) : Nat :=
  fld 63 56 0x78 + fld 55 50 typ + fld 49 40 len + fld 39 39 (b2n active) + fld 38 38 (b2n req) + fld 31 0 seq

/-- An EOF block (R369). -/
def eofWord (crc : Word) : Nat := fld 63 56 0x87 + crc.toNat

/-- The CRC of a frame: CRC-32C over SOF bits [55:0] as 7 bytes, then every data block as 8 bytes, bits [63:56] first
(R48, R369). -/
def frameCrc (sof : Nat) (data : List Nat) : Word := crc32c (beBytes 7 (sof % 2 ^ 56) ++ data.flatMap (beBytes 8))

/-- The blocks of a frame: SOF, LEN data blocks and EOF (R368, R369). -/
def frameWords (typ : Nat) (active req : Bool) (seq : Nat) (data : List Nat) : List Nat :=
  let sof := sofWord typ data.length active req seq
  sof :: data ++ [eofWord (frameCrc sof data)]

/-- Two 32-bit entries a block, entry 2i in bits [63:32] (R374, R375, R602). -/
def pairWords : List Nat → List Nat
  | [] => []
  | [a] => [fld 63 32 a]
  | a :: b :: r => (fld 63 32 a + fld 31 0 b) :: pairWords r

/-- Values of `w` bits packed from bit 0 on, `per` of them a block (R372, R374). -/
def packWords (w per : Nat) (xs : List Nat) : List Nat :=
  (upTo (ceilDiv xs.length per)).map (fun b =>
    ((xs.drop (per * b)).take per).foldr (fun x a => x % 2 ^ w + 2 ^ w * a) 0)

/-- The level codes of R372: code i in payload bits 3i to 3i + 2, across block boundaries. -/
def codeWords (lv : List Nat) : List Nat :=
  let all := lv.foldr (fun x a => x % 8 + 8 * a) 0
  (upTo (ceilDiv (3 * lv.length) 64)).map (fun b => bits all (64 * b + 63) (64 * b))

/-- ITEM, INDEX, FIRST and COUNT of an ARM item (R373, R374). COUNT counts what R374 lists for the item; where it lists one
datum, it is 1 (log entry 81). -/
def ArmItem.head : ArmItem → Nat × Nat × Nat × Nat
  | .session _ _ => (0, 0, 0, 1)
  | .waveform i _ => (1, i, 0, 4)
  | .waveset i _ => (2, i, 0, 3)
  | .delay f vs => (3, 0, f, vs.length)
  | .trim f ws => (4, 0, f, ws.length)
  | .pulse _ => (5, 0, 0, 7)
  | .facet ds => (6, 0, 0, ds.length)
  | .page _ _ => (7, 0, 0, 1)

/-- The data of an ARM item in blocks B1 on (R374). -/
def ArmItem.data : ArmItem → List Nat
  | .session us id => [fld 63 48 us + fld 31 0 id]
  | .waveform _ ps => (upTo 4).map (fun i => bits ps (64 * i + 63) (64 * i))
  | .waveset _ s => [bits s 191 128, bits s 127 64, bits s 63 0]
  | .delay _ vs => packWords 10 6 (vs.map (tc 10))
  | .trim _ ws => pairWords ws
  | .pulse ws => (upTo 7).map (fun i => bits ws (64 * i + 63) (64 * i))
  | .facet ds =>
    (upTo 4).map (fun b => (upTo 4).foldl (fun a i => a + fld (63 - 16 * i) (48 - 16 * i) (tc 16 (ds.getD (4 * b + i) 0))) 0)
  | .page id s => [fld 63 32 id + fld 31 29 s]

/-- TYPE of a downstream frame (R370). -/
def LaneBody.typ : LaneBody → Nat
  | .arm _ _ => 0x01
  | .fire _ _ _ _ _ _ _ => 0x02
  | .sweepData _ _ _ _ _ _ _ => 0x03
  | .sweepStart _ _ _ => 0x04
  | .spit _ _ _ _ _ _ => 0x05
  | .time _ _ _ _ => 0x06
  | .statusReq => 0x07

/-- The data blocks of a downstream frame (R373, R374). -/
def LaneBody.data : LaneBody → List Nat
  | .arm i gen =>
    let h := i.head
    (fld 63 56 h.1 + fld 55 48 h.2.1 + fld 47 32 h.2.2.1 + fld 31 16 h.2.2.2 + fld 15 0 gen) :: i.data
  | .fire t k page pu amp set lv =>
    [fld 63 0 t, fld 63 32 k + fld 31 0 page, fld 63 32 pu + fld 31 16 amp + fld 15 13 set] ++ codeWords lv
  | .spit t j pu amp set lv =>
    [fld 63 0 t, fld 63 32 j, fld 63 32 pu + fld 31 16 amp + fld 15 13 set] ++ codeWords lv
  | .sweepData t td j page facet seg lv =>
    [fld 63 0 t, fld 63 0 td, fld 63 32 j + fld 31 0 page, fld 63 60 facet + fld 59 58 seg] ++ codeWords lv
  | .sweepStart t j p => [fld 63 0 t, fld 63 32 j + fld 31 0 p]
  | .time t1 i prev off => [fld 63 0 t1, fld 63 32 i + fld 31 0 prev, tc 64 off]
  | .statusReq => [0]

/-- Blocks of a frame on the wire: W = LEN + 2 (R368). -/
def LaneBody.wire (b : LaneBody) : Nat := b.data.length + 2

/-- A downstream frame as it leaves the lane (R369). -/
def LaneFrame.words (f : LaneFrame) : List Nat := frameWords f.body.typ f.active false f.seq f.body.data

/-- The data blocks of an executor's HELLO (R375). -/
def helloData (f : HelloFrame) : List Nat :=
  [fld 63 62 f.kind.toNat + fld 61 49 f.nozzles.toNat + fld 48 33 f.headType.toNat + fld 32 17 f.bufBlocks.toNat
      + fld 16 15 f.input.toNat,
    fld 63 48 f.tSetupNs.toNat + fld 47 16 f.reportNs.toNat + fld 15 8 f.version.toNat + fld 7 0 f.features.toNat,
    f.serial.toNat]

/-- The data blocks of an ACK (R375). -/
def ackData (f : AckFrame) : List Nat :=
  let echo := match f.echo with | some e => e | none => (0, 0, 0)
  [fld 63 32 f.creditsRet.toNat + fld 31 0 f.armLast.toNat, fld 63 32 f.sensedSeq.toNat + fld 31 0 echo.1.toNat]
    ++ (if f.echo.isSome then [echo.2.1.toNat, echo.2.2.toNat] else [])

/-- The data blocks of an EXCEPT (R375). -/
def exceptData (f : ExceptFrame) : List Nat :=
  [fld 63 32 f.refSeq.toNat + fld 31 0 f.event.toNat,
    fld 63 63 (b2n f.more) + fld 62 56 f.entries.length + fld 55 24 f.pageId.toNat]
    ++ pairWords (f.entries.map (fun e => fld 31 20 e.nozzle.toNat + fld 19 18 e.cls.toNat + fld 17 10 e.est.toNat))

/-- The data blocks of a TELEM (R375). -/
def telemData (f : TelemFrame) : List Nat :=
  [f.tSample.toNat,
    fld 63 48 f.headTemp.toNat + fld 47 32 f.driveMv.toNat + fld 31 16 f.logicMv.toNat + fld 15 0 f.alarms.toNat,
    fld 63 32 f.lateFrames.toNat + fld 31 16 f.rxErrA.toNat + fld 15 0 f.rxErrB.toNat]

/-- The data blocks of a MISMATCH (R375): WHAT stands in bits [25:23]. -/
def mismatchData (f : MismatchFrame) : List Nat :=
  [fld 63 32 f.dupSeq.toNat + fld 31 26 f.dupType.toNat + fld 25 23 f.what.toNat, f.dt.toNat]

/-- TYPE and LEN of an upstream frame are of R370; `b1` is its block B1. -/
def upFormOk (typ len b1 : Nat) : Bool :=
  if typ = 0x21 then len = 3
  else if typ = 0x22 then len = 2 || len = 4
  else if typ = 0x23 then
    let n := bits b1 62 56
    1 ≤ n && n ≤ 64 && len = 2 + ceilDiv n 2
  else if typ = 0x24 then len = 3
  else if typ = 0x25 then len = 2
  else false

/-- The reserved fields of an upstream frame as (block, high bit, low bit), reserved ranges inside fields included (R371,
R375). -/
def upReserved (typ len : Nat) : List (Nat × Nat × Nat) :=
  if typ = 0x21 then [(0, 63, 63), (0, 14, 0), (1, 7, 3)]
  else if typ = 0x23 then (1, 23, 0) :: (upTo (len - 2)).flatMap (fun i => [(2 + i, 41, 32), (2 + i, 9, 0)])
  else if typ = 0x24 then [(1, 15, 6)]
  else if typ = 0x25 then [(0, 22, 0)]
  else []

/-- What a receiver finds wrong with a frame (R371): a CRC mismatch or an invalid block before a TYPE, a LEN or a
reserved field that is wrong. A frame whose data blocks are not LEN in number has a wrong LEN (log entry 82). -/
def frameFault (formOk : Nat → Nat → Nat → Bool) (reserved : Nat → Nat → List (Nat × Nat × Nat)) (f : RawFrame) :
    Option DiscardKind :=
  let sof := f.sof.toNat
  let eof := f.eof.toNat
  let data := f.data.map (·.toNat)
  let typ := bits sof 55 50
  let len := data.length
  if f.invalid || bits sof 63 56 != 0x78 || bits eof 63 56 != 0x87 || bits eof 31 0 != (frameCrc sof data).toNat then
    some .crc
  else if bits sof 49 40 != len || !formOk typ len (data.getD 1 0) || bits sof 37 32 != 0 || bits eof 55 32 != 0
      || (reserved typ len).any (fun r => bits (data.getD r.1 0) r.2.1 r.2.2 != 0) then some .malformed
  else none

/-- What is wrong with an upstream mark-link frame (R371). -/
def upFault (f : RawFrame) : Option DiscardKind := frameFault upFormOk upReserved f

/-- TYPE of a Xason message (R600). -/
def XBody.typ : XBody → Nat
  | .hello _ => 0x01
  | .candidacy _ => 0x02
  | .route _ => 0x03
  | .credit _ => 0x04
  | .time _ => 0x05
  | .status _ _ => 0x06
  | .mittenJoin _ => 0x07
  | .visorReq _ => 0x08
  | .visorData _ => 0x09
  | .visorEnd _ => 0x0A
  | .pageEdge _ _ _ => 0x0B
  | .lease _ _ _ _ => 0x0C
  | .thermalQ => 0x0D
  | .thermalA _ _ => 0x0E
  | .audit _ _ _ => 0x0F
  | .fence _ => 0x10
  | .lining snapshot _ => if snapshot then 0x20 else 0x21
  | .pair _ => 0x22
  | .forward h => h.typ.toNat

/-- Whether a TYPE is link-local: its scope is Link or Lining port, and it carries no route header (R597, R600). -/
def linkLocal (typ : Nat) : Bool := [0x01, 0x04, 0x05, 0x20, 0x21, 0x22].contains typ

/-- Whether a message travels on the bulk channel (R600). -/
def XBody.bulk : XBody → Bool
  | .visorData _ => true
  | .lining _ _ => true
  | .forward h => h.bulk
  | _ => false

/-- The section of R648 of a lining entry; what travels beside the sections has section 0 (log entry 20). -/
def liningSection : LiningEntry → Nat
  | .engagement _ _ => 1
  | .page _ _ _ _ => 1
  | .ticket _ _ => 1
  | .job _ _ _ => 1
  | .binding _ _ _ _ => 1
  | .placement _ _ _ _ _ => 1
  | .seq _ _ => 2
  | .nozzle _ _ _ => 3
  | .ledger _ _ _ _ _ => 4
  | .axis _ _ => 5
  | .stepper _ _ => 5
  | .loop _ _ => 6
  | .act _ _ => 6
  | .lamp _ _ => 6
  | .calibration _ _ => 7
  | .partnerLane _ _ => 0

/-- 8-byte blocks of a byte string, its first byte in bits [63:56] as R369 takes the bytes of a block (log entry 83). -/
def byteWords : Nat → List Byte → List Nat
  | 0, _ => []
  | fuel + 1, bs =>
    match bs with
    | [] => []
    | _ => beNat ((bs ++ List.replicate 7 (0 : Byte)).take 8) :: byteWords fuel (bs.drop 8)

/-- The body of a Xason message, after the route header of a routed one (R601, R602, R640, R646, R648). KEY and the entry of a
lining frame have no layout in the manual (log entry 20). -/
def XBody.body : XBody → List Nat
  | .hello h =>
    [fld 63 48 h.node.toNat + fld 47 40 h.depth.toNat + fld 39 32 h.prio.toNat + fld 31 16 h.crown.toNat, h.serial.toNat,
      h.crownSerial.toNat]
  | .candidacy m => [fld 63 48 m.node.toNat + fld 47 40 m.prio.toNat, m.serial.toNat]
  | .route m =>
    (fld 63 63 (b2n m.withdraw) + fld 62 56 m.ranges.length + fld 31 0 m.routeSeq.toNat)
      :: pairWords (m.ranges.map (fun r => fld 31 16 r.1.toNat + fld 15 0 r.2.toNat))
  | .credit f =>
    [fld 63 32 f.urgRx.toNat + fld 31 0 f.urgRet.toNat, fld 63 32 f.bulkRx.toNat + fld 31 0 f.bulkRet.toNat,
      fld 63 32 f.urgHeld.toNat + fld 31 0 f.bulkHeld.toNat, f.stamp.toNat]
  | .time (.request i t1) => [t1.toNat, fld 63 32 i.toNat, 0]
  | .time (.answer i t2 t3 settled) => [t2.toNat, fld 63 32 i.toNat + fld 31 30 1 + fld 29 29 (b2n settled), t3.toNat]
  | .status finger word => [fld 63 32 finger + fld 31 0 word]
  | .mittenJoin m =>
    (fld 63 32 m.mitten.toNat + fld 31 20 m.first.toNat + fld 19 15 m.fingers.length + fld 14 12 m.ancestors.length
        + fld 11 11 (b2n m.last))
      :: pairWords ((upTo 8).map (fun i => (m.ancestors.map (·.toNat)).getD i 0)) ++ pairWords (m.fingers.map (·.toNat))
  | .visorReq m => [m.latchT.toNat, fld 63 32 m.scope.toNat + fld 31 16 m.visorId.toNat]
  | .visorData m =>
    (fld 63 48 m.visorId.toNat + fld 47 32 m.part.toNat + fld 31 16 m.bytes.length + fld 15 15 (b2n m.last))
      :: byteWords m.bytes.length m.bytes
  | .visorEnd m => [fld 63 32 m.units.toNat + fld 31 16 m.visorId.toNat + fld 15 15 (b2n m.late)]
  | .pageEdge stn seq tEdge => [fld 63 0 tEdge, fld 63 32 seq + fld 31 29 stn]
  | .lease kind _ _ m =>
    [fld 63 60 kind + fld 59 58 m.role.toNat + fld 57 56 m.rank.toNat + fld 47 32 m.pairLo.toNat + fld 31 0 m.epoch.toNat,
      m.expires.toNat]
  | .thermalQ => []
  | .thermalA temp sensor => [fld 63 48 (tc 16 temp) + fld 47 46 sensor]
  | .audit _ unit reason => [fld 63 32 unit + fld 31 16 reason]
  | .fence m => [fld 63 60 m.kind.toNat + fld 31 0 m.epoch.toNat, fld 63 48 m.referee.toNat + fld 47 46 m.line.toNat]
  | .lining _ f =>
    (fld 63 56 (liningSection f.entry) + fld 55 32 (Config.liningWord f.entry 0) + fld 31 0 f.epoch.toNat) :: f.stamp.toNat
      :: (upTo 12).map (fun i => Config.liningWord f.entry (i + 1) % 2 ^ 64)
  | .pair m =>
    [fld 63 48 m.node.toNat + fld 31 0 m.epoch.toNat, fld 63 32 m.liningCompat.toNat + fld 31 0 m.pairCrc.toNat,
      m.serial.toNat]
  | .forward h => h.body.map (·.toNat)

/-- Blocks of a Xason frame on the wire (R368, R597). -/
def XBody.blocks (b : XBody) : Nat := b.body.length + (if linkLocal b.typ then 2 else 4)

/-- The route header of a message from a node to a node (R597): an AUDIT names its mitten in DST_LOCAL (log entry 84), a
frame on its way keeps what its origin gave it. -/
def XBody.header (node dst stamp : Nat) (b : XBody) : List Nat :=
  let vc := fld 10 10 (b2n b.bulk)
  match b with
  | .forward h =>
    [fld 63 48 h.dst.toNat + fld 47 32 h.src.toNat + fld 31 16 h.dstLocal.toNat + fld 15 11 h.hops.toNat + vc, h.stamp.toNat]
  | .audit m _ _ => [fld 63 48 dst + fld 47 32 node + fld 31 16 m + vc, fld 63 0 stamp]
  | .lease _ _ _ m => [fld 63 48 dst + fld 47 32 node + vc, m.stamp.toNat]
  | _ => [fld 63 48 dst + fld 47 32 node + vc, fld 63 0 stamp]

/-- A Xason frame on the wire (R596, R597): ACTIVE and REQ are those of a LEASE, and REQ that of a PAIR (R640, R650). -/
def XBody.words (node dst seq stamp : Nat) (b : XBody) : List Nat :=
  let data := (if linkLocal b.typ then [] else b.header node dst stamp) ++ b.body
  match b with
  | .lease _ req active _ => frameWords b.typ active req seq data
  | .pair m => frameWords b.typ false m.req seq data
  | .forward h => frameWords b.typ h.active h.req seq data
  | _ => frameWords b.typ false false seq data

/-- TYPE and LEN of a Xason frame are of R599 to R602; a bulk frame has at most 256 blocks. -/
def xFormOk (typ len _b1 : Nat) : Bool :=
  if [0x01, 0x05, 0x06, 0x0A, 0x0E, 0x0F, 0x22].contains typ then len = 3
  else if [0x02, 0x04, 0x08, 0x0B, 0x0C, 0x10].contains typ then len = 4
  else if typ = 0x03 then 4 ≤ len && len ≤ 14
  else if typ = 0x07 then 8 ≤ len && len ≤ 14
  else if typ = 0x09 then 4 ≤ len && len ≤ 253
  else if typ = 0x0D then len = 2
  else if typ = 0x20 ∨ typ = 0x21 then 2 ≤ len && len ≤ 254
  else false

/-- The reserved fields of a Xason frame as (block, high bit, low bit): those of the route header of a routed one, and those
of its body (R597, R601, R602, R640, R646). -/
def xReserved (typ _len : Nat) : List (Nat × Nat × Nat) :=
  (if linkLocal typ then [] else [(0, 9, 0)])
  ++ (if typ = 0x01 then [(0, 15, 0)]
    else if typ = 0x02 then [(2, 39, 0)]
    else if typ = 0x03 then [(2, 55, 32)]
    else if typ = 0x05 then [(1, 31, 31), (1, 28, 0)]
    else if typ = 0x07 then [(2, 10, 0)]
    else if typ = 0x08 then [(3, 15, 0)]
    else if typ = 0x09 ∨ typ = 0x0A then [(2, 14, 0)]
    else if typ = 0x0B then [(3, 28, 0)]
    else if typ = 0x0C then [(2, 55, 48)]
    else if typ = 0x0E then [(2, 45, 0)]
    else if typ = 0x0F then [(2, 15, 0)]
    else if typ = 0x10 then [(2, 59, 32), (3, 45, 0)]
    else if typ = 0x22 then [(0, 47, 32)]
    else [])

/-- What is wrong with a Xason frame (R371, R596); KIND 10 to 15 of a LEASE and 2 to 15 of a FENCE are reserved (R640,
R646). -/
def xFault (f : RawFrame) : Option DiscardKind :=
  match frameFault xFormOk xReserved f with
  | some k => some k
  | none =>
    let typ := bits f.sof.toNat 55 50
    let kind := bits ((f.data.map (·.toNat)).getD 2 0) 63 60
    if (typ = 0x0C ∧ 9 < kind) ∨ (typ = 0x10 ∧ 1 < kind) then some .malformed else none

end Sys2Proof.Machine
end

