-- ==== Sys2Proof/Machine/Ops.lean ====
section
/-! DEFINITION. The named operations every command shares: the clock of a command, the configuration in effect, reports
on units, counters, completions, sends, and the free values. -/

namespace Sys2Proof.Machine

/-- The instant at which a happening of a rank that comes at `t` is registered: not before the present, and in the next
CORE cycle where one that R682 takes after it has been registered in this one (log entry 1). -/
def Clock.registered (c : Clock) (t rank : Nat) : Nat :=
  let now := max c.now t
  if now / 4 = c.now / 4 ∧ rank < c.rank then (c.now / 4 + 1) * 4 else now

/-- The instant of a command is registered: the time counter advances by its TIME cycles (R553), and the happening has
a rank (R682). -/
def Clock.enter (c : Clock) (t rank : Nat) : Clock :=
  let now := c.registered t rank
  let cycles : Int := ((now / 16 - c.now / 16 : Nat) : Int)
  { c with
    now := now, rank := rank
    tai := if c.running then ((c.tai : Int) + cycles * (1125899906842624 + c.adj * 65536)).toNat else c.tai }

/-- Every command begins by registering its instant. -/
def Dev.enter (t rank : Nat) (d : Dev) : Dev := { d with clk := d.clk.enter t rank }

/-- Device time in quarter-nanoseconds: the counter at the latest TIME cycle and the quarters of the cycle since. -/
def Dev.quarters (d : Dev) : Nat := d.clk.tai / 2 ^ 46 + (if d.clk.running then d.clk.now % 16 else 0)

/-- Device time as a qns value, 64 bits (R10). -/
def Dev.qns (d : Dev) : Nat := d.quarters % 2 ^ 64

/-- Device time as a stamp64, 64 bits (R9). -/
def Dev.stamp (d : Dev) : Nat := d.quarters / 4 % 2 ^ 64

/-- Quarter-nanoseconds of a number of nanoseconds. -/
abbrev nsq (ns : Nat) : Nat := 4 * ns
/-- Quarter-nanoseconds of a number of microseconds. -/
abbrev usq (us : Nat) : Nat := 4000 * us
/-- Quarter-nanoseconds of a number of milliseconds. -/
abbrev msq (ms : Nat) : Nat := 4000000 * ms

/-- A field of the loaded image's header (R46). -/
def Dev.hdr (d : Dev) (hi lo : Nat) : Nat := bits d.boot.image.header hi lo

/-- The node id: from the image header, 0xFFFF in boot recovery (R115). -/
def Dev.node (d : Dev) : Nat := if d.boot.loaded then d.hdr 175 160 else 0xFFFF

/-- The full address of a local unit (R24). -/
def Dev.addr (d : Dev) (u : Nat) : Nat := d.node * 65536 + u

/-- The enabled record of a type for a local unit id, if any (R53). -/
def Dev.recU (d : Dev) (r : RT) (u : Nat) : Option Rec :=
  d.boot.image.recs.find? (fun x => x.typ == r.code && x.enable && x.addr == d.addr u)

/-- The unit id a record type configures at an index: of the first class the type takes (R55). -/
def RT.unit (r : RT) (i : Nat) : Nat := uid (r.classes.headD 0) i

/-- The enabled record of a type at a unit index. -/
def Dev.recI (d : Dev) (r : RT) (i : Nat) : Option Rec := d.recU r (r.unit i)

/-- A field of a unit's record, its default where no record is enabled. -/
def Dev.cfgU (d : Dev) (r : RT) (u : Nat) (f : F) : Int :=
  match d.recU r u with
  | some x => r.get x.body f
  | none => r.dfltAt (uindex u) f

/-- A field of the record at a unit index, signed where the layout says so. -/
def Dev.cfg (d : Dev) (r : RT) (i : Nat) (f : F) : Int := d.cfgU r (r.unit i) f

/-- A field as a natural number. -/
def Dev.cfgN (d : Dev) (r : RT) (i : Nat) (f : F) : Nat := (d.cfg r i f).toNat

/-- A one-bit field. -/
def Dev.cfgB (d : Dev) (r : RT) (i : Nat) (f : F) : Bool := d.cfg r i f != 0

/-- The body of the record at a unit index; 0 without one. -/
def Dev.body (d : Dev) (r : RT) (i : Nat) : Nat :=
  match d.recI r i with
  | some x => x.body
  | none => 0

/-- A node id that a record names; 0xFFFF is the node that loads the record (R27). -/
def Dev.nodeNamed (d : Dev) (x : Nat) : Nat := if x = 0xFFFF then d.node else x

/-- An I/O bank's bit. -/
def bankMask (b : IoBank) : BitVec 13 := 1#13 <<< b.ctorIdx

/-- A bank's inputs are served: its supply is good and SPINE has applied its reset state (R78, log entry 96). -/
def Dev.bankUp (b : IoBank) (d : Dev) : Bool := d.pins.banks &&& bankMask b != 0

/-- Whether a record of the type is enabled at the index. -/
def Dev.has (d : Dev) (r : RT) (i : Nat) : Bool := (d.recI r i).isSome

/-- A jet station (R284). -/
def Dev.isJet (d : Dev) (n : Nat) : Bool := d.has .stnJet n
/-- A scan station (R352). -/
def Dev.isScan (d : Dev) (n : Nat) : Bool := d.has .stnScan n
/-- A station with an enabled station record. -/
def Dev.stnOn (d : Dev) (n : Nat) : Bool := d.isJet n || d.isScan n

/-- Whether a local unit is in use by the image (R53): its own type's record is enabled. SYSPLL, TPLL and the domains are
there without one, and a place PLL follows its station (R538, R584, log entry 102). -/
def Dev.unitOn (d : Dev) (u : Nat) : Bool :=
  let i := uindex u
  let c := uclass u
  if c = cNODE then true
  else if c = cSTN then d.stnOn i
  else if c = cLANE then d.has .lane i
  else if c = cAXIS then d.has .axis i
  else if c = cSTEP then d.has .step i
  else if c = cLOOP then d.has .loop i
  else if c = cLAMP then d.has .lamp i
  else if c = cACT then d.has .act i
  else if c = cPLL then i < 2 || d.stnOn (i - 2)
  else if c = cCLKO then d.has .clko i
  else if c = cENC then d.has .enc i
  else if c = cCUE then d.has .cue i
  else if c = cAIN then d.has .ain i
  else if c = cDMA then d.has .dma i
  else if c = cBANK then d.has .bank i
  else if c = cXPORT then d.has .xport i
  else if c = cMITTEN then d.has .mitten i
  else if c = cTEMP then true
  else if c = cDOMAIN then true
  else if c = cSDM then d.has .sdm i
  else d.has .sos i

/-- Every enabled local unit, by rising id. -/
def Dev.unitsOn (d : Dev) : List Nat :=
  ((upTo 21).flatMap (fun c => (upTo (classSize c)).map (uid c))).filter d.unitOn

/-- The stations in use. -/
def Dev.stations (d : Dev) : List Nat := (upTo 8).filter d.stnOn

/-- The status of a unit. -/
def Dev.us (d : Dev) (u : Nat) : UnitStat := d.units.at u
/-- The state of a unit. -/
def Dev.ust (d : Dev) (u : Nat) : UState := (d.us u).state

/-- The image configures a twin (R46). -/
def Dev.isTwin (d : Dev) : Bool := d.boot.loaded && bit d.boot.image.header 177
/-- Field outputs and completions of record belong to this device: it is no twin, or the active one. -/
def Dev.isActive (d : Dev) : Bool := !d.isTwin || d.twin.role == .active

/-- A counter's key: local unit id x 256 + counter. -/
def ctrKey (u : Nat) (c : Ctr) : Nat := u * 256 + c.ctorIdx

/-- A counter (R681). -/
def Dev.ctrAt (d : Dev) (u : Nat) (c : Ctr) : DWord := d.ctr.at (ctrKey u c)

/-- A counter raised by `n`, in 64 bits. -/
def Dev.bump (u : Nat) (c : Ctr) (n : Nat) (d : Dev) : Dev :=
  { d with ctr := d.ctr.upd (ctrKey u c) (fun x => x + BitVec.ofNat 64 n) }

/-- A counter set. -/
def Dev.setCtr (u : Nat) (c : Ctr) (v : Int) (d : Dev) : Dev :=
  { d with ctr := d.ctr.set (ctrKey u c) (BitVec.ofInt 64 v) }

/-- A counter raised to `v` where it is lower. -/
def Dev.peakCtr (u : Nat) (c : Ctr) (v : Nat) (d : Dev) : Dev :=
  { d with ctr := d.ctr.upd (ctrKey u c) (fun x => if x.toNat < v then BitVec.ofNat 64 v else x) }

/-- Something is put on an interface. -/
def HostSt.emit (h : HostSt) (o : Out) : HostSt := { h with out := o :: h.out }

/-- Something is put on an interface. -/
def Dev.emit (o : Out) (d : Dev) : Dev := { d with host := d.host.emit o }

/-- The read requests for `len` bytes of host memory: none exceeds 4 KiB or crosses a 4 KiB boundary (R185). -/
def hostReads (addr len : Nat) : List (Nat × Nat) :=
  (upTo (ceilDiv (addr % 4096 + len) 4096)).map (fun i =>
    let a := max addr ((addr / 4096 + i) * 4096)
    (a, min (addr + len) ((addr / 4096 + i + 1) * 4096) - a))

/-- Bytes of host memory are read (R185). -/
def Dev.readHost (addr len : Nat) (d : Dev) : Dev :=
  (hostReads addr len).foldl (fun d r => d.emit (.pcieRead r.1 r.2)) d

/-- Free entries of a ring the device writes: one slot stays empty, so that equal indices mean empty (log entry 13). -/
def RingSt.room (r : RingSt) : Nat := r.size.toNat - 1 - r.used

/-- The ring after the device has written one entry (R119, R122). -/
def RingSt.advance (r : RingSt) : RingSt :=
  if r.devIdx + 1 = r.size then { r with devIdx := 0, phase := !r.phase, used := r.used + 1 }
  else { r with devIdx := r.devIdx + 1, used := r.used + 1 }

/-- An entry with PHASE in bit 0. -/
def withPhase (e : Entry) (p : Bool) : Entry := if p then e ||| 1#512 else e

/-- An entry of the MSI-X table; its default is masked, as the PCI Express specification has it (log entry 31). -/
def HostSt.msixEntry (h : HostSt) (v : Nat) : BitVec 128 := Tbl.getD (1#128 <<< 96) h.msixTable v

/-- An MSI-X vector is signalled: masked, it is noted in the pending-bit array (R112, R115). -/
def HostSt.signal (h : HostSt) (v : Nat) : HostSt :=
  if (h.msixEntry v).getLsbD 96 then { h with pba := h.pba ||| (1#256 <<< v) } else h.emit (.msix v)

/-- A vector is raised at once with CQ_COALESCE_US 0, else held until its instant (R129). -/
def HostSt.raise (h : HostSt) (v now coalUs : Nat) : HostSt :=
  if coalUs = 0 then h.signal v
  else if (h.coalesce.get? v).isSome then h
  else { h with coalesce := h.coalesce.set v (now + usq coalUs) }

/-- What the posting of entries needs to know of the device. -/
structure PostCtx where
  now : Nat
  stamp : Nat
  node : Nat
  coal : Nat
  evVec : Nat

/-- An entry goes to its ring in host memory: bytes 4 to 63, then bytes 0 to 3, which hold PHASE (R126). -/
def HostSt.writeEntry (r : Ring) (slot : Nat) (e : Entry) (h : HostSt) : HostSt :=
  (h.emit (.entryBody r slot (e.extractLsb' 32 480))).emit (.entryHead r slot (e.extractLsb' 0 32))

/-- Kept events go to the event ring, oldest first, while it has room (R114, R126). -/
def HostSt.postEvents (x : PostCtx) : List Event → HostSt → HostSt
  | [], h => { h with keptEq := [] }
  | e :: es, h =>
    if h.eq.room = 0 then { h with keptEq := e :: es }
    else
      HostSt.postEvents x es
        (({ h with eq := h.eq.advance }.writeEntry .event h.eq.devIdx.toNat (withPhase e.entry h.eq.phase)).raise
          x.evVec x.now x.coal)

/-- Kept completions go to the completion ring, oldest first, while it has room (R114, R126, R141). -/
def HostSt.postCompls (x : PostCtx) : List Compl → HostSt → HostSt
  | [], h => { h with keptCq := [] }
  | c :: cs, h =>
    if h.cq.room = 0 then { h with keptCq := c :: cs }
    else
      HostSt.postCompls x cs
        (({ h with cq := h.cq.advance }.writeEntry .completion h.cq.devIdx.toNat
          (withPhase (c.entry x.stamp x.node) h.cq.phase)).raise c.vec x.now x.coal)

/-- The posting context of the present instant. -/
def Dev.postCtx (d : Dev) : PostCtx :=
  { now := d.clk.now, stamp := d.stamp, node := d.node, coal := d.cfgN .host 0 .CQ_COALESCE_US,
    evVec := d.cfgN .host 0 .EVENT_VEC }

/-- The next sequence number, from 1 and wrapping from 0xFFFF_FFFF to 1 (R127, R141, R376). -/
def nextSeq (n : Nat) : Nat := if n = 0xFFFFFFFF then 1 else n + 1

/-- A status word after an event (R28, R30): events in one CORE cycle are simultaneous. A unit that enters FAULT, by
whatever code, has not been acknowledged since (R128). -/
def UnitStat.event (s : UnitStat) (cycle rank order : Nat) (sev reason : Nat) (st : Option UState) (ack : Bool) :
    UnitStat :=
  let same := s.cycle == cycle && s.order != 0
  let setSt := match st with
    | none => (s.state, if same then s.rank else 8)
    | some x => if same && s.rank < rank then (s.state, s.rank) else (x, rank)
  let takes := reason != 0 &&
    (!(same && s.told) || s.sev.toNat < sev || (s.sev.toNat == sev && reason ≤ s.reason.toNat))
  { s with
    state := setSt.1, rank := setSt.2, cycle := cycle, order := order, count := s.count + 1
    told := reason != 0 || (same && s.told)
    sev := if takes then BitVec.ofNat 4 sev else s.sev
    reason := if takes then BitVec.ofNat 16 reason else s.reason
    unacked := s.unacked || ack || (setSt.1 == .fault && s.state != .fault) }

/-- An event is added to those to post; beyond 256 it is dropped and counted, and its number is used (R125, R127). -/
def HostSt.keepEvent (x : PostCtx) (e : Event) (h : HostSt) : HostSt :=
  let h := { h with eqSeq := nextSeq h.eqSeq }
  if below h.keptEq.length 256 then HostSt.postEvents x (h.keptEq ++ [e]) h
  else { h with eqDropped := if h.eqDropped = 0xFFFFFFFF#32 then h.eqDropped else h.eqDropped + 1, overflow := true }

/-- The port on the way to a node: the child port whose subtree holds it, else the parent port (R604); a node whose id
another node has is excluded from routing (R91). -/
def Fab.portTo (f : Fab) (dst : Nat) : Option Nat :=
  if f.dup then none
  else
    match f.ports.find? (fun p =>
        p.2.up && f.parent != some p.1 && p.2.subtree.any (fun r => r.1 ≤ dst && dst ≤ r.2)) with
    | some p => some p.1
    | none => f.parent

/-- The credit a port has on a channel: the peer's buffer less what it has not returned (R599, R609). -/
def Port.avail (p : Port) (bulk : Bool) : Int :=
  let ret : Nat := match p.credit with
    | some c => if bulk then c.bulkRet.toNat else c.urgRet.toNat
    | none => 0
  let sent := if bulk then p.sentB else p.sentU
  (if bulk then 4096 else 128) - (((sent + 2 ^ 32 - ret) % 2 ^ 32 : Nat) : Int)

/-- A frame leaves a port: it is counted in its channel (R596, R609, R626). -/
def Dev.portSend (p dst : Nat) (b : XBody) (d : Dev) : Dev :=
  let blk := b.bulk
  let n := b.blocks
  let x := d.fab.ports.at p
  let x :=
    { x with
      sentU := if blk then x.sentU else x.sentU + n, sentB := if blk then x.sentB + n else x.sentB
      seqU := if blk then x.seqU else nextSeq x.seqU, seqB := if blk then nextSeq x.seqB else x.seqB
      recent := (d.qns, n, blk) :: x.recent }
  (({ d with fab := { d.fab with ports := d.fab.ports.set p x } }).bump (uid cXPORT p) .FRAMES_TX 1).emit
    (.xason dst p b (if blk then (d.fab.ports.at p).seqB else (d.fab.ports.at p).seqU) d.qns)

/-- A frame is to leave a port; without credit, or behind one that waits, it waits and is counted (R609, R626). -/
def Dev.portQueue (p dst : Nat) (b : XBody) (d : Dev) : Dev :=
  let x := d.fab.ports.at p
  let blk := b.bulk
  if (if blk then x.waitB else x.waitU).isEmpty ∧ (b.blocks : Int) ≤ x.avail blk then d.portSend p dst b
  else
    let x := if blk then { x with waitB := x.waitB ++ [(dst, b)] } else { x with waitU := x.waitU ++ [(dst, b)] }
    ({ d with fab := { d.fab with ports := d.fab.ports.set p x } }).bump (uid cXPORT p) .CREDIT_STALLS 1

/-- Waiting frames of one channel leave while credit lasts. -/
def Dev.portDrain (p : Nat) : List (Nat × XBody) → Dev → List (Nat × XBody) × Dev
  | [], d => ([], d)
  | (dst, b) :: q, d =>
    if (b.blocks : Int) ≤ (d.fab.ports.at p).avail b.bulk then Dev.portDrain p q (d.portSend p dst b)
    else ((dst, b) :: q, d)

/-- A message to a node, on the port that leads to it; without a route it waits (R604, R605). A message to the own node
is not sent. -/
def Dev.xsend (dst : Nat) (b : XBody) (d : Dev) : Dev :=
  if dst = d.node ∨ d.fab.dup then d
  else
    match d.fab.portTo dst with
    | some p => d.portQueue p dst b
    | none => { d with fab := { d.fab with held := d.fab.held ++ [(dst, b)] } }

/-- A message on one port (link-local, or toward a neighbour). -/
def Dev.xport (p : Nat) (b : XBody) (d : Dev) : Dev := d.portQueue p 0xFFFF b

/-- A port of the tree: UP, with the peer its record names, and no cross link but as parent (R603, R604, R624). -/
def Dev.treePort (d : Dev) (p : Nat) : Bool :=
  let x := d.fab.ports.at p
  p < 4 && x.up && !x.mismatch && !d.fab.dup && (d.cfgN .xport p .ROLE == 0 || d.fab.parent == some p)

/-- A flood: to every tree port but one (R604). -/
def Dev.flood (but : Option Nat) (b : XBody) (d : Dev) : Dev :=
  ((upTo 4).filter (fun p => d.treePort p && but != some p)).foldl (fun d p => d.xport p b) d

/-- The referees of the pair in rank order: 0xFFFF is none for ranks 1 to 3 only (R27, R659). -/
def Dev.refs (d : Dev) : List Nat :=
  d.nodeNamed (d.cfgN .twin 0 .REF0_NODE)
    :: ([F.REF1_NODE, F.REF2_NODE, F.REF3_NODE].map (d.cfgN .twin 0)).filter (· ≠ 0xFFFF)

/-- A node can be reached over the fabric, or over the lining port through the partner (R604, R639). -/
def Dev.reaches (d : Dev) (r : Nat) : Bool := (d.fab.portTo r).isSome || (d.fab.ports.at 4).up

/-- An entry of the lining leaves over LP while this twin is active and a standby listens (R648, R650). -/
def Dev.lineOut (last : Bool) (snapshot : Bool) (e : LiningEntry) (d : Dev) : Dev :=
  if d.isTwin ∧ d.twin.role = .active ∧ d.twin.serving ∧ (d.fab.ports.at 4).up then
    let f : LiningFrame :=
      { epoch := BitVec.ofNat 32 d.twin.epoch, seq := BitVec.ofNat 32 d.twin.outSeq, stamp := BitVec.ofNat 64 d.qns,
        entry := e, last := last, incomplete := d.twin.mirrorCut }
    ({ d with twin := { d.twin with outSeq := nextSeq d.twin.outSeq, mirrorCut := false } }).xport 4 (.lining snapshot f)
  else d

/-- A change of a section of the lining (R648). -/
def Dev.delta (e : LiningEntry) (d : Dev) : Dev := d.lineOut false false e

/-- What section 1 of the lining says of a station's placement (R648). -/
def Dev.placeEntry (d : Dev) (n : Nat) : LiningEntry :=
  .placement (Fin.ofNat 8 n) ((d.stn.at n).leLast.getD 0) (d.stn.at n).g (d.stn.at n).pReg
    ((d.stn.at n).glides.map (fun x => (x.rem, x.slope)))

/-- What section 5 says of an axis (R465, R648). -/
def Dev.axisEntry (d : Dev) (a : Nat) : LiningEntry :=
  let x := d.axis.at a
  let p := d.prof.at (uid cAXIS a)
  .axis (Fin.ofNat 24 a)
    { du := x.du, dv := x.dv, dw := x.dw, intD := x.intD, intQ := x.intQ, iW := x.iW, wR := x.wR, zero := x.zero
      z := (d.enc.at (d.cfgN .axis a .ENC)).z, cnt := x.cnt, cntAt := x.cntAt, on := x.on, safe := x.safe, trip := x.trip
      p := p.p, v := p.v, tgt := p.tgt }

/-- What section 5 says of a stepper and its profile (R492, R648). -/
def Dev.stepEntry (d : Dev) (i : Nat) : LiningEntry :=
  let x := d.step.at i
  let p := d.prof.at (uid cSTEP i)
  .stepper (Fin.ofNat 16 i)
    { da := x.da, db := x.db, sgA := x.sgA, sgB := x.sgB, fastA := x.fastA, fastB := x.fastB, icA := x.icA, icB := x.icB
      p := p.p, v := p.v, tgt := p.tgt, count0 := x.count0, on := x.on, heldFor := x.held.map (d.clk.now - ·), stallHold := x.stallHold }

/-- What section 6 says of a loop (R530, R648). -/
def Dev.loopEntry (d : Dev) (i : Nat) : LiningEntry :=
  let x := d.loop.at i
  .loop (Fin.ofNat 64 i)
    { r := x.r, target := x.target, iAcc := x.iAcc, dAcc := x.dAcc, u1 := x.u1, u2 := x.u2, v1 := x.v1, v2 := x.v2
      yPrev := x.yPrev, out := x.out, satFor := x.satAt.map (d.clk.now - ·), satWin := x.satWin.map (d.clk.now - ·), holdFor := x.holdAt.map (d.clk.now - ·)
      charge := x.charge.map (fun c =>
        { job := BitVec.ofNat 32 c.job, page := BitVec.ofNat 32 c.page, charge := c.charge, samples := c.samples }) }

/-- What section 6 says of an actuator and of a lamp (R530, R648). -/
def Dev.actEntry (d : Dev) (i : Nat) : LiningEntry := .act (Fin.ofNat 32 i) (d.act.at i).duty
/-- What section 6 says of a lamp (R530, R648). -/
def Dev.lampEntry (d : Dev) (i : Nat) : LiningEntry :=
  let m := d.lamp.at i
  .lamp (Fin.ofNat 16 i) { on := m.on, debt := m.debt, k := m.k, opens := m.opens, deferred := m.deferred, brimK := m.brimK }

/-- What section 1 says of the engagement (R380, R648). -/
def Dev.engEntry (d : Dev) : LiningEntry := .engagement (BitVec.ofNat 4 d.eng.st.code) d.eng.session

/-- A station's placement has changed. -/
def Dev.linePlace (n : Nat) (d : Dev) : Dev := d.delta (d.placeEntry n)

/-- A unit in FAULT leaves it at engagement only once acknowledged; TEMP leaves it as R577 and R580 say (R128). -/
def Dev.staysFault (d : Dev) (u : Nat) : Bool := d.ust u == .fault && ((d.us u).unacked || u == uTEMP)

/-- An entry goes to the partner over LP beside the sections (log entry 20). -/
def Dev.tellBeside (e : LiningEntry) (d : Dev) : Dev :=
  if d.isTwin ∧ (d.fab.ports.at 4).up then
    d.xport 4 (.lining false
      { epoch := BitVec.ofNat 32 d.twin.epoch, seq := 0, stamp := BitVec.ofNat 64 d.qns, entry := e, last := false })
  else d

/-- The state of this twin's link to a lane goes to the partner over LP (R396). -/
def Dev.tellPartner (l : Nat) (up : Bool) (d : Dev) : Dev := d.tellBeside (.partnerLane (Fin.ofNat 256 l) up)

/-- ARM frames that only this twin builds have taken numbers of a lane: the partner leaves them unused (R376, R377, log
entry 113). -/
def Dev.tellSeq (l : Nat) (d : Dev) : Dev :=
  d.tellBeside (.seq (Fin.ofNat 256 l) (BitVec.ofNat 32 (d.lane.at l).seq))

/-- The device sends ordered frames on its lanes: no twin, the active one, a lined standby, or an unlined one that keeps
up, each once it has the SESSION_ID (R157, R380, R634); never under T_crit or FENCED (R574, R643). -/
def Dev.mayFrame (d : Dev) : Bool :=
  d.boot.stage != .critical && d.twin.role != .fenced
    && (!d.isTwin || d.twin.role == .active
      || (!d.eng.sessionWait && (d.twin.role == .lined || (d.twin.role == .unlined && d.twin.snapped))))

/-- The device sends a page's frames: it sends frames, and as a standby no frame of a page that the active has ended
before MARKING (R157). -/
def Dev.mayFramePage (d : Dev) (p : Page) : Bool :=
  d.mayFrame && (d.isActive ||
    d.twin.pages.all (fun x => !(x.1 == p.job && x.2.1 == p.id && (x.2.2 == PState.refused.code || x.2.2 == PState.missed.code))))

/-- The enabled MITTEN record of a mitten's address (R612, R613). -/
def Dev.mittenRec (d : Dev) (a : Nat) : Option Rec :=
  d.boot.image.recs.find? (fun x => x.typ == RT.mitten.code && x.enable && x.addr == a)

/-- The finger addresses of a mitten; node id 0xFFFF is the own node (R27). -/
def Dev.fingersOf (d : Dev) (a : Nat) : List Nat :=
  match d.mittenRec a with
  | none => []
  | some x => (upTo (bits x.body 11 0)).map (fun i =>
      let f := bits x.body (63 + 32 * i) (32 + 32 * i)
      if f / 65536 = 0xFFFF then d.node * 65536 + f % 65536 else f)

/-- A mitten whose home this node is: one at its own address, or its pair's mitten while it is the active twin (R613). -/
def Dev.homed (d : Dev) (a : Nat) : Bool :=
  match d.mittenRec a with
  | some x =>
    if bit x.body 31 then d.isTwin && d.isActive && (d.fingersOf a).contains (d.addr uNODE) else a / 65536 == d.node
  | none => false

/-- The partner of a twin (R659). -/
def Dev.partner (d : Dev) : Nat := d.nodeNamed (d.cfgN .twin 0 .PARTNER_NODE)

/-- The node that is home of a mitten (R613): the node of its address, or for the pair's mitten the active twin. -/
def Dev.homeOf (d : Dev) (m : Nat) : Nat :=
  match d.mittenRec m with
  | some x =>
    if bit x.body 31 && (d.fingersOf m).contains (d.addr uNODE) then (if d.isActive then d.node else d.partner)
    else m / 65536
  | none => m / 65536

/-- What a status word says, with the order of its latest event; `setter` is, for a mitten in the making, that of the
finger whose SEVERITY it has so far. -/
structure Stat where
  state : UState
  sev : Nat
  reason : Nat
  count : Nat
  order : Nat
  setter : Nat := 0

/-- A status word received (R28, R614). -/
def statOfWord (w order : Nat) : Stat :=
  { state := UState.ofCode (bits w 31 28), sev := bits w 27 24, reason := bits w 23 8, count := bits w 7 0, order := order }

/-- The status of a mitten so far, and a further finger (R33, R34). -/
def Stat.both (a b : Stat) : Stat :=
  let sets := a.sev < b.sev || (a.sev == b.sev && a.setter < b.order)
  { state := if b.state.order < a.state.order then b.state else a.state
    sev := max a.sev b.sev
    reason := if sets then b.reason else a.reason
    count := (a.count + b.count) % 256
    order := max a.order b.order
    setter := if sets then b.order else a.setter }

/-- The status of no finger. -/
def Stat.none : Stat := { state := .run, sev := 0, reason := 0, count := 0, order := 0 }

/-- The status of a mitten from those of its fingers (R33, R34). -/
def Stat.ofFingers : List Stat → Stat
  | [] => Stat.none
  | f :: fs => fs.foldl Stat.both { f with count := f.count % 256, setter := f.order }

/-- The status of a unit address within `fuel` levels of mittens: the own unit's, a mitten's from its fingers, a remote
one's as received. A twin-pair mitten takes STATE from its active finger alone (R33, R34, R36), and its
EVENT_COUNT is the sum of R34, which R36 leaves open (DESIGN CHOICE, log entry 66). -/
def Dev.statOf (d : Dev) : Nat → Nat → Stat
  | fuel, a =>
    if d.homed a then
      match fuel with
      | 0 => Stat.none
      | fuel + 1 =>
        let s := Stat.ofFingers ((d.fingersOf a).map (d.statOf fuel))
        match d.mittenRec a with
        | some x => if bit x.body 31 then { s with state := d.ust uNODE } else s
        | Option.none => s
    else if a / 65536 ≠ d.node then
      let r := d.fab.remote.at a
      statOfWord r.1 r.2
    else
      let s := d.us (a % 65536)
      { state := s.state, sev := s.sev.toNat, reason := s.reason.toNat, count := s.count.toNat, order := s.order }

/-- The status word of a unit of this node, or of a mitten whose home it is (R28, R33, R34). -/
def Dev.wordAt (d : Dev) (a : Nat) : Word :=
  if d.homed a then
    let s := d.statOf 8 a
    BitVec.ofNat 32 (put 28 s.state.code + put 24 s.sev + put 8 s.reason + s.count)
  else (d.us (a % 65536)).word

/-- The status word of a local unit id. -/
def Dev.wordOf (d : Dev) (u : Nat) : Word := d.wordAt (d.addr u)

/-- STATUS goes to the home of the mitten that a unit of this node, or a mitten whose home it is, is a finger of, when that
is another node (R600, R613, R614); a change under a mitten of this node changes that mitten in turn, at most 8 levels up. -/
def Dev.tellHome : Nat → Nat → Dev → Dev
  | 0, _, d => d
  | fuel + 1, a, d =>
    match d.fab.fingers.get? (a % 65536) with
    | none => d
    | some (m, _, _) =>
      if d.homed m then Dev.tellHome fuel m d
      else d.xsend (d.homeOf m) (.status a (d.wordAt a).toNat)

/-- STATUS of a local unit goes to the home of its mitten. -/
def Dev.sendStatus (fuel u : Nat) (d : Dev) : Dev := d.tellHome fuel (d.addr u)

/-- BOOT_REASON after a report: the last code of the image group or the start-up group; in boot recovery 0x0113 stands
(R65, R116, R683). -/
def Boot.noted (code : Nat) (b : Boot) : Boot :=
  if (code / 256 = 0x01 ∨ code / 256 = 0x11) ∧ b.stage ≠ .recovery then { b with reason := BitVec.ofNat 16 code } else b

/-- A report on a unit with a given severity (R30): its status word, its event (R127), its mitten's home, and
BOOT_REASON. -/
def Dev.reportAs (sev : Nat) (ack : Bool) (u code : Nat) (st : Option UState) (detail : Nat) (d : Dev) : Dev :=
  let s := (d.us u).event (d.clk.now / 4) d.clk.rank d.host.order sev code st ack
  let d := { d with
    units := d.units.set u s, host := { d.host with order := d.host.order + 1 }, boot := d.boot.noted code }
  let d :=
    if code ≠ 0 ∧ (d.cfgN .host 0 .EVENT_MIN_SEV ≤ sev ∨ code = 0x0E18 ∨ code = 0x0E1A ∨ code = 0x0E1C) then
      let e : Event :=
        { seq := d.host.eqSeq, stamp := d.stamp, unit := d.addr u, reason := code, sev := sev, state := s.state.code,
          ack := ack, detail := detail }
      { d with host := d.host.keepEvent d.postCtx e }
    else d
  d.sendStatus 8 u

/-- A report with the severity of the code's kind (R686). -/
def Dev.report (u code : Nat) (st : Option UState := none) (detail : Nat := 0) (d : Dev) : Dev :=
  d.reportAs (kindOf code).severity (kindOf code).needsAck u code st detail

/-- A change of STATE without a reason is an event; no change is none (R30). -/
def Dev.setSt (u : Nat) (st : UState) (d : Dev) : Dev :=
  if d.ust u = st then d else d.reportAs 0 false u 0 (some st) 0

/-- A change of STATE that leaves a unit in FAULT or FENCED as it is (R28, R128, R643). -/
def Dev.rest (u : Nat) (st : UState) (d : Dev) : Dev :=
  if d.ust u = .fault ∨ d.ust u = .fenced then d else d.setSt u st

/-- A report where a condition holds. -/
def Dev.reportIf (c : Bool) (u code : Nat) (st : Option UState := none) (detail : Nat := 0) (d : Dev) : Dev :=
  if c then d.report u code st detail else d

/-- Every unit of a list takes a state. -/
def Dev.setAll (us : List Nat) (st : UState) (d : Dev) : Dev := us.foldl (fun d u => d.setSt u st) d

/-- What is kept is posted as far as the rings have room; then the event owed under R125 (0x0E18). -/
def Dev.pump (d : Dev) : Dev :=
  let h := HostSt.postCompls d.postCtx d.host.keptCq (HostSt.postEvents d.postCtx d.host.keptEq d.host)
  let d := { d with host := h }
  if d.host.overflow && below d.host.keptEq.length 256 then
    ({ d with host := { d.host with overflow := false } }).report uNODE 0x0E18
  else d

/-- The fetched ticket of a ring slot that has not ended. -/
def Dev.tkt (d : Dev) (slot : Nat) : Option Tkt := d.host.tickets.find? (fun k => k.slot == slot)

/-- The outcome of a ticket goes to the partner: from the active in section 1, from a standby that follows beside the
sections, so that both can compare (R158, R648, log entry 20). -/
def Dev.lineTicket (rs outcome : Nat) (d : Dev) : Dev :=
  let e : LiningEntry := .ticket (BitVec.ofNat 16 rs) (BitVec.ofNat 4 outcome)
  if d.isTwin ∧ d.twin.role ≠ .active ∧ d.twin.snapped ∧ (d.fab.ports.at 4).up then
    d.xport 4 (.lining false
      { epoch := BitVec.ofNat 32 d.twin.epoch, seq := 0, stamp := BitVec.ofNat 64 d.qns, entry := e, last := false })
  else d.delta e

/-- The partner reached another outcome of a ticket (R158). -/
def Dev.diverges (d : Dev) (slot outcome : Nat) : Bool :=
  match d.twin.outcomes.get? (slot % 65536) with
  | some o => o != outcome
  | none => false

/-- FLAGS of a completion: FINAL, STANDBY on a standby twin (R157) and DIVERGED (R158) beside what was gathered (R141). -/
def Dev.complFlags (d : Dev) (slot : Nat) (final : Bool) (outcome flags : Nat) : Nat :=
  flagIf (final && d.diverges slot outcome) (flagIf (!d.isActive) (flagIf final flags fFINAL) fSTANDBY) fDIVERGED

/-- A completion of a ticket (R141). A final one ends the ticket and releases its room (R124). A standby twin's carries
STANDBY (R157); a twin whose partner reached another outcome sets DIVERGED with 0x0E19 (R158). -/
def Dev.post (slot : Nat) (final : Bool) (outcome reason flags pageState page r0 r1 : Nat) (d : Dev) : Dev :=
  match d.tkt slot with
  | none => d
  | some k =>
    let rs := slot % 65536
    let other := d.twin.outcomes.get? rs
    let d := d.reportIf (final && d.diverges slot outcome) uNODE 0x0E19
    let ps := if pageState = 0xF ∨ d.isActive then pageState
      else ((d.twin.pages.find? (fun x => x.1 == tJob k.entry && x.2.1 == page)).map (·.2.2)).getD pageState
    let fl := d.complFlags slot final outcome flags
    let c : Compl :=
      { seq := d.host.cqSeq, slot := slot, vec := tVec k.entry, tag := tTag k.entry, job := tJob k.entry, page := page,
        typ := tType k.entry, outcome := outcome, reason := reason, flags := fl, pageState := ps, r0 := r0,
        r1 := r1 }
    let ts := if final then d.host.tickets.filter (fun x => x.slot != slot)
      else d.host.tickets.map (fun x => if x.slot == slot then { x with room := x.room - 1 } else x)
    let h := { d.host with cqSeq := nextSeq d.host.cqSeq, tickets := ts }
    let d := { d with
      host := HostSt.postCompls d.postCtx (h.keptCq ++ [c]) h
      twin :=
        if !final ∨ !d.isTwin then d.twin
        else if other.isSome then { d.twin with outcomes := d.twin.outcomes.del rs }
        else if d.twin.serving ∨ d.twin.snapped then { d.twin with myOutcomes := d.twin.myOutcomes.set rs outcome }
        else d.twin }
    if final then d.lineTicket rs outcome else d

/-- The final completion of a ticket that is no PAGE or TESTPAGE. -/
def Dev.finish (slot outcome reason : Nat) (flags : Nat := 0) (r0 : Nat := 0) (r1 : Nat := 0) (d : Dev) : Dev :=
  d.post slot true outcome reason flags 0xF 0 r0 r1

/-- A value the manual leaves open (log entry 11): the next of `Config.freeValue`. -/
def Dev.freeVal (d : Dev) : Nat := Config.freeValue d.free

/-- The open value has been taken. -/
def Dev.freeNext (d : Dev) : Dev := { d with free := d.free + 1 }

/-- A page of the device by its order of fetch. -/
def Dev.page? (d : Dev) (ord : Nat) : Option Page := d.jobs.pages.find? (fun p => p.order == ord)

/-- The page of a job and PAGE_ID. -/
def Dev.pageJ (d : Dev) (job id : Nat) : Option Page := d.jobs.pages.find? (fun p => p.job == job && p.id == id)

/-- What section 1 of the lining says of a page (R157, R648). -/
def Page.entry (p : Page) : LiningEntry :=
  .page (BitVec.ofNat 32 p.job) (BitVec.ofNat 32 p.id) (BitVec.ofNat 4 p.state.code) p.abortAt.isSome

/-- A page replaced, by its order; a change of its state is lined (R648). -/
def Dev.setPage (p : Page) (d : Dev) : Dev :=
  let moved := d.jobs.pages.any (fun q => q.order == p.order && q.state != p.state)
  let d := { d with jobs := { d.jobs with pages := d.jobs.pages.map (fun q => if q.order == p.order then p else q) } }
  if moved then d.delta p.entry else d

/-- A page's part at a station changed. -/
def Dev.updPg (ord n : Nat) (f : PgStn → PgStn) (d : Dev) : Dev :=
  { d with jobs := { d.jobs with
      pages := d.jobs.pages.map (fun q => if q.order == ord then { q with stn := q.stn.upd n f } else q) } }

/-- A page changed. -/
def Dev.updPage (ord : Nat) (f : Page → Page) (d : Dev) : Dev :=
  { d with jobs := { d.jobs with pages := d.jobs.pages.map (fun q => if q.order == ord then f q else q) } }

/-- FLAGS and a reason gathered on a page (R141); the first reason stands. -/
def Page.mark (i code : Nat) (p : Page) : Page :=
  { p with flags := flag p.flags i, reason := if p.reason = 0 then code else p.reason }

/-- The pages of a station that are not terminal, oldest first. -/
def Dev.stnPages (d : Dev) (n : Nat) : List Page :=
  d.jobs.pages.filter (fun p => bit p.mask n && !p.state.terminal)

/-- The page in MARKING at a station that has begun and is not done there, if any. -/
def Dev.marking (d : Dev) (n : Nat) : Option Page :=
  (d.stnPages n).find? (fun p => p.state == .marking && (p.stn.at n).begun && !(p.stn.at n).marked)

/-- A station is in a brim when it has no page in MARKING (R151, "The brim rule"). -/
def Dev.inBrim (d : Dev) (n : Nat) : Bool := (d.marking n).isNone

/-- A station changed. -/
def Dev.updStn (n : Nat) (f : Stn → Stn) (d : Dev) : Dev := { d with stn := d.stn.upd n f }
/-- A lane changed. -/
def Dev.updLane (l : Nat) (f : Lane → Lane) (d : Dev) : Dev := { d with lane := d.lane.upd l f }
/-- A PLL changed. -/
def Dev.updPll (i : Nat) (f : Pll → Pll) (d : Dev) : Dev := { d with pll := d.pll.upd i f }
/-- A port changed. -/
def Dev.updPort (p : Nat) (f : Port → Port) (d : Dev) : Dev :=
  { d with fab := { d.fab with ports := d.fab.ports.upd p f } }

/-- The own CREDIT leaves on a port: every block received is freed and returned (R384, R385, R602, R610). -/
def Dev.returnCredit (p : Nat) (d : Dev) : Dev :=
  let x := d.fab.ports.at p
  let w (n : Nat) : Word := BitVec.ofNat 32 n
  let f : CreditFrame :=
    { urgRx := w x.rxU, urgRet := w x.rxU, bulkRx := w x.rxB, bulkRet := w x.rxB, urgHeld := 0, bulkHeld := 0
      stamp := BitVec.ofNat 64 d.qns }
  (d.updPort p (fun x => { x with retU := x.rxU, retB := x.rxB })).xport p (.credit f)

/-- Blocks have arrived on a channel of a port. They are freed at once and returned with the own CREDIT; those of CREDIT
frames wait until 64 urgent blocks are owed, so that CREDIT does not answer CREDIT (R385, R609; log entry 87). -/
def Dev.acceptBlocks (p : Nat) (bulk isCredit : Bool) (n : Nat) (d : Dev) : Dev :=
  let d := d.updPort p (fun x => if bulk then { x with rxB := (x.rxB + n) % 4294967296 }
    else { x with rxU := (x.rxU + n) % 4294967296 })
  let x := d.fab.ports.at p
  if isCredit && below ((x.rxU + 4294967296 - x.retU) % 4294967296) 64 then d else d.returnCredit p

/-- Whether a message is a CREDIT. -/
def XBody.isCredit : XBody → Bool
  | .credit _ => true
  | _ => false

/-- A frame is accepted on a port (R596, R609, R626). -/
def Dev.accept (p : Nat) (b : XBody) (d : Dev) : Dev :=
  (d.bump (uid cXPORT p) .FRAMES_RX 1).acceptBlocks p b.bulk b.isCredit b.blocks

/-- A frame of another node is accepted on the port that leads to it (R604, R626; log entry 88). -/
def Dev.acceptFrom (node : Nat) (b : XBody) (d : Dev) : Dev :=
  match d.fab.portTo node with
  | some p => if (d.fab.ports.at p).up then d.accept p b else d
  | none => d

/-- An axis changed. -/
def Dev.updAxis (a : Nat) (f : Axis → Axis) (d : Dev) : Dev := { d with axis := d.axis.upd a f }
/-- A stepper changed. -/
def Dev.updStep (a : Nat) (f : Stepper → Stepper) (d : Dev) : Dev := { d with step := d.step.upd a f }
/-- A loop changed. -/
def Dev.updLoop (a : Nat) (f : Loop → Loop) (d : Dev) : Dev := { d with loop := d.loop.upd a f }
/-- A channel changed. -/
def Dev.updChan (c : Nat) (f : Chan → Chan) (d : Dev) : Dev :=
  { d with plane := { d.plane with ch := d.plane.ch.upd c f } }

/-- An encoder's count moves; the instants of the moves stay as far back as the count of 1 ms ago needs (R506). -/
def Enc.move (now : Nat) (c : Int) (x : Enc) : Enc :=
  let young := x.past.takeWhile (fun p => now < p.1 + msq 1)
  { x with count := c, past := (now, c) :: (young ++ (x.past.drop young.length).take 1) }

/-- An encoder's count moves. -/
def Dev.setCount (e : Nat) (c : Int) (d : Dev) : Dev := { d with enc := d.enc.upd e (fun x => x.move d.clk.now c) }

/-- The lanes a station uses: of LANE_MASK for a jet station, the beams for a scan station (R26, R284, R319). -/
def Dev.lanesOf (d : Dev) (n : Nat) : List Nat :=
  if d.isJet n then ((upTo 32).filter (fun i => bit (d.cfgN .stnJet n .LANE_MASK) i)).map (32 * n + ·)
  else if d.isScan n then (upTo (d.cfgN .stnScan n .BEAMS)).map (32 * n + ·)
  else []

end Sys2Proof.Machine
end

