-- ==== Sys2Proof/Machine/Image.lean ====
section
/-! DEFINITION. The configuration image: its header (R46, R47), its records (R49 to R55), the full check of a slot (R62),
its signature (R58 to R60), and the slots of the flash (R42). -/

namespace Sys2Proof.Machine

/-- Bytes of a slot (R42). -/
abbrev slotSize : Nat := 0x4000000

/-- Offset of an image slot on chip select 0 (R42). -/
def slotOff (slot : Nat) : Nat := slot * slotSize

/-- GENERATION of a header (R46). -/
def hdrGen (h : Nat) : Nat := bits h 95 64
/-- IMAGE_LEN of a header (R46). -/
def hdrLen (h : Nat) : Nat := bits h 127 96
/-- NODE_ID of a header (R46). -/
def hdrNode (h : Nat) : Nat := bits h 175 160
/-- SIG_OFFSET of a header (R46). -/
def hdrSig (h : Nat) : Nat := bits h 223 192
/-- SIGNED of a header (R46). -/
def hdrSigned (h : Nat) : Bool := bit h 176

/-- The header check of R47: the code of the first condition that fails. -/
def headerCheck (bytes : List Byte) : Option Nat :=
  let h := leNat (bytes.take 64)
  if bits h 31 0 ≠ 0x46435656 ∨ bits h 63 48 ≠ 64 then some 0x0101
  else if bits h 511 480 ≠ (crc32c (bytes.take 60)).toNat then some 0x0103
  else if bits h 47 40 ≠ 1 then some 0x0102
  else if hdrGen h = 0 ∨ hdrGen h = 0xFFFFFFFF then some 0x0105
  else if hdrLen h % 4 ≠ 0 ∨ hdrLen h < 88 ∨ 0x4000000 < hdrLen h then some 0x0104
  else if hdrNode h = 0xFFFF then some 0x0111
  else if hdrSigned h ≠ (hdrSig h != 0) then some 0x011D
  else if hdrSigned h ∧ hdrLen h ≠ hdrSig h + 136 then some 0x011D
  else none

/-- Every reserved field of the header is 0 (R4, R46). -/
def headerReservedOk (h : Nat) : Bool := bits h 479 448 == 0 && bits h 447 440 == 0 && bits h 191 178 == 0

/-- REC_LEN of a calibration record by its type, with the counts as written (R49, R400); 0 for an unknown type. -/
def calLen (typ body : Nat) : Nat :=
  if typ = 0x0810 then 24
  else if typ = 0x0811 then 28
  else if typ = 0x0812 then 28
  else if typ = 0x0813 then 24 + 4 * bits body 15 0
  else if typ = 0x0814 then 52
  else if typ = 0x0815 then 1048
  else 0

/-- Nested calibration records one after another fill `n` bytes exactly (R49, R423). -/
def nestedFill : Nat → Nat → Nat → Bool
  | 0, _, n => n == 0
  | fuel + 1, x, n =>
    if n = 0 then true
    else
      let len := bits x 95 64
      20 ≤ len && len ≤ n && nestedFill fuel (x / 2 ^ (8 * len)) (n - len)

/-- Whether REC_LEN is the length the layout of the type gives, counts as written (R49). -/
def RT.lenOk (r : RT) (len body : Nat) : Bool :=
  match r with
  | .nozzleMap => len == 36 + 4 * r.get body .NOZZLES
  | .mitten => len == 24 + 4 * r.get body .COUNT
  | .calDefaults => 28 ≤ len && nestedFill (len / 20) (body / 2 ^ 64) (len - 28)
  | _ => len == 20 + r.baseLen

/-- 32-bit word `i` of a body's counted part from body byte `off`. -/
def bodyWord (body off i : Nat) : Nat := bits body (8 * (off + 4 * i) + 31) (8 * (off + 4 * i))
/-- 64-bit word `i` of a body's counted part from body byte `off`. -/
def bodyDWord (body off i : Nat) : Nat := bits body (8 * (off + 8 * i) + 63) (8 * (off + 8 * i))

/-- Reserved bits of a stitch mask: the header word's [31:8] and bits WIDTH to 127 of each row (R258). -/
def stitchReservedOk (body : Nat) : Bool :=
  bits body 31 8 == 0
    && (upTo 64).all (fun p => bits body (32 + 128 * p + 127) (32 + 128 * p) / 2 ^ bits body 7 0 == 0)

/-- UNIT_ADDR with node id 0xFFFF replaced (R52). -/
def replaceNode (node addr : Nat) : Nat := if addr / 65536 = 0xFFFF then node * 65536 + addr % 65536 else addr

/-- The record at the low end of a number (R49): its bytes in order, least significant first. -/
def recOfNat (node x : Nat) : Rec :=
  { typ := bits x 15 0, ver := bits x 31 16, addr := replaceNode node (bits x 63 32), len := bits x 95 64,
    enable := bit x 127, label := bits x 111 96, body := x / 2 ^ 128 % 2 ^ (8 * (bits x 95 64 - 20)) }

/-- The reserved bits of a calibration record's body are 0 (R400). -/
def calReservedOk (x : Rec) : Bool :=
  if x.typ = 0x0811 then bits x.body 63 40 == 0
  else if x.typ = 0x0813 then (upTo (bits x.body 15 0)).all (fun i => bits (bodyWord x.body 4 i) 3 0 == 0)
  else if x.typ = 0x0815 then stitchReservedOk x.body
  else true

/-- The reserved fields of nested calibration records in `n` bytes are 0, UNIT_COMMON's among them (R4, R49, R50). -/
def nestedReservedOk : Nat → Nat → Nat → Bool
  | 0, _, _ => true
  | fuel + 1, x, n =>
    let len := bits x 95 64
    if n < 20 ∨ len < 20 ∨ n < len then true
    else
      bits x 126 112 == 0 && calReservedOk (recOfNat 0 x) && nestedReservedOk fuel (x / 2 ^ (8 * len)) (n - len)

/-- Every reserved field of a record's body is 0 (R4); `len` is REC_LEN, `scan` the beams and facets of the station's
STN_SCAN, where it has one (R353). -/
def RT.reservedOk (r : RT) (len body : Nat) (scan : Option (Nat × Nat)) : Bool :=
  r.reserved.all (fun x => bits body x.1 x.2 == 0) &&
  match r with
  | .waveform =>
    bits body 31 16 == 0
      && (upTo 64).all (fun i => let w := bodyDWord body 4 i; bits w 53 52 == 0 && bits w 3 1 == 0)
  | .waveset => (upTo 8).all (fun i => bits body (192 * i + 190) (192 * i + 168) == 0)
  | .stitchMask => stitchReservedOk body
  | .spitPattern => bits body 31 16 == 0 && (upTo 16).all (fun i => bits (bodyDWord body 4 i) 37 0 == 0)
  | .pulsePattern => (upTo 7).all (fun i => bits (bodyDWord body 0 i) 19 0 == 0)
  | .facetDelay =>
    match scan with
    | none => true
    | some (beams, facets) =>
      (upTo 512).all (fun i =>
        (i / 16 < beams && i % 16 < facets) || bits body (16 * i + 15) (16 * i) == 0)
  | .pll => (upTo 16).all (fun i => bits (bodyDWord body 16 i) 47 32 == 0)
  | .thermal => (upTo 16).all (fun i => bits (bodyDWord body 16 i) 47 32 == 0)
  | .calDefaults => nestedReservedOk (len / 20) (body / 2 ^ 64) (len - 28)
  | _ => true

/-- A record type whose UNIT_ADDR may name another node (R54). -/
def RT.anyNode (r : RT) : Bool := r == .mitten || r == .xport || r == .referee

/-- UNIT_ADDR under R54 and R55: class, index and node id. -/
def RT.unitOk (r : RT) (node addr : Nat) : Bool :=
  uvalid (addr % 65536) && r.classes.contains (uclass (addr % 65536))
    && (addr / 65536 == 0xFFFF || addr / 65536 == node || r.anyNode)

/-- The record at the head of a byte string; `limit` is how many bytes there are before the end of the image. -/
def recAt (node limit : Nat) (bs : List Byte) : Except Nat (Nat × Rec) :=
  let h := leNat (bs.take 16)
  let len := bits h 95 64
  if len % 4 ≠ 0 ∨ len < 20 ∨ 16777216 < len ∨ limit < len then .error 0x0108
  else
    .ok (len,
      { typ := bits h 15 0, ver := bits h 31 16, addr := replaceNode node (bits h 63 32), len := len,
        enable := bit h 127, label := bits h 111 96, body := leNat ((bs.drop 16).take (len - 20)) })

/-- A record stands after those before it, latest first: ascending REC_TYPE, then UNIT_ADDR (R52). -/
def Rec.follows (x : Rec) : List Rec → Bool
  | [] => true
  | p :: _ => p.typ < x.typ || (p.typ == x.typ && p.addr < x.addr)

/-- The checks of R62 on one record, in their order; `seen` are the records before it, latest first.
REC_VERSION is not among them (log entry 101). -/
def recCheck (node limit : Nat) (seen : List Rec) (bs : List Byte) : Except Nat (Nat × Rec) := do
  let (len, x) ← recAt node limit bs
  let rt := RT.ofCode x.typ
  if (match rt with | some r => !r.lenOk len x.body | none => false) then throw 0x0108
  if leNat ((bs.drop (len - 4)).take 4) ≠ (crc32c (bs.take (len - 4))).toNat then throw 0x0107
  match rt with
  | none => throw 0x0109
  | some r =>
    if !r.unitOk node (bits (leNat (bs.take 8)) 63 32) then throw 0x010A
    if !x.follows seen then throw 0x010B
    let scan := (seen.find? (fun s => s.typ == RT.stnScan.code && s.addr == x.addr && s.enable)).map
      (fun s => ((RT.stnScan.get s.body .BEAMS).toNat, (RT.stnScan.get s.body .FACETS_M1).toNat + 1))
    if bits (leNat (bs.take 16)) 126 112 ≠ 0 ∨ !r.reservedOk len x.body scan then throw 0x010D
    return (len, x)

/-- The records from the head of a byte string, while at least 20 bytes stand before `last`; with the bytes used. -/
def recWalk (node last limit : Nat) : Nat → List Rec → Nat → List Byte → Except Nat (List Rec × Nat)
  | 0, seen, off, _ => .ok (seen.reverse, off)
  | fuel + 1, seen, off, bs =>
    if last < off + 20 then .ok (seen.reverse, off)
    else
      match recCheck node (limit - off) seen bs with
      | .error c => .error c
      | .ok (len, x) => recWalk node last limit fuel (x :: seen) (off + len) (bs.drop len)

/-- The table memory a record loads (R57). -/
def Rec.tableBytes (x : Rec) : Nat :=
  if !x.enable then 0
  else
    match RT.ofCode x.typ with
    | some .nozzleMap | some .waveform | some .waveset | some .stitchMask | some .spitPattern | some .facetDelay
    | some .pulsePattern | some .calDefaults | some .testPattern | some .microstepTable | some .blowerCurve =>
      x.len - 16
    | some .thermal | some .pll => 128
    | _ => 0

/-- The fuses (R60, R61). -/
structure Fuses where
  keyHash : BitVec 256
  enforce : Bool

/-- The judgement of R60 on a slot: the code that makes it invalid, or the information 0x0115, or nothing. -/
def signatureCheck (f : Fuses) (bytes : List Byte) : Except Nat (Option Nat) :=
  let h := leNat (bytes.take 64)
  let sig := hdrSig h
  let keyBytes := (bytes.drop (sig + 8)).take 64
  let verifies : Bool :=
    ecdsaVerify (beNat (keyBytes.take 32)) (beNat (keyBytes.drop 32))
      (beNat ((bytes.drop (sig + 72)).take 32)) (beNat ((bytes.drop (sig + 104)).take 32))
      (sha256 (bytes.take sig))
  let anchored : Bool := sha256 keyBytes == f.keyHash.toNat
  if f.enforce ∧ f.keyHash = 0 then .error 0x0114
  else if !hdrSigned h then (if f.enforce then .error 0x010E else .ok none)
  else if f.keyHash = 0 then (if verifies then .ok (some 0x0115) else .error 0x0110)
  else if !anchored then .error 0x010F
  else if !verifies then .error 0x0110
  else .ok none

/-- The full check of R62 on the bytes of an image whose header is valid: the image and the information it comes with,
or the code of the first finding. For a RECORD_COUNT outside 1 to 262,144 the spec names no code; 0x010C is the model's
choice (DESIGN CHOICE, log entry 61). -/
def fullCheck (f : Fuses) (bytes : List Byte) : Except Nat (Image × Option Nat) := do
  let h := leNat (bytes.take 64)
  let node := hdrNode h
  let last := if hdrSigned h then hdrSig h else hdrLen h
  if !headerReservedOk h then throw 0x010D
  let (recs, endOff) ← recWalk node last (hdrLen h) (hdrLen h / 20) [] 64 (bytes.drop 64)
  let count := bits h 159 128
  if count ≠ recs.length ∨ count = 0 ∨ 262144 < count then throw 0x010C
  if endOff ≠ last then throw (if hdrSigned h then 0x011D else 0x0108)
  if bits h 255 224 ≠ (crc32c ((bytes.take endOff).drop 64)).toNat then throw 0x0106
  match recs.filter (fun x => x.typ == RT.node.code) with
  | [n] =>
    if !n.enable ∨ RT.node.get n.body .NODE_ID ≠ node then throw 0x0111
    if 33554432 < (recs.map Rec.tableBytes).foldl (· + ·) 0 then throw 0x0125
    if hdrSigned h ∧ (leNat ((bytes.drop (hdrSig h)).take 4) ≠ 0x47535656
        ∨ leNat ((bytes.drop (hdrSig h + 4)).take 4) ≠ 0) then throw 0x011D
    let info ← signatureCheck f bytes
    return ({ header := h, recs := recs }, info)
  | _ => throw 0x0111

/-- The bytes of chip select `cs`. -/
def Boot.flash (b : Boot) (cs : Nat) : Mem := if cs = 0 then b.flash0 else b.flash1

/-- The flash of a chip select replaced. -/
def Boot.setFlash (cs : Nat) (m : Mem) (b : Boot) : Boot :=
  if cs = 0 then { b with flash0 := m } else { b with flash1 := m }

/-- What a read of the flash gives. From a flash that does not answer, the bus reads as 0xFF (R45, log entry 62). -/
def Boot.flashBytes (b : Boot) (cs off n : Nat) : List Byte :=
  if b.answers.getLsbD cs then Mem.bytes 0xFF (b.flash cs) off n else List.replicate n 0xFF

/-- The first 64 bytes of a slot. -/
def Boot.slotHeader (b : Boot) (slot : Nat) : List Byte := b.flashBytes 0 (slotOff slot) 64

/-- The image bytes of a slot, as long as its header says. -/
def Boot.slotImage (b : Boot) (slot : Nat) : List Byte :=
  b.flashBytes 0 (slotOff slot) (hdrLen (leNat (b.slotHeader slot)))

/-- The fuses of the device. -/
def Boot.fuses (b : Boot) : Fuses := { keyHash := b.keyHash, enforce := b.enforce }

/-- The slots to try, in order, among those whose headers are valid (R62): a forced slot stands alone. -/
def slotOrder (bootsel : Nat) (ok0 ok1 : Bool) (gen0 gen1 : Nat) : List Nat :=
  if bootsel = 1 then (if ok0 then [0] else [])
  else if bootsel = 2 then (if ok1 then [1] else [])
  else
    let first := if bootsel = 0 then (if gen0 < gen1 then 1 else 0) else (if gen0 < gen1 then 0 else 1)
    ([first, 1 - first].filter (fun s => if s = 0 then ok0 else ok1))

/-- The 1-1-1 read of a slot's header (R45, R46). -/
def headerRead (slot : Nat) : Out := .flashRead 0 (slotOff slot) 64 0x0B 8 false

/-- SPINE's reset of each flash (R45): Reset Enable and Reset Memory as 8D-8D-8D transfers to each chip select, then as
1S-1S-1S transfers. -/
def flashResets : List Out :=
  [true, false].flatMap (fun octal => [0, 1].flatMap (fun cs =>
    [.flashCommand cs octal 0x66, .flashCommand cs octal 0x99]))

/-- The entry to octal DDR with the values of a header: Write Enable, then the write that the header names (R46). -/
def octalEntry (h : Nat) : List Out :=
  [0, 1].flatMap (fun cs =>
    [.flashCommand cs false 0x06, .flashSet cs (bits h 407 400) (bits h 439 416) (bits h 415 408)])

/-- The chosen slot's image is read: the flash is switched to octal DDR first, where it is not yet (R46, log entry 62).
OCTAL_DUMMY goes out as it stands, also outside 8 to 31 (log entry 99). -/
def Dev.readSlot (slot : Nat) (d : Dev) : Dev :=
  let h := leNat (d.boot.slotHeader slot)
  let d := if d.boot.octal then d
    else (octalEntry h).foldl (fun d o => d.emit o) { d with boot := { d.boot with octal := true } }
  d.emit (.flashRead 0 (slotOff slot) (hdrLen h) (bits h 391 384) (bits h 399 392) true)

/-- An operation starts on the flash. An erase takes effect as it starts (log entry 62); a write takes effect when the
flash reports its end. A read in octal DDR takes the command of the image in effect, which boot recovery has not (log
entry 100). -/
def Dev.flashStart (op : FlashOp) (d : Dev) : Dev :=
  let h := d.boot.image.header
  match op with
  | .erase cs off len =>
    ({ d with boot := if d.boot.answers.getLsbD cs then d.boot.setFlash cs ((d.boot.flash cs).erase off len) else d.boot }).emit
      (.flashErase cs off len)
  | .write cs off bs => d.emit (.flashWrite cs off bs)
  | .read cs off len =>
    d.emit (if d.boot.octal then .flashRead cs off len (bits h 391 384) (bits h 399 392) true
      else .flashRead cs off len 0x0B 8 false)

/-- A write that has ended is in the flash. -/
def Dev.flashWritten (cs off : Nat) (bs : List Byte) (d : Dev) : Dev :=
  if d.boot.answers.getLsbD cs then
    { d with boot := d.boot.setFlash cs (Mem.writeBytes 0xFF (d.boot.flash cs) off bs) }
  else d

/-- A program operation is never suspended; an erase or a read-back is (R73, log entry 63). -/
def FlashOp.suspends : FlashOp → Bool
  | .write .. => false
  | .erase .. => true
  | .read .. => true

/-- The xSPI controller takes its next operation: one of the calibration store before one of a staging, whose erase or
read-back gives way and runs again afterward (R73). -/
def Dev.xspiGo (d : Dev) : Dev :=
  let x := d.boot.xspi
  let start (cal : Bool) (op : FlashOp) (y : Xspi) : Dev :=
    ({ d with boot := { d.boot with xspi := { y with run := some (cal, op) } } }).flashStart op
  match x.calOp, x.run, x.stageOp with
  | some op, none, _ => start true op { x with calOp := none }
  | some op, some (false, o), _ =>
    if o.suspends then start true op { x with calOp := none, stageOp := some o } else d
  | none, none, some op => start false op { x with stageOp := none }
  | _, _, _ => d

/-- The calibration store asks for an operation (R73). -/
def Dev.xspiCal (op : FlashOp) (d : Dev) : Dev :=
  ({ d with boot := { d.boot with xspi := { d.boot.xspi with calOp := some op } } }).xspiGo

/-- A staging asks for an operation (R73). -/
def Dev.xspiStage (op : FlashOp) (d : Dev) : Dev :=
  ({ d with boot := { d.boot with xspi := { d.boot.xspi with stageOp := some op } } }).xspiGo

/-- The running operation has ended. -/
def Dev.xspiFree (d : Dev) : Dev :=
  { d with boot := { d.boot with xspi := { d.boot.xspi with run := none } } }

/-- The operation that runs for the calibration store (`true`) or for a staging (`false`). -/
def Dev.xspiRuns (d : Dev) (cal : Bool) : Option FlashOp :=
  match d.boot.xspi.run with
  | some (c, op) => if c = cal then some op else none
  | none => none

end Sys2Proof.Machine
end

