-- ==== Sys2Proof/Machine/Setup.lean ====
section
/-! DEFINITION. What the configuration and the calibration in effect make of a station, a lane and a nozzle: calibration
values (R400 to R404, R424), line pitch and rates (R205), the nozzle map (R245 to R249), coverage and stitch zones
(R247, R257 to R259), waveform sets (R264), and pulse patterns (R354, R355). The calibration records are an argument, so
that the calibration gauntlet can judge the values that would result (R411). -/

namespace Sys2Proof.Machine

/-- Insertion of one element in a sorted list. -/
def insertBy {α : Type} (le : α → α → Bool) (x : α) : List α → List α
  | [] => [x]
  | y :: ys => if le x y then x :: y :: ys else y :: insertBy le x ys

/-- A list sorted by `le`. -/
def isort {α : Type} (le : α → α → Bool) : List α → List α
  | [] => []
  | x :: xs => insertBy le x (isort le xs)

/-- Calibration records one after another in `n` bytes. -/
def nestedRecs (node : Nat) : Nat → Nat → Nat → List Rec
  | 0, _, _ => []
  | fuel + 1, x, n =>
    let len := bits x 95 64
    if n < 20 ∨ len < 20 ∨ n < len then []
    else recOfNat node x :: nestedRecs node fuel (x / 2 ^ (8 * len)) (n - len)

/-- The calibration records in the station's CAL_DEFAULTS (R423). -/
def Dev.factory (d : Dev) (n : Nat) : List Rec :=
  match d.recI .calDefaults n with
  | none => []
  | some r => nestedRecs d.node (r.len / 20) (r.body / 2 ^ 64) (r.len - 28)

/-- The station a unit's calibration belongs to (R26, R400). -/
def calStn (u : Nat) : Nat := if uclass u = cLANE then uindex u / 32 else uindex u

/-- The body of a unit's factory record of a type (R424). -/
def Dev.factoryBody (d : Dev) (typ u : Nat) : Option Nat :=
  ((d.factory (calStn u)).find? (fun r => r.typ == typ && r.enable && r.addr == d.addr u)).map (·.body)

/-- The body of a unit's record among the records in effect, else its factory record (R400, R404, R424). -/
def Dev.calBody (d : Dev) (cs : List Rec) (typ u : Nat) : Option Nat :=
  match cs.find? (fun r => r.typ == typ && r.enable && r.addr == d.addr u) with
  | some r => some r.body
  | none => d.factoryBody typ u

/-- C_s, the station process offset in pu (R400, R220). -/
def Dev.cStn (d : Dev) (cs : List Rec) (n : Nat) : Int :=
  match d.calBody cs 0x0810 (uid cSTN n) with
  | some b => sx 32 b
  | none => 0

/-- The lane process offset in pu (R400). -/
def Dev.cLane (d : Dev) (cs : List Rec) (l : Nat) : Int :=
  match d.calBody cs 0x0811 (uid cLANE l) with
  | some b => sx 32 b
  | none => 0

/-- CROSS, in plane columns (R400, R401). -/
def Dev.cross (d : Dev) (cs : List Rec) (l : Nat) : Int :=
  match d.calBody cs 0x0811 (uid cLANE l) with
  | some b => sx 8 (bits b 39 32)
  | none => 0

/-- The row delay C_row(r) in pu (R400, R249). -/
def Dev.cRow (d : Dev) (cs : List Rec) (l r : Nat) : Int :=
  match d.calBody cs 0x0812 (uid cLANE l) with
  | some b => sx 16 (bits b (16 * r + 15) (16 * r))
  | none => 0

/-- The trim word of nozzle `n` in a CAL_TRIM body, if the body names the nozzle (R400). -/
def trimWord (body n : Nat) : Option Nat :=
  let first := bits body 31 16
  if first ≤ n ∧ n < first + bits body 15 0 then some (bodyWord body 4 (n - first)) else none

/-- The trim word of nozzle `n` (R270, R400, R424). -/
def Dev.trim (d : Dev) (cs : List Rec) (l n : Nat) : Nat :=
  let u := uid cLANE l
  match (cs.find? (fun r => r.typ == 0x0813 && r.enable && r.addr == d.addr u)).bind (fun r => trimWord r.body n) with
  | some w => w
  | none => ((d.factoryBody 0x0813 u).bind (fun b => trimWord b n)).getD 0

/-- The effective beam and facet delay D(b, f) in 1/256 pixel (R330). -/
def Dev.facetDelay (d : Dev) (cs : List Rec) (l f : Nat) : Int :=
  let i := 16 * (l % 32) + f
  sx 16 (bits (d.body .facetDelay (l / 32)) (16 * i + 15) (16 * i)) +
    (match d.calBody cs 0x0814 (uid cLANE l) with
      | some b => sx 16 (bits b (16 * f + 15) (16 * f))
      | none => 0)

/-- The stitch mask of the zone of lanes ℓ and ℓ + 1, if any record holds one (R402, R424). -/
def Dev.stitchMask (d : Dev) (cs : List Rec) (l : Nat) : Option Nat :=
  match d.calBody cs 0x0815 (uid cLANE l) with
  | some b => some b
  | none => (d.recI .stitchMask l).map (·.body)

/-- A rate or length as numerator and denominator. -/
abbrev Ratio : Type := Nat × Nat

/-- COUNT_NM of a station's primary encoder, in 2^-16 nm (R211). -/
def Dev.countNm (d : Dev) (n : Nat) : Nat := d.cfgN .enc (d.cfgN .stnPlace n .PRI_ENC) .COUNT_NM

/-- The lattice edges that a change of the primary encoder's count brings through the fractional accumulator, and what is
left in it (R203, R543). -/
def Dev.shareOf (d : Dev) (n : Nat) (counts : Int) : Int × Int :=
  let num : Int := (max 1 (d.cfgN .stnPlace n .SCALE_NUM) : Nat)
  let x := (d.stn.at n).share + counts * (256 * (d.cfgN .stnPlace n .SCALE_DEN : Nat))
  (x / num, x % num)

/-- Line pitch in nm (R205). -/
def Dev.pitch (d : Dev) (n : Nat) : Ratio :=
  (d.cfgN .stnPlace n .SCALE_NUM * d.countNm n, d.cfgN .stnPlace n .SCALE_DEN * 65536)

/-- Lines per second at a medium speed in mm/s (R205, R285, R321). -/
def Dev.lineRate (d : Dev) (n v : Nat) : Ratio := (v * 1000000 * (d.pitch n).2, (d.pitch n).1)

/-- Lines per second at VMAX_MM_S. -/
def Dev.lineRateMax (d : Dev) (n : Nat) : Ratio := d.lineRate n (d.cfgN .stnPlace n .VMAX_MM_S)

/-- Counts per second at VMAX_MM_S. -/
def Dev.countRateMax (d : Dev) (n : Nat) : Ratio :=
  (d.cfgN .stnPlace n .VMAX_MM_S * 1000000 * 65536, d.countNm n)

/-- A ratio above a whole number; a ratio over 0 is above nothing. -/
def Ratio.above (r : Ratio) (x : Nat) : Bool := r.2 != 0 && x * r.2 < r.1
/-- A ratio below a whole number. -/
def Ratio.below (r : Ratio) (x : Nat) : Bool := r.2 != 0 && r.1 < x * r.2

/-- Nozzles of a lane's map (R245). -/
def Dev.nozzles (d : Dev) (l : Nat) : Nat := if d.has .nozzleMap l then d.cfgN .nozzleMap l .NOZZLES else 0

/-- The word of nozzle `n` (R246). -/
def Dev.nozWord (d : Dev) (l n : Nat) : Nat := bodyWord (d.body .nozzleMap l) 16 n
/-- ROW of a nozzle word. -/
def nozRow (w : Nat) : Nat := bits w 18 17
/-- ENABLE of a nozzle word. -/
def nozEnabled (w : Nat) : Bool := bit w 16
/-- SPARE of a nozzle word. -/
def nozSpare (w : Nat) : Bool := bit w 15
/-- PARTNER of a nozzle word. -/
def nozPartner (w : Nat) : Nat := bits w 14 3
/-- DELAY_PU of a nozzle word. -/
def nozDelay (w : Nat) : Int := sx 3 w

/-- The plane column a nozzle serves (R246, R401). -/
def Dev.column (d : Dev) (cs : List Rec) (l n : Nat) : Int :=
  d.cfg .nozzleMap l .COL_BASE + d.cross cs l + (bits (d.nozWord l n) 31 19 : Nat)

/-- The ROWr_LINES and ROWr_PU fields. -/
def rowLinesF (r : Nat) : F := if r = 0 then .ROW0_LINES else if r = 1 then .ROW1_LINES else if r = 2 then .ROW2_LINES else .ROW3_LINES
/-- The ROWr_PU field. -/
def rowPuF (r : Nat) : F := if r = 0 then .ROW0_PU else if r = 1 then .ROW1_PU else if r = 2 then .ROW2_PU else .ROW3_PU

/-- The effective row delay D_r in pu (R249). -/
def Dev.rowDelay (d : Dev) (cs : List Rec) (l r : Nat) : Int :=
  256 * d.cfg .nozzleMap l (rowLinesF r) + d.cfg .nozzleMap l (rowPuF r) + d.cRow cs l r
/-- L_r, whole lines (R249). -/
def Dev.rowLines (d : Dev) (cs : List Rec) (l r : Nat) : Int := d.rowDelay cs l r / 256
/-- S_r, pu (R249). -/
def Dev.rowPu (d : Dev) (cs : List Rec) (l r : Nat) : Int := d.rowDelay cs l r % 256

/-- The rows of a lane. -/
def Dev.rows (d : Dev) (l : Nat) : Nat := d.cfgN .nozzleMap l .ROWS_M1 + 1

/-- Every L_r of a station. -/
def Dev.allRowLines (d : Dev) (cs : List Rec) (n : Nat) : List Nat :=
  (d.lanesOf n).flatMap (fun l => (upTo (d.rows l)).map (fun r => (d.rowLines cs l r).toNat))

/-- L_max of a jet station; 0 in a scan station (R252). -/
def Dev.lMax (d : Dev) (n : Nat) : Nat := if d.isJet n then (d.allRowLines d.cal.recs n).foldl max 0 else 0

/-- L_min of a jet station (R253). -/
def Dev.lMin (d : Dev) (n : Nat) : Nat :=
  match d.allRowLines d.cal.recs n with
  | [] => 0
  | x :: xs => if d.isJet n then xs.foldl min x else 0

/-- (column, lane, nozzle) of every non-spare nozzle of a jet station, by column, then lane, then nozzle (R247). -/
def Dev.served (d : Dev) (cs : List Rec) (n : Nat) : List (Int × Nat × Nat) :=
  isort (fun a b => a.1 < b.1 || (a.1 == b.1 && (a.2.1 < b.2.1 || (a.2.1 == b.2.1 && a.2.2 ≤ b.2.2))))
    ((d.lanesOf n).flatMap (fun l =>
      ((upTo (d.nozzles l)).filter (fun k => !nozSpare (d.nozWord l k))).map (fun k => (d.column cs l k, l, k))))

/-- The non-spare nozzles that serve a column of a lane. -/
def Dev.laneCol (d : Dev) (cs : List Rec) (l : Nat) (c : Int) : List Nat :=
  let b := d.body .nozzleMap l
  let off := c - d.cfg .nozzleMap l .COL_BASE - d.cross cs l
  (upTo (d.nozzles l)).filter (fun k =>
    let w := bodyWord b 16 k
    !nozSpare w && ((bits w 31 19 : Nat) : Int) == off)

/-- The columns of the non-spare nozzles of a lane, by nozzle. -/
def Dev.laneCols (d : Dev) (cs : List Rec) (l : Nat) : List Int :=
  let b := d.body .nozzleMap l
  let base := d.cfg .nozzleMap l .COL_BASE + d.cross cs l
  ((upTo (d.nozzles l)).filter (fun k => !nozSpare (bodyWord b 16 k))).map (fun k =>
    base + ((bits (bodyWord b 16 k) 31 19 : Nat) : Int))

/-- The columns of the stitch zone of lanes ℓ and ℓ + 1 of one station, ascending (R257). -/
def Dev.zone (d : Dev) (cs : List Rec) (l : Nat) : List Int :=
  if l % 32 = 31 ∨ !(d.lanesOf (l / 32)).contains l ∨ !(d.lanesOf (l / 32)).contains (l + 1) then []
  else
    let above := d.laneCols cs (l + 1)
    (isort (· ≤ ·) ((d.laneCols cs l).filter above.contains)).eraseDups

/-- Whether columns stand without gaps. -/
def contiguous : List Int → Bool
  | [] => true
  | [_] => true
  | a :: b :: r => b == a + 1 && contiguous (b :: r)

/-- A column of a lane's stitch zone is served by a third lane of the station too (R257). -/
def Dev.sharedZone (d : Dev) (cs : List Rec) (l : Nat) : Bool :=
  match d.zone cs l with
  | [] => false
  | z => (d.lanesOf (l / 32)).any (fun k => k != l && k != l + 1 && (d.laneCols cs k).any z.contains)

/-- A zone breaks R257: it has a gap, is wider than 128 columns, or is shared with a third lane. -/
def Dev.zoneBroken (d : Dev) (cs : List Rec) (l : Nat) : Bool :=
  !contiguous (d.zone cs l) || 128 < (d.zone cs l).length || d.sharedZone cs l

/-- The lowest column from `next` on that a sorted list of served columns leaves out (R247). -/
def lowestGap (cols : Nat) : List Int → Int → Option Int
  | [], next => if next < cols then some next else none
  | c :: cs, next =>
    if c < next then lowestGap cols cs next
    else if c = next then lowestGap cols cs (next + 1)
    else if next < cols then some next
    else none

/-- The nozzles of each run of equal columns that serve it too often: of exactly two in adjacent lanes none, otherwise
the last, which stands in the lane of higher index (R247). -/
def overServed : Nat → List (Int × Nat × Nat) → List (Nat × Nat)
  | 0, _ => []
  | _, [] => []
  | fuel + 1, (c, l, k) :: rest =>
    let same := rest.takeWhile (fun x => x.1 == c)
    let more := overServed fuel (rest.dropWhile (fun x => x.1 == c))
    match same with
    | [] => more
    | [(_, l2, k2)] => if l2 = l + 1 ∧ l / 32 = l2 / 32 then more else (l2, k2) :: more
    | xs => (xs.getLast?.map (fun x => (x.2.1, x.2.2))).getD (l, k) :: more

/-- Volume of a level in a waveform set, 0.1 pL (R264, R265). -/
def Dev.vol (d : Dev) (n set lv : Nat) : Nat :=
  if lv = 0 then 0 else bits (d.body .waveset n) (192 * set + 24 * (lv - 1) + 19) (192 * set + 24 * (lv - 1) + 8)
/-- Energy weight of a level (R264). -/
def Dev.weight (d : Dev) (n set lv : Nat) : Nat :=
  if lv = 0 then 0 else bits (d.body .waveset n) (192 * set + 24 * (lv - 1) + 7) (192 * set + 24 * (lv - 1))
/-- WF_ID of a level (R264). -/
def Dev.wfId (d : Dev) (n set lv : Nat) : Nat :=
  bits (d.body .waveset n) (192 * set + 24 * (lv - 1) + 23) (192 * set + 24 * (lv - 1) + 20)
/-- Whether a set is DEFINED (R264). -/
def Dev.setDefined (d : Dev) (n set : Nat) : Bool := set < 8 && bit (d.body .waveset n) (192 * set + 191)

/-- A spit pattern word (R276). -/
def Dev.spitWord (d : Dev) (n p : Nat) : Nat := bodyDWord (d.body .spitPattern n) 4 p
/-- Whether a spit pattern is marked in PAT_VALID. -/
def Dev.spitMarked (d : Dev) (n p : Nat) : Bool := p < 16 && bit (d.body .spitPattern n) p

/-- ON(L), in 1/16 pixel (R354, R355). -/
def Dev.pulseOn (d : Dev) (n lv : Nat) : Nat :=
  if lv = 0 then 0
  else
    let w := bodyDWord (d.body .pulsePattern n) 0 (lv - 1)
    bits w 28 24 + bits w 37 33 + bits w 46 42 + bits w 55 51
/-- POWER of a level (R354). -/
def Dev.pulsePower (d : Dev) (n lv : Nat) : Nat :=
  if lv = 0 then 0 else bits (bodyDWord (d.body .pulsePattern n) 0 (lv - 1)) 63 56
/-- X(L) (R355). -/
def Dev.pulseX (d : Dev) (n lv : Nat) : Nat := d.pulsePower n lv * d.pulseOn n lv

/-- The plane columns of a station (R164, R329). -/
def Dev.planeCols (d : Dev) (n : Nat) : Nat :=
  if d.isJet n then d.cfgN .stnJet n .PLANE_COLS else d.cfgN .stnScan n .SWEEP_PIXELS

/-- The nozzles of a jet station, spare ones too, that stand outside columns 0 to PLANE_COLS - 1, as (lane, nozzle)
(R247). -/
def Dev.misplaced (d : Dev) (cs : List Rec) (n : Nat) : List (Nat × Nat) :=
  (d.lanesOf n).flatMap (fun l =>
    let b := d.body .nozzleMap l
    let base := d.cfg .nozzleMap l .COL_BASE + d.cross cs l
    ((upTo (d.nozzles l)).filter (fun k =>
      let c := base + ((bits (bodyWord b 16 k) 31 19 : Nat) : Int)
      c < 0 || (d.planeCols n : Int) ≤ c)).map (fun k => (l, k)))

/-- PLANE_LINE_BYTES at a number of bits per pixel (R163, R164). -/
def Dev.lineBytes (d : Dev) (n bpp : Nat) : Nat := (d.planeCols n * bpp + 7) / 8
/-- LINE_STRIDE (R164). -/
def Dev.stride (d : Dev) (n bpp : Nat) : Nat := (d.lineBytes n bpp + 63) / 64 * 64
/-- Lines a band holds (R164). -/
def Dev.bandLines (d : Dev) (n bpp : Nat) : Nat := if d.stride n bpp = 0 then 0 else 65536 / d.stride n bpp

/-- The banks a station may use, ascending (R162, R167). -/
def Dev.banksOf (d : Dev) (n : Nat) : List Nat :=
  (upTo 32).filter (fun k => d.has .bank k && bit (d.cfgN .bank k .STN_MASK) n)

/-- FACETS of a scan station. -/
def Dev.facets (d : Dev) (n : Nat) : Nat := d.cfgN .stnScan n .FACETS_M1 + 1
/-- BEAMS of a scan station. -/
def Dev.beams (d : Dev) (n : Nat) : Nat := d.cfgN .stnScan n .BEAMS

/-- Whether any lane of a lane's quad has FORCE_LOW set (R366). -/
def Dev.quadForceLow (d : Dev) (l : Nat) : Bool :=
  (upTo 4).any (fun i => d.has .lane (l / 4 * 4 + i) && d.cfgB .lane (l / 4 * 4 + i) .FORCE_LOW)

/-- The duration of a lane block in 1/100 ns: 10.56 ns, or 21.12 ns at fallback (R360). -/
def blockCns (low : Bool) : Nat := if low then 2112 else 1056

/-- Blocks of the lane's longest FIRE or SWEEP frame on the wire: parameter and payload blocks with SOF and EOF (R222,
R282, R341, R368, R372). -/
def Dev.longestFrame (d : Dev) (l : Nat) : Nat :=
  if d.isJet (l / 32) then 5 + ceilDiv (3 * d.nozzles l) 64
  else 6 + ceilDiv (3 * min 16384 (d.cfgN .stnScan (l / 32) .SWEEP_PIXELS)) 64

/-- lead_eff of a lane as R222 computes it from the present rate and the latest HELLO, in 1/100 ns. -/
def Dev.leadCalc (d : Dev) (l : Nat) : Nat :=
  let x := d.lane.at l
  max (100 * d.cfgN .stnPlace (l / 32) .LEAD_NS) (14100 + (d.longestFrame l + 1) * blockCns x.low + 100 * x.tSetup)

/-- lead_eff of a lane is computed: at engagement and at each change of lane rate (R222). -/
def Dev.setLead (l : Nat) (d : Dev) : Dev := d.updLane l (fun x => { x with lead := d.leadCalc l })

/-- A lane's rate; a change of it has lead_eff computed again (R222, R365). -/
def Dev.setRate (l : Nat) (low : Bool) (d : Dev) : Dev :=
  if (d.lane.at l).low = low then d else (d.updLane l (fun x => { x with low := low })).setLead l

/-- lead_eff of a lane in effect, in 1/100 ns (R222). -/
def Dev.leadEff (d : Dev) (l : Nat) : Nat := (d.lane.at l).lead

/-- lead_eff of a lane in qns, no instant nearer than it. -/
def Dev.leadLane (d : Dev) (l : Nat) : Nat := ceilDiv (d.leadEff l) 25

/-- lead_eff of a station in qns, no instant nearer than it: the largest of its lanes (R222, R223, R253). -/
def Dev.leadQ (d : Dev) (n : Nat) : Nat :=
  ceilDiv ((d.lanesOf n).foldl (fun a l => max a (d.leadEff l)) (100 * d.cfgN .stnPlace n .LEAD_NS)) 25

end Sys2Proof.Machine
end

