-- ==== Sys2Proof/Machine/PlaneMem.lean ====
section
/-! DEFINITION. Plane memory (R161 to R174) and the channel engine (R182 to R196): where a line lives, bands, presence,
the split of a scatter list into descriptors, and write-back in order. -/

namespace Sys2Proof.Machine

/-- The key of a page's line at a station. -/
def lineKey (ord n line : Nat) : Nat := (ord * 8 + n) * 2 ^ 32 + line

/-- The descriptors of a line. -/
def Dev.line (d : Dev) (ord n line : Nat) : LineSt := d.plane.lines.at (lineKey ord n line)

/-- The descriptors of a line changed. -/
def Dev.updLine (ord n line : Nat) (f : LineSt → LineSt) (d : Dev) : Dev :=
  { d with plane := { d.plane with lines := d.plane.lines.upd (lineKey ord n line) f } }

/-- A span describes a line of a station (R136). -/
def Span.covers (s : Span) (n y : Nat) : Bool := s.stn == n && s.first ≤ y && y < s.first + s.count

/-- A line of a page is present (R194): in a blank span, or with every descriptor written back done. A test page makes
its own data (R138). -/
def Dev.linePresent (d : Dev) (p : Page) (n y : Nat) : Bool :=
  let ls := d.line p.order n y
  p.test || p.spans.any (fun s => s.blank && s.covers n y)
    || (ls.whole && ls.made == ls.done
      && !d.plane.never.any (fun r => r.1 == p.order && r.2.1 == n && r.2.2.1 ≤ y && y ≤ r.2.2.2))

/-- A page for which nothing more is written: MARKED, terminal or aborted (R170, R195). -/
def Dev.pageDead (d : Dev) (ord : Nat) : Bool :=
  match d.page? ord with
  | some p => p.state == .marked || p.state.terminal || p.abortAt.isSome
  | none => true

/-- The presence test of a line has run (R194). -/
def PgStn.tested (s : PgStn) (y : Nat) : Bool := y < s.top || s.ahead.contains y

/-- The run of tested lines from line 0 takes up those beyond it. -/
def PgStn.advance : Nat → PgStn → PgStn
  | 0, s => s
  | fuel + 1, s =>
    if s.ahead.contains s.top then
      PgStn.advance fuel { s with top := s.top + 1, ahead := s.ahead.filter (· != s.top) }
    else s

/-- The presence test of a line has run now. -/
def PgStn.setTested (s : PgStn) (y : Nat) : PgStn :=
  PgStn.advance (s.ahead.length + 1) { s with ahead := y :: s.ahead }

/-- A descriptor's bytes come too late: its line has been tested or its page is done (R195). -/
def Dev.late (d : Dev) (ord n y : Nat) : Bool :=
  d.pageDead ord || (match d.page? ord with | some p => (p.stn.at n).tested y | none => true)

/-- The band of a page's group of lines at a station, if one is allocated. -/
def Dev.bandOf (d : Dev) (ord n group : Nat) : Option Nat :=
  (d.plane.bands.find? (fun b => b.2.ord == ord && b.2.stn == n && b.2.group == group && !b.2.withdrawn)).map (·.1)

/-- The bands of a bank that are allocated. -/
def Dev.bankUsed (d : Dev) (k : Nat) : Nat := (d.plane.bands.filter (fun b => b.1 / 256 == k)).length

/-- The free band of lowest index in a bank, below the system reserve (R167, R169). -/
def Dev.freeOf (d : Dev) (k : Nat) : Option Nat :=
  (upTo (256 - d.cfgN .bank k .SYS_BANDS)).find? (fun b => (d.plane.bands.get? (k * 256 + b)).isNone)

/-- A descriptor in flight writes into a band (R170). -/
def Dev.bandBusy (d : Dev) (key : Nat) : Bool :=
  d.plane.ch.any (fun c => c.2.store.any (fun x => x.status == 0 && x.issued != 0 && x.dst / 65536 == key))

/-- The flaws of the words of `len` bytes at `a` are gone (R163, log entry 75). -/
def unflaw (a len : Nat) (xs : List EccFlaw) : List EccFlaw :=
  xs.filter (fun x => !(x.word.toNat * 8 < a + len && a < x.word.toNat * 8 + 8))

/-- A band is allocated (R167, R171). Bytes that are not written back count as level 0, so what an earlier owner left in it
is gone (R305). -/
def Dev.takeBand (k b : Nat) (o : BandOwner) (d : Dev) : Dev :=
  let a := (k * 256 + b) * 65536
  ({ d with plane := { d.plane with
      bands := d.plane.bands.set (k * 256 + b) o, mem := Mem.erase d.plane.mem a 65536
      flaws := unflaw a 65536 d.plane.flaws } }).bump (uid cBANK k) .ALLOCS 1

/-- A band returns to its bank's free list (R170, R199). -/
def Dev.freeBand (key : Nat) (d : Dev) : Dev :=
  ({ d with plane := { d.plane with bands := d.plane.bands.del key } }).bump (uid cBANK (key / 256)) .RETURNS 1

/-- The bands of a page return, except those a descriptor in flight still writes (R170). -/
def Dev.freeBands (ord : Nat) (d : Dev) : Dev :=
  (d.plane.bands.filter (fun b => b.2.ord == ord && !b.2.withdrawn)).foldl
    (fun d b => if d.bandBusy b.1 then d else d.freeBand b.1) d

/-- The job that generates descriptors: tickets are served in fetch order (R182). -/
def Chan.active (c : Chan) : Option PlaneJob := c.jobs.find? (fun j => !j.complete)

/-- Traffic at a bank: the slots that its arbiter wastes and the bursts that it restarts meanwhile are counted (R177, R179,
R199). Their numbers depend on the cycles in which the requesters raise and withdraw their requests, which no command
brings: free values (log entry 11). -/
def Dev.bankTraffic (k : Nat) (d : Dev) : Dev :=
  (((d.bump (uid cBANK k) .WASTED_SLOTS d.freeVal).freeNext).bump (uid cBANK k) .RESTARTS d.freeNext.freeVal).freeNext

/-- A job of a channel changed. -/
def Dev.updJob (c slot : Nat) (f : PlaneJob → PlaneJob) (d : Dev) : Dev :=
  d.updChan c (fun x => { x with jobs := x.jobs.map (fun j => if j.slot == slot then f j else j) })

/-- The channel enters HOLD (R171, R191, R199). -/
def Dev.chanHold (c : Nat) (d : Dev) : Dev :=
  d.updChan c (fun x => { x with holdAt := some (x.holdAt.getD d.clk.now) })

/-- The channel's unit state: HOLD while it waits for a band or tokens, RUN while it transfers, IDLE otherwise (R199). -/
def Dev.chanState (c : Nat) (d : Dev) : Dev :=
  let x := d.plane.ch.at c
  let u := uid cDMA c
  if x.waitBand.isSome ∨ (x.dry ∧ !x.jobs.isEmpty) then (d.chanHold c).rest u .hold
  else
    let d := match x.holdAt with
      | some a => (d.bump u .HOLD_NS ((d.clk.now - a) / 4)).updChan c (fun x => { x with holdAt := none })
      | none => d
    d.rest u (if x.jobs.isEmpty then .idle else .run)

/-- An allocation waits for its bank, and the channel is in HOLD with 0x0D04 (R167, R171). -/
def Dev.chanWait (c k group n : Nat) (d : Dev) : Dev :=
  let d := { d with plane := { d.plane with waiting := d.plane.waiting ++ [(d.clk.now, n, k, c)] } }
  ((d.updChan c (fun x => { x with waitBand := some (k, group) })).chanHold c).report (uid cDMA c) 0x0D04 (some .hold)

/-- A channel waits for the band of a group of lines of a page at a station. -/
def Chan.awaits (x : Chan) (ord n group : Nat) : Bool :=
  match x.waitBand, x.active with
  | some (_, g), some j => j.ord == ord && j.stn == n && g == group
  | _, _ => false

/-- The bank for which an allocation of a band for a group of lines waits already (R171). -/
def Dev.asked (d : Dev) (ord n group : Nat) : Option Nat :=
  (d.plane.ch.find? (fun c => c.2.awaits ord n group)).bind (fun c => c.2.waitBand.map (·.1))

/-- A band is requested for a group of lines of a job: from the next bank in turn, or with a wait for that bank behind
those that wait (R167, R171). A group whose band another channel awaits is not requested again. The station's turn passes
to the following bank at the request; the spec does not say whether a wait that ends without a band, with its page, gives
the turn back, and the model does not (log entry 72). -/
def Dev.askBand (c : Nat) (j : PlaneJob) (group : Nat) (d : Dev) : Dev :=
  match d.asked j.ord j.stn group with
  | some k => ((d.updChan c (fun x => { x with waitBand := some (k, group) })).chanHold c).report (uid cDMA c) 0x0D04 (some .hold)
  | none =>
  let banks := d.banksOf j.stn
  let turn := d.plane.turn.at j.stn
  let k := banks.getD (turn % max 1 banks.length) 0
  let d := { d with plane := { d.plane with turn := d.plane.turn.set j.stn (turn + 1) } }
  match d.freeOf k with
  | some b =>
    if d.plane.waiting.any (fun w => w.2.2.1 == k) then d.chanWait c k group j.stn
    else d.takeBand k b { stn := j.stn, job := j.job, page := j.page, ord := j.ord, group := group }
  | none => d.chanWait c k group j.stn

/-- BPP of a job's page. -/
def Dev.jobBpp (d : Dev) (j : PlaneJob) : Nat := match d.page? j.ord with | some p => p.bpp | none => 1

/-- The head entry of a piece less `n` bytes split from it. -/
def eatSg (n : Nat) : List SgEntry → List SgEntry
  | [] => []
  | e :: es =>
    if e.len.toNat ≤ n then es
    else { e with addr := e.addr + BitVec.ofNat 64 n, len := e.len - BitVec.ofNat 32 n } :: es

/-- The job has split `n` bytes of its list; at the end of the list it is complete (R137, R183). -/
def Dev.eatJob (c : Nat) (j : PlaneJob) (n : Nat) (d : Dev) : Dev :=
  (d.updChan c (fun x => { x with sg := eatSg n x.sg })).updJob c j.slot (fun q =>
    { q with offset := q.offset + n, complete := q.lineBytes * q.lineCount ≤ q.offset + n && q.fetched == q.sgCount })

/-- One run of bytes of the head scatter entry becomes a descriptor, or host padding that is not copied, or a wait for a
band (R136, R164, R171, R183, R195). -/
def Dev.splitOne (c : Nat) (j : PlaneJob) (e : SgEntry) (d : Dev) : Dev :=
  let x := d.plane.ch.at c
  let bpp := d.jobBpp j
  let plb := d.lineBytes j.stn bpp
  let lpb := d.bandLines j.stn bpp
  let y := j.firstLine + j.offset / j.lineBytes
  let pos := j.offset % j.lineBytes
  if plb ≤ pos then d.eatJob c j (min e.len.toNat (j.lineBytes - pos))
  else
    let n := min e.len.toNat (plb - pos)
    let late := d.late j.ord j.stn y
    let band := d.bandOf j.ord j.stn (y / max 1 lpb)
    if !late ∧ band.isNone then d.askBand c j (y / max 1 lpb)
    else
      let last := pos + n == plb
      let desc : Desc :=
        { id := x.nextId, src := e.addr.toNat, len := n, line := y, sg := j.fetched - x.sg.length, page := j.page
          dst := match band with | some b => b * 65536 + y % max 1 lpb * d.stride j.stn bpp + pos | none => 0
          slot := j.slot, lastOfLine := last, lastOfTicket := last && y + 1 == j.firstLine + j.lineCount
          wport := d.cfgN .dma c .WPORT, stn := j.stn, job := j.job, ord := j.ord
          status := if late then 3 else 0, reason := if late then 0x0D0C else 0 }
      let d := d.updChan c (fun x => { x with store := x.store ++ [desc], nextId := x.nextId + 1 })
      let d := d.updLine j.ord j.stn y (fun l => { l with made := l.made + 1, whole := l.whole || last })
      d.eatJob c j n

/-- The next piece of the scatter list is fetched (R183). -/
def Dev.fetchPiece (c : Nat) (j : PlaneJob) (d : Dev) : Dev :=
  let n := min 256 (j.sgCount - j.fetched)
  (d.updJob c j.slot (fun q => { q with asked := j.fetched + n })).readHost (j.sgAddr + 16 * j.fetched) (16 * n)

/-- A reason of R180 or R192 that makes a descriptor BAD. -/
def isBusError (code : Nat) : Bool := 0x0D05 ≤ code && code ≤ 0x0D0A

/-- The descriptor can be written back: skipped, or with no read outstanding and nothing left to read (R185, R192). -/
def Dev.descOver (d : Dev) (c : Chan) (x : Desc) : Bool :=
  x.status != 0 ||
    (c.reads.all (fun r => r.2.1 != x.id) && (x.issued == x.len || x.reason != 0 || d.late x.ord x.stn x.line))

/-- Bytes of answered pieces go to plane memory; a narrow beat writes only its own bytes (R187, R188). -/
def writePieces (dst : Nat) : Tbl (List Byte) → Mem → Mem
  | [], m => m
  | (o, bs) :: ps, m => writePieces dst ps (Mem.writeBytes 0 m (dst + o) bs)

/-- Words written again carry no flaw of before (R163, log entry 75). -/
def rewritten (dst : Nat) (ps : Tbl (List Byte)) (xs : List EccFlaw) : List EccFlaw :=
  ps.foldl (fun xs p => unflaw (dst + p.1) p.2.length xs) xs

/-- The reason and flags a descriptor leaves on its ticket and page (R196). -/
def Dev.descFlag (c : Nat) (x : Desc) (bad : Bool) (code : Nat) (d : Dev) : Dev :=
  (d.updJob c x.slot (fun j =>
    { j with
      bad := j.bad || bad, skipped := j.skipped || !bad, reason := if j.reason = 0 then code else j.reason })).updPage x.ord
    (fun p => p.mark (if bad then fBAD_DESC else fLOST_INPUT) code)

/-- The oldest descriptor of a channel is written back (R185, R186, R192, R195, R196), and a band that only it held
returns (R170). -/
def Dev.writeBack (c : Nat) (x : Desc) (rest : List Desc) (d : Dev) : Dev :=
  let u := uid cDMA c
  let st := if x.status = 3 then 3 else if isBusError x.reason then 2
    else if x.reason ≠ 0 ∨ d.late x.ord x.stn x.line then 3 else 1
  let code := if st = 3 then 0x0D0C else x.reason
  let d := d.updChan c (fun q => { q with
    store := rest, done := ({ x with status := st, reason := code, pieces := [] } :: q.done).take 16 })
  let d :=
    if st = 1 then
      let d := { d with plane := { d.plane with
        mem := writePieces x.dst x.pieces d.plane.mem, flaws := rewritten x.dst x.pieces d.plane.flaws } }.bankTraffic
        (x.dst / 16777216)
      let d := (d.bump u .DESC_DONE 1).bump u .BYTES x.len
      (d.updLine x.ord x.stn x.line (fun l => { l with done := l.done + 1 })).updJob c x.slot (fun j =>
        { j with bytes := j.bytes + x.len })
    else if st = 2 then ((d.bump u .DESC_BAD 1).report u code).descFlag c x true code
    else ((d.bump u .DESC_SKIPPED 1).report u code).descFlag c x false code
  let key := x.dst / 65536
  match d.plane.bands.get? key with
  | some o => if o.ord = x.ord ∧ d.pageDead o.ord ∧ !o.withdrawn ∧ !d.bandBusy key then d.freeBand key else d
  | none => d

/-- A PLANE ticket whose last descriptor is written back posts its final completion: OUTCOME 3 for an inconsistent list
(R131, R137, R196). -/
def Dev.finishPlane (c : Nat) (j : PlaneJob) (d : Dev) : Dev :=
  (d.updChan c (fun x => { x with jobs := x.jobs.filter (fun q => q.slot != j.slot) })).post j.slot true
    (if j.reason = 0x0E0F then 3 else 0) j.reason (flagIf j.skipped (flagIf j.bad 0 fBAD_DESC) fLOST_INPUT) 0xF j.page
    j.bytes 0

/-- The next thing a channel does by itself: write back, complete a ticket, split an entry, fetch a piece. -/
def Dev.chanStep (c : Nat) (d : Dev) : Option Dev :=
  let x := d.plane.ch.at c
  match x.store with
  | y :: ys =>
    if d.descOver x y then some (d.writeBack c y ys) else generate x
  | [] => generate x
where
  /-- Without a descriptor to write back. -/
  generate (x : Chan) : Option Dev :=
    match x.jobs with
    | [] => none
    | j :: _ =>
      if j.complete ∧ x.store.all (fun y => y.slot != j.slot) then some (d.finishPlane c j)
      else if x.waitBand.isSome then none
      else
        match x.active, x.sg with
        | some j, e :: _ => if x.store.length < 512 then some (d.splitOne c j e) else none
        | some j, [] => if j.asked = j.fetched then some (d.fetchPiece c j) else none
        | none, _ => none

/-- A channel goes on until it must wait. -/
def Dev.chanLoop (c : Nat) : Nat → Dev → Dev
  | 0, d => d
  | fuel + 1, d => match d.chanStep c with | some d' => Dev.chanLoop c fuel d' | none => d

/-- A channel goes on until it must wait; every step but a bounded number takes a byte of the list or a descriptor. -/
def Dev.chanRun (c : Nat) (d : Dev) : Dev :=
  let x := d.plane.ch.at c
  let work := 2 * x.sg.foldl (fun a e => a + e.len.toNat) 0 + x.store.length + 4 * x.jobs.length + 16
  (d.chanLoop c work).chanState c

/-- Every channel in use goes on. -/
def Dev.chanRunAll (d : Dev) : Dev :=
  ((upTo 32).filter (fun c => !(d.plane.ch.at c).jobs.isEmpty)).foldl (fun d c => d.chanRun c) d

/-- The descriptors of a page not issued are skipped, and no allocation waits for it (R195). -/
def Dev.skipPage (ord : Nat) (d : Dev) : Dev :=
  let waits (c : Chan) : Bool := c.waitBand.isSome && (match c.active with | some j => j.ord == ord | none => false)
  let gone := (d.plane.ch.filter (fun c => waits c.2)).map (·.1)
  { d with plane := { d.plane with
      waiting := d.plane.waiting.filter (fun w => !gone.contains w.2.2.2)
      ch := d.plane.ch.map (fun c => (c.1, { c.2 with
        waitBand := if waits c.2 then none else c.2.waitBand
        store := c.2.store.map (fun x =>
          if x.ord == ord && x.status == 0 && x.issued == 0 then { x with status := 3, reason := 0x0D0C } else x) })) } }

/-- A page needs its plane no longer (R170, R195): MARKED, MISSED, REFUSED or aborted. -/
def Dev.planeEnd (p : Page) (d : Dev) : Dev :=
  let d := ((d.skipPage p.order).freeBands p.order).chanRunAll
  { d with plane := { d.plane with
      lines := d.plane.lines.filter (fun l => l.1 / 2 ^ 32 / 8 != p.order)
      never := d.plane.never.filter (fun r => r.1 != p.order) } }

/-- The plane address of a line whose band is allocated (R164). -/
def Dev.lineAddr (d : Dev) (p : Page) (n y : Nat) : Option Nat :=
  let lpb := max 1 (d.bandLines n p.bpp)
  (d.bandOf p.order n (y / lpb)).map (fun b => b * 65536 + y % lpb * d.stride n p.bpp)

/-- A line is counted once as lost-input on its page, with a code (R163, R180, R195). -/
def Dev.loseLine (p : Page) (n y code : Nat) (d : Dev) : Dev :=
  if ((d.page? p.order).getD p |>.stn.at n).lost.contains y then d
  else
    (d.updPg p.order n (fun s => { s with
      lost := y :: s.lost, led := { s.led with nLostLines := s.led.nLostLines + 1 } })).updPage p.order
      (fun q => q.mark fLOST_INPUT code)

/-- A flawed word lies in a line of `len` bytes at `a`. -/
def eccWithin (a len : Nat) (x : EccFlaw) : Bool := x.word.toNat * 8 < a + len && a < x.word.toNat * 8 + 8

/-- A word read from a bank shows an error: a single one is corrected, a double one is not (R163, R199). -/
def Dev.eccReport (k : Nat) (x : EccFlaw) (d : Dev) : Dev :=
  if x.double then (d.bump (uid cBANK k) .ECC_UNCORRECTABLE 1).report (uid cBANK k) 0x0D0F
  else (d.bump (uid cBANK k) .ECC_CORRECTED 1).report (uid cBANK k) 0x0D0E

/-- Words that a command names as flawed stay so until they are written again; of two namings of a word the later holds
(R163, log entry 75). -/
def Dev.noteFlaws (xs : List EccFlaw) (d : Dev) : Dev :=
  { d with plane := { d.plane with
      flaws := xs.foldl (fun fs x => x :: fs.filter (fun f => f.word != x.word)) d.plane.flaws } }

/-- A line lies in a blank span, which has no place in plane memory (R166). -/
def Page.blankLine (p : Page) (n y : Nat) : Bool := p.spans.any (fun s => s.blank && s.covers n y)

/-- A line builder or compensation reader reads a line from its bank (R163, R194): a double-bit error blanks the line as
lost-input with 0x0D0F. A blank line is read nowhere (R166). -/
def Dev.readLine (p : Page) (n y : Nat) (d : Dev) : Dev :=
  match if p.blankLine n y then none else d.lineAddr p n y with
  | none => d
  | some a =>
    let k := a / 16777216
    let found := d.plane.flaws.filter (eccWithin a (d.lineBytes n p.bpp))
    let d := found.foldl (fun d x => d.eccReport k x) (d.bankTraffic k)
    if found.any (·.double) then d.loseLine p n y 0x0D0F else d

/-- The presence test of the line builder for a line of a page at a station (R194, R195, R253): each line is tested once;
a line that is not present is lost, one that is present is read. -/
def Dev.testLine (p : Page) (n y : Nat) (d : Dev) : Dev :=
  if (p.stn.at n).tested y then d
  else
    let here := d.linePresent p n y
    let d := d.updPg p.order n (fun s => s.setTested y)
    if here then d.readLine p n y
    else
      let d := (d.report (uid cSTN n) 0x0D0B).loseLine p n y 0x0D0B
      match p.spans.find? (fun s => s.covers n y) with
      | some s => if s.blank then d else d.bump (uid cDMA s.ch) .LOST_LINES 1
      | none => d

/-- The plane bytes of a line, those not written back as 0 (R250, R305). -/
def Dev.lineData (d : Dev) (p : Page) (n y : Nat) : List Byte :=
  let len := d.lineBytes n p.bpp
  match d.lineAddr p n y with
  | some a => Mem.bytes 0 d.plane.mem a len
  | none => List.replicate len 0

/-- Pixel `c` of plane bytes at `bpp` bits per pixel (R250). -/
def pixelOf (bs : List Byte) (bpp c : Nat) : Nat :=
  (upTo bpp).foldl (fun a i =>
    let b := c * bpp + i
    if bit (bs.getD (b / 8) 0).toNat (b % 8) then a + 2 ^ i else a) 0

/-- The free-list audit at a brim (R172 to R174): in every usable bank, allocations less returns equal allocated bands,
and every allocated band has a live owner; a band without one stays withdrawn. -/
def Dev.bandAudit (n : Nat) (d : Dev) : Dev :=
  ((upTo 32).filter (d.has .bank)).foldl
    (fun d k =>
      let u := uid cBANK k
      let fail (d : Dev) : Dev :=
        { d.report u 0x0D0D none (2 ^ 31 + k * 16777216) with
          plane := { d.plane with conserve := n :: d.plane.conserve } }
      let allocated := d.plane.bands.filter (fun b => b.1 / 256 == k)
      let outside := allocated.any (fun b => 256 - d.cfgN .bank k .SYS_BANDS ≤ b.1 % 256)
      let orphans := allocated.filter (fun b =>
        !b.2.withdrawn && (match d.page? b.2.ord with | some p => p.state.terminal | none => true) && !d.bandBusy b.1)
      let d := if outside ∨ (d.ctrAt u .ALLOCS - d.ctrAt u .RETURNS).toNat ≠ allocated.length then fail d else d
      orphans.foldl (fun d b =>
        { fail d with plane := { (fail d).plane with bands := d.plane.bands.set b.1 { b.2 with withdrawn := true } } }) d)
    d

end Sys2Proof.Machine
end

