-- ==== Sys2Proof/Machine/Pages.lean ====
section
/-! DEFINITION. The life of a page (R142 to R155), the return of its bands (R170), the safe states of field outputs
(R433, R477, R517, R551), and the start of tickets (R122, R130, R131). -/

namespace Sys2Proof.Machine

/-- The oldest ticket that has not started, if it has the type a command starts and WAIT_PRIOR lets it (R122, R130); a kept
final completion counts as posted (log entry 108). -/
def Dev.startable (d : Dev) (typ : Nat) : Option Tkt :=
  match d.host.tickets.find? (fun k => !k.started) with
  | none => none
  | some k =>
    if tType k.entry = typ ∧ (!tWait k.entry || (d.host.tickets.headD k).slot == k.slot) then some k else none

/-- A ticket starts. -/
def Dev.start (k : Tkt) (d : Dev) : Dev :=
  { d with host := { d.host with
      tickets := d.host.tickets.map (fun x => if x.slot == k.slot then { x with started := true } else x) } }

/-- A page that the device refuses before it has one of its job and PAGE_ID is lined as REFUSED, so that the standby sends
nothing of it (R157, R648). -/
def Dev.lineRefused (k : Tkt) (d : Dev) : Dev :=
  if (d.pageJ (tJob k.entry) (tf k.entry 159 128)).isSome then d
  else d.delta (.page (BitVec.ofNat 32 (tJob k.entry)) (BitVec.ofNat 32 (tf k.entry 159 128))
    (BitVec.ofNat 4 PState.refused.code) false)

/-- A ticket is refused (R131, R132); a page ticket shows PAGE_STATE REFUSED. -/
def Dev.refuse (k : Tkt) (code : Nat) (d : Dev) : Dev :=
  if tType k.entry = 0x02 ∨ tType k.entry = 0x05 then
    (d.lineRefused k).post k.slot true 1 code 0 5 (tf k.entry 159 128) 0 0
  else if tType k.entry = 0x03 then d.post k.slot true 1 code 0 0xF (tf k.entry 159 128) 0 0
  else d.finish k.slot 1 code

/-- The state in which a ticket type is accepted (R131). -/
def Dev.accepts (d : Dev) (typ : Nat) : Bool :=
  if typ = 0x09 ∨ typ = 0x0C then d.pins.ready
  else if typ = 0x0B then d.pins.ready || d.boot.stage == .recovery
  else if typ = 0x0A then d.eng.st == .engaged && d.isTwin
  else d.eng.st == .engaged

/-- A ticket of a type starts (R122, R130): acceptance (R131), then its own effect. Its format was checked at its fetch. -/
def Dev.ticket (typ : Nat) (d : Dev) (run : Tkt → Dev → Dev) : Dev :=
  match d.startable typ with
  | none => d
  | some k =>
    let d := d.start k
    if !d.accepts typ then d.refuse k 0x0E03
    else run k d

/-- Lines fired and lines blanked of a page, summed over its stations (R141). -/
def Page.counts (p : Page) : Nat × Nat :=
  p.stn.foldl (fun a s => (a.1 + s.2.fired, a.2 + s.2.blanked)) (0, 0)

/-- The final completion of a page (R131, R141): OUTCOME 0 for SETTLED, 1 for REFUSED, 3 for MISSED (log entry 14). -/
def Dev.finishPage (p : Page) (d : Dev) : Dev :=
  let c := p.counts
  d.post p.slot true (match p.state with | .refused => 1 | .missed => 3 | _ => 0) p.reason p.flags p.state.code p.id
    (put 32 (c.1 % 2 ^ 32) + c.2 % 2 ^ 32) p.leStamp

/-- A progress completion of a page (R130, R141), with what it has counted so far. -/
def Dev.pageProgress (p : Page) (d : Dev) : Dev :=
  let c := p.counts
  d.post p.slot false 4 p.reason p.flags p.state.code p.id (put 32 (c.1 % 2 ^ 32) + c.2 % 2 ^ 32) p.leStamp

/-- A page posts a progress completion when its NOTIFY bit asks for it (R130). -/
def Dev.notify (p : Page) (b : Nat) (d : Dev) : Dev :=
  match d.tkt p.slot with
  | some k => if bit (tNotify k.entry) b then d.pageProgress p else d
  | none => d

/-- A CLOSE_JOB ends when every page of its job is terminal (R131). -/
def Dev.closeJobs (d : Dev) : Dev :=
  d.jobs.closing.foldl
    (fun d c =>
      if d.jobs.pages.any (fun p => p.job == c.1 && !p.state.terminal) then d
      else ({ d with jobs := { d.jobs with closing := d.jobs.closing.filter (· != c) } }).finish c.2 0 0) d

/-- What the stations of a page still hold for it, fire events in build, raises and stitch swaps, goes with it (R148,
R306). -/
def Dev.dropWork (p : Page) (d : Dev) : Dev :=
  (stnsOf p.mask).foldl (fun d n => d.updStn n (fun s =>
    { s with
      builds := s.builds.filter (fun b => b.ord != p.order), pending := s.pending.filter (fun q => q.ord != p.order)
      swaps := s.swaps.filter (fun q => q.ord != p.order) })) d

/-- A page ends before marking, in REFUSED or MISSED, with a reason (R142, R147, R148, R151): it fires nothing, frees
its bands and, when MISSED, is counted at each station. -/
def Dev.endPage (st : PState) (code : Nat) (p : Page) (d : Dev) : Dev :=
  let p := { p with state := st, reason := code }
  let d := ((d.setPage p).planeEnd p).dropWork p
  let d := if st = .missed then (stnsOf p.mask).foldl (fun d n => d.bump (uid cSTN n) .MISSED_PAGES 1) d else d
  (d.finishPage p).closeJobs

/-- QUEUED pages end in REFUSED and ARMED pages in MISSED with the reason of a stop (R151, R570). -/
def Dev.endWaiting (code : Nat) (d : Dev) : Dev :=
  d.jobs.pages.foldl
    (fun d p =>
      match p.state with
      | .queued => d.endPage .refused code p
      | .armed => d.endPage .missed code p
      | .marking | .marked | .settled | .refused | .missed => d) d

/-- A page in MARKING is aborted (R154, R155): from the abort instant on its lines are blanked; the first abort stands. -/
def Dev.abort (p : Page) (d : Dev) : Dev :=
  if p.abortAt.isSome then d
  else
    let q : Page := { (p.mark fABORTED 0x0E15) with abortAt := some d.qns, reason := 0x0E15 }
    (d.updPage p.order (fun _ => q)).delta q.entry

/-- Every page in MARKING is aborted (R153), each reported with 0x0E15 on NODE. -/
def Dev.abortAll (d : Dev) : Dev :=
  (d.jobs.pages.filter (fun p => p.state == .marking && p.abortAt.isNone)).foldl
    (fun d p => (d.abort p).report uNODE 0x0E15) d

/-- The first active station of a page: the smallest STN_OFFSET, then the lower index (log entry 15). -/
def Dev.firstStn (d : Dev) (p : Page) : Nat :=
  (stnsOf p.mask).foldl
    (fun a n => if d.cfg .stnPlace n .STN_OFFSET < d.cfg .stnPlace a .STN_OFFSET then n else a)
    ((stnsOf p.mask).headD 0)

/-- The 2.5 ns CTL cycle that contains the present (R442). -/
def Dev.ctlCycle (d : Dev) : Nat := d.clk.now / 10

/-- An axis takes its safe state (R433); an alignment in progress ends. -/
def Dev.axisSafe (a : Nat) (d : Dev) : Dev :=
  d.updAxis a (fun x =>
    { x with
      on := false, safe := true, ramp := false, du := 0, dv := 0, dw := 0, dutyAt := 0, wR := 0, alignAt := none
      safeAt := some d.ctlCycle })

/-- A stepper takes its safe state (R477). -/
def Dev.stepSafe (a : Nat) (d : Dev) : Dev :=
  d.updStep a (fun x => { x with on := false, safe := true, da := 0, db := 0, dutyAt := 0, offAt := 0 })

/-- A loop is in band no longer (R512). -/
def Dev.bandEnds (i : Nat) (d : Dev) : Dev :=
  if !(d.loop.at i).inBand then d
  else
    ((d.updLoop i (fun x => { x with inBand := false, bandRun := 0 })).bump (uid cLOOP i) .BAND_LEAVES 1).report (uid cLOOP i)
      0x0B09

/-- A loop's output goes to SAFE_OUT (R517). -/
def Dev.loopSafe (i : Nat) (d : Dev) : Dev := d.updLoop i (fun x => { x with out := d.cfg .loop i .SAFE_OUT })

/-- An actuator goes to SAFE_DUTY (R517). -/
def Dev.actSafe (i : Nat) (d : Dev) : Dev :=
  { d with act := d.act.set i { duty := d.cfgN .act i .SAFE_DUTY } }

/-- A lamp turns off (R517). -/
def Dev.lampOff (i : Nat) (d : Dev) : Dev :=
  { d with lamp := d.lamp.upd i (fun x => { x with duty := 0, on := 0 }) }

/-- A clock output parks (R551). -/
def Dev.park (i : Nat) (d : Dev) : Dev :=
  ({ d with clko := d.clko.set i { run := false, level := d.cfgB .clko i .PARK } }).setSt (uid cCLKO i) .idle

/-- Loops at SAFE_OUT, and out of band as they leave RUN (R512); actuators at SAFE_DUTY, lamps off (R517). -/
def Dev.processSafe (d : Dev) : Dev :=
  let d := ((upTo 64).filter (d.has .loop)).foldl (fun d i => (d.bandEnds i).loopSafe i) d
  let d := ((upTo 32).filter (d.has .act)).foldl (fun d i => d.actSafe i) d
  ((upTo 16).filter (d.has .lamp)).foldl (fun d i => d.lampOff i) d

/-- Every field output takes its safe state (R574, R582, R643). -/
def Dev.outputsSafe (d : Dev) : Dev :=
  let d := ((upTo 24).filter (d.has .axis)).foldl (fun d i => d.axisSafe i) d
  let d := ((upTo 16).filter (d.has .step)).foldl (fun d i => d.stepSafe i) d
  d.processSafe

/-- The ENGAGE_STATUS of a request refused without a gauntlet (R103). -/
def Dev.refuseEngage (code : Nat) (d : Dev) : Dev :=
  ({ d with eng := { d.eng with
      st := .refused, firstReason := BitVec.ofNat 16 code, firstUnit := BitVec.ofNat 32 (d.addr uNODE), count := 0,
      trunc := false } }).report uNODE code

/-- A pending or running gauntlet is abandoned with 0x1119, every unit as before the request (R99). -/
def Dev.abandon (d : Dev) : Dev :=
  match d.eng.st with
  | .waitTime | .gauntlet =>
    ({ d with eng := { d.eng with
        st := d.eng.before.1, firstUnit := d.eng.before.2.1, firstReason := d.eng.before.2.2 } }).report uNODE 0x1119
  | _ => d

/-- A MARKED page is done at a station and its audit there has not run (R142, R309). -/
def Page.auditDue (p : Page) (n : Nat) : Bool :=
  bit p.mask n && p.state == .marked && (p.stn.at n).marked && !(p.stn.at n).audited

/-- A page becomes SETTLED at the end of its last brim audit (R142, R150), with its completion. -/
def Dev.settle (p : Page) (d : Dev) : Dev :=
  let p := { p with state := .settled }
  ((d.setPage p).finishPage p).closeJobs

/-- A page becomes MARKED when its last line is done at its last station (R142, R150): its bands return, and NOTIFY
bit 22 posts a progress completion (R130). -/
def Dev.markedPage (p : Page) (d : Dev) : Dev :=
  let p := { p with state := .marked }
  ((d.setPage p).planeEnd p).notify p 2

/-- A station's part of a page is done; with the last one the page is MARKED (R150). The station is ARMED again. -/
def Dev.stnDone (ord n : Nat) (d : Dev) : Dev :=
  let d := d.updPg ord n (fun s => { s with marked := true, endAt := d.qns })
  let d := if d.ust (uid cSTN n) = .run then d.setSt (uid cSTN n) .armed else d
  let d := { d with temp := { d.temp with switchAt := d.clk.now } }
  match d.page? ord with
  | none => d
  | some p =>
    if p.state = .marking ∧ (stnsOf p.mask).all (fun m => (p.stn.at m).marked) then d.markedPage p else d

/-- The device disengages or stops: ENG_STATE DISENGAGING with the reason of the stop, waiting pages end (R104, R151,
R570). -/
def Dev.beginStop (code : Nat) (d : Dev) : Dev :=
  let d := { d with eng := { d.eng with
      st := .disengaging, stopReason := BitVec.ofNat 16 code, rundownAt := none } }
  (d.delta d.engEntry).endWaiting code

/-- DISENGAGE (R99, R151, R154, R572): it abandons a gauntlet, stops an engaged device, and joins a stop in progress. -/
def Dev.disengage (d : Dev) : Dev :=
  let d := { d with eng := { d.eng with latch := false } }
  match d.eng.st with
  | .waitTime | .gauntlet => d.abandon
  | .engaged => d.beginStop 0x0E14
  | _ => d

/-- Calibration values whose store write failed end with the disengagement: those of the generation in effect return
(R419). -/
def Dev.calRevert (d : Dev) : Dev :=
  if d.cal.applied = 0 ∨ d.cal.job.isSome ∨ d.cal.step ≠ 0 ∨ d.cal.waitMask ≠ 0 then d
  else { d with cal := { d.cal with recs := d.cal.stored, applied := 0 } }

/-- The engagement ends at once, by way of DISENGAGING (R103); what waits in the lanes is dropped. -/
def Dev.stopAtOnce (code : Nat) (d : Dev) : Dev :=
  let d := if d.eng.st = .engaged ∨ d.eng.st = .disengaging then d.beginStop code else d
  let e : Eng := { d.eng with rundownAt := none, stopReason := 0, stopAtBrim := false }
  let e : Eng := if e.st = .disengaging then { e with st := .idle } else e
  let ls : Tbl Lane := d.lane.map (fun x => (x.1, { x.2 with queue := [] }))
  { d with eng := e, temp := { d.temp with orderly := false, swapAt := none }, lane := ls }

/-- A twin is FENCED: it follows no lining and serves none. -/
def Twin.fenced (x : Twin) : Twin :=
  { x with
    role := .fenced, snapped := false, serving := false, partnerLined := false, partnerReq := false, linSeq := none
    resyncAt := none, outcomes := [], myOutcomes := [] }

/-- FENCE_N is low (R643): outputs safe, lanes silent, ACTIVE and READY low, pages in MARKING aborted, every unit FENCED
with 0x1004 on NODE; clock outputs park (R551). Pages that wait end with 0x1004. -/
def Dev.fenceNow (d : Dev) : Dev :=
  if d.twin.role = .fenced then d
  else
    let d := ((d.outputsSafe).abortAll).abandon
    let d := { d with twin := d.twin.fenced, pins := { d.pins with active := false, ready := false } }
    let d := d.stopAtOnce 0x1004
    let d := ((upTo 16).filter (d.has .clko)).foldl (fun d i => d.park i) d
    let d := d.report uNODE 0x1004 (some .fenced)
    ((d.unitsOn.filter (fun u => uclass u != cDOMAIN || d.ust u != .off)).foldl (fun d u => d.setSt u .fenced) d).calRevert

/-- An axis that trips in the CTL cycle of a command to the safe state takes the state of the command (R442). -/
def Dev.tripsNow (d : Dev) (u : Nat) : Bool := uclass u == cAXIS && (d.axis.at (uindex u)).tripAt == some d.ctlCycle

/-- The stop is at an end: units return to IDLE, ENG_STATE becomes IDLE (R104 step 4). Its STATE changes rank with the stop
itself, which may fall in the same CORE cycle (R682). -/
def Dev.endStop (d : Dev) : Dev :=
  let rank := d.clk.rank
  let d := ({ d with clk := { d.clk with rank := 5 } }).processSafe
  let d := ((upTo 16).filter (fun i => d.has .clko i && d.cfgB .clko i .START)).foldl (fun d i => d.park i) d
  let d := (d.unitsOn.filter (fun u =>
      uclass u != cDOMAIN && uclass u != cPLL && uclass u != cCLKO && uclass u != cXPORT && u != uTEMP
        && (d.ust u != .fault || d.tripsNow u) && d.ust u != .off)).foldl (fun d u => d.setSt u .idle) d
  let d := { d with
    eng := { d.eng with st := .idle, rundownAt := none, stopReason := 0, stopAtBrim := false }
    temp := { d.temp with orderly := false }
    clk := { d.clk with rank := rank } }
  (d.calRevert).delta d.engEntry

/-- Every axis and stepper in use has taken its safe state (R104). -/
def Dev.allAtRest (d : Dev) : Bool :=
  (upTo 24).all (fun i => !d.has .axis i || (d.axis.at i).safe)
    && (upTo 16).all (fun i => !d.has .step i || (d.step.at i).safe)

/-- Step 4 of R104 where every axis and stepper is safe. -/
def Dev.tryEndStop (d : Dev) : Dev :=
  if d.eng.st = .disengaging ∧ d.eng.rundownAt.isSome ∧ d.allAtRest then d.endStop else d

end Sys2Proof.Machine
end

