-- ==== Sys2Proof/Machine/Clock.lean ====
section
/-! DEFINITION. The user PLLs (R85, R86, R534 to R548), the clock outputs (R550 to R552) and the loss of a station's
reference (R234 to R237). A PLL's rate is the rate of its output before DIV: f_lattice or f_pix of a place PLL (R536). -/

namespace Sys2Proof.Machine

/-- The m a place PLL takes at a lock: the lowest of 3 to 26 that brings the DCO to 3.2 GHz or above (R537). -/
def lockM (rateMHz : Nat) : Nat :=
  ((upTo 24).find? (fun k => 3200000000000 ≤ rateMHz * 2 ^ (k + 3))).elim 26 (· + 3)

/-- The m after a handover: one more below 3.1 GHz, one less above 6.6 GHz (R537). -/
def handM (m rateMHz : Nat) : Nat :=
  if rateMHz * 2 ^ m < 3100000000000 then m + 1 else if 6600000000000 < rateMHz * 2 ^ m then m - 1 else m

/-- The elapsed time in HOLD or FOLLOW is counted (R564); the remainder below 1 ns stays. -/
def Dev.pllCount (i : Nat) (d : Dev) : Dev :=
  let p := d.pll.at i
  let ns := (d.clk.now - p.since) / 4
  if p.hold then (d.bump (uid cPLL i) .HOLD_NS ns).updPll i (fun p => { p with since := p.since + 4 * ns })
  else if p.follow then (d.bump (uid cPLL i) .FOLLOW_NS ns).updPll i (fun p => { p with since := p.since + 4 * ns })
  else d

/-- The rate of a PLL's DCO, in mHz (R536). -/
def Dev.dcoRate (d : Dev) (i : Nat) : Nat := (d.pll.at i).rate * 2 ^ (d.pll.at i).m

/-- The rate of the tap of a clock output, in mHz: the DCO, or the pixel clock (R536, R551). -/
def Dev.tapRate (d : Dev) (i : Nat) : Nat :=
  if d.cfgN .clko i .TAP = 1 then (d.pll.at (d.cfgN .clko i .SOURCE)).rate else d.dcoRate (d.cfgN .clko i .SOURCE)

/-- The tap cycles of a running clock output since its start, in 1/(4 x 10^12) cycle (R551, log entry
119). -/
def Dev.tapPhase (d : Dev) (i : Nat) : Nat := (d.clko.at i).phase + (d.clk.now - (d.clko.at i).at_) * d.tapRate i

/-- Clock outputs keep their phase through a change of their PLL's rate (R540, R551). -/
def Dev.keepPhase (i : Nat) (d : Dev) : Dev :=
  ((upTo 16).filter (fun o => (d.clko.at o).run && d.cfgN .clko o .SOURCE == i)).foldl
    (fun d o => { d with clko := d.clko.upd o (fun c => { c with phase := d.tapPhase o, at_ := d.clk.now }) }) d

/-- A PLL freezes its main DCO and enters HOLD, with the reason of the loss (R544, R545); in HOLD already, a reference that is
lost is reported. -/
def Dev.enterHold (i code : Nat) (d : Dev) : Dev :=
  if (d.pll.at i).hold then d.reportIf ((d.pll.at i).ref && code == 0x0206) (uid cPLL i) 0x0206
  else if !(d.pll.at i).everLocked then d
  else
    let d := d.pllCount i
    let d := d.updPll i (fun p =>
      { p with hold := true, follow := false, locked := false, code0 := p.code.toNat, t0 := d.temp.now,
               since := d.clk.now })
    (d.bump (uid cPLL i) .HOLDOVERS 1).report (uid cPLL i) code (some .hold)

/-- Clock outputs start: with START 0 at READY, with START 1 at engagement, none before its PLL's first lock (R551,
R552). -/
def Dev.startClko (d : Dev) : Dev :=
  ((upTo 16).filter (fun i => d.has .clko i && !(d.clko.at i).run
      && (if d.cfgB .clko i .START then d.eng.st == .engaged else d.pins.ready)
      && (d.cfgN .clko i .TAP == 2 || (d.pll.at (d.cfgN .clko i .SOURCE)).everLocked))).foldl
    (fun d i => ({ d with clko := d.clko.set i { run := true, at_ := d.clk.now } }).rest (uid cCLKO i) .run) d

/-- A station loses its reference: it reports 0x0304 once, again once the reference had returned, and its place PLL coasts in
HOLD (R235). With a loss of lock,
0x0205, the place PLL's own reference is still there (R544). A place PLL that has
not locked yet has no lattice rate to coast at. -/
def Dev.refLoss (n code : Nat) (d : Dev) : Dev :=
  let d := d.enterHold (n + 2) code
  let d := d.updPll (n + 2) (fun p => { p with ref := p.ref && code == 0x0205 })
  if ((d.stn.at n).coasting ∧ !(d.stn.at n).refBack) ∨ !d.stnOn n ∨ !(d.pll.at (n + 2)).everLocked then d.updStn n (fun s => { s with refBack := false })
  else
    ((d.updStn n (fun s => { s with coasting := true, refBack := false })).bump (uid cSTN n) .COAST_EVENTS 1).report
      (uid cSTN n) 0x0304

/-- A station waits for a real leading edge in web mode, with 0x0311 (R215). -/
def Dev.webWait (n : Nat) (d : Dev) : Dev :=
  if d.cfgB .stnPlace n .WEB then (d.updStn n (fun s => { s with webWait := true })).report (uid cSTN n) 0x0311 else d

/-- Placement resumes at the first brim after the reference has returned and the place PLL has relocked; a brim in
progress is one (R237, log entry 22). -/
def Dev.resumeStn (n : Nat) (d : Dev) : Dev :=
  if (d.stn.at n).coasting ∧ (d.stn.at n).refBack ∧ d.inBrim n then
    let d := d.updStn n (fun s => { s with coasting := false, refBack := false, quad := [] })
    (d.report (uid cSTN n) 0x0306).webWait n
  else d

/-- The two DCOs exchange roles, the new main one at a band and code (R540). -/
def Pll.swapped (band : BitVec 6) (code : BitVec 24) (p : Pll) : Pll :=
  { p with second := !p.second, spareBand := p.band, spareCode := p.code, band := band, code := code }

/-- The spare takes over the output: first lock 0x0204, relock 0x0208 (R540). -/
def Dev.pllSwap (i : Nat) (band : BitVec 6) (code : BitVec 24) (rate : Nat) (d : Dev) : Dev :=
  let first := !(d.pll.at i).everLocked
  let d := (d.pllCount i).keepPhase i
  let d := d.updPll i (fun p =>
    { p.swapped band code with
      everLocked := true, locked := true, follow := false, hold := false, ref := true, refLost := false
      m := if i < 2 then 0 else lockM rate, rate := if i < 2 then 4000000000000 else rate, since := d.clk.now })
  let d := (d.bump (uid cPLL i) .LOCKS 1).report (uid cPLL i) (if first then 0x0204 else 0x0208)
    (if d.ust (uid cPLL i) = .fenced ∨ d.ust (uid cPLL i) = .fault then none else some .run)
  let d := if i = 1 then { d with clk := { d.clk with running := true } } else d
  let d := if i = 0 then { d with boot := { d.boot with sysClk := true } } else d
  let d := d.startClko
  if 2 ≤ i ∧ (d.stn.at (i - 2)).coasting then (d.updStn (i - 2) (fun s => { s with refBack := true })).resumeStn (i - 2)
  else d

/-- Whether a PLL is in use and powered; a place PLL whose station has no record is OFF (R538, R584). -/
def Dev.pllOn (d : Dev) (i : Nat) : Bool := d.boot.loaded && (d.dom.at (116 + i)).on && (i < 2 || d.stnOn (i - 2))

/-- Four reference edges in a row satisfy a test of their phase error (R539, R544). -/
def fourEdges (test : Int → Bool) (errs : List Int) : Bool := 4 ≤ errs.length && (errs.take 4).all test

/-- A spare is locked: its phase error has stayed within LOCK_TOL_PS for four edges, and the reference of a place PLL is at
least 2.5 kHz (R539, R542). -/
def Dev.spareLocked (d : Dev) (i : Nat) (x : PllSearch) : Bool :=
  fourEdges (fun e => absI e ≤ d.cfg .pll i .LOCK_TOL_PS) x.errs && (i < 2 || 2500000 ≤ x.refRate)

/-- PLL_LOCK: the spare locks and the output swaps, at a first lock, after HOLD or after FOLLOW (R85, R86, R540, R543);
after a loss of its reference the spare searches only with the reference back (R548). -/
def actPllLock (t : Nat) (i : Nat) (band : BitVec 6) (code : BitVec 24) (x : PllSearch) (d : Dev) : Dev :=
  let d := d.enter t 7
  let p := d.pll.at i
  if !d.pllOn i ∨ !d.spareLocked i x ∨ (p.locked ∧ !p.follow) ∨ p.refLost ∨ (p.hold ∧ !p.ref)
      ∨ 3 ≤ d.boot.lockFails.at i then d
  else d.pllSwap i band code x.rate

/-- PLL_LOCK (R540). -/
def execPllLock (t : Nat) (pll : Fin 10) (band : BitVec 6) (code : BitVec 24) (x : PllSearch) (s : State) :
    Host.Outcome State Fault Refusal := .next { s with dev := actPllLock t pll.val band code x s.dev }

/-- PLL_LOCK_ATTEMPT_FAIL: three failed attempts of SYSPLL or TPLL leave the device in start-up, READY low, FAULT_N low
and the PLL in FAULT with 0x1105 (R85). -/
def actPllLockAttemptFail (t i : Nat) (d : Dev) : Dev :=
  let d := d.enter t 7
  if 2 ≤ i ∨ !d.pllOn i ∨ (d.pll.at i).everLocked ∨ 3 ≤ d.boot.lockFails.at i then d
  else
    let d := { d with boot := { d.boot with lockFails := d.boot.lockFails.upd i (· + 1) } }
    if below (d.boot.lockFails.at i) 3 then d
    else
      ({ d with pins := { d.pins with faultLow := true } }).report (uid cPLL i) 0x1105 (some .fault)

/-- PLL_LOCK_ATTEMPT_FAIL (R85). -/
def execPllLockAttemptFail (t : Nat) (pll : Fin 10) (s : State) : Host.Outcome State Fault Refusal :=
  .next { s with dev := actPllLockAttemptFail t pll.val s.dev }

/-- BAND_SEARCH_FAIL: no band is found; reported with 0x020B, and the search is repeated after 1 ms (R542). -/
def actBandSearchFail (t i : Nat) (d : Dev) : Dev :=
  let d := d.enter t 7
  if d.pllOn i then d.report (uid cPLL i) 0x020B else d

/-- BAND_SEARCH_FAIL (R542). -/
def execBandSearchFail (t : Nat) (pll : Fin 10) (s : State) : Host.Outcome State Fault Refusal :=
  .next { s with dev := actBandSearchFail t pll.val s.dev }

/-- PLL_HANDOVER: a locked PLL's output passes to the spare in the adjacent band or at the new m, counted with 0x0207
(R537, R541). -/
def actPllHandover (t i : Nat) (band : BitVec 6) (code : BitVec 24) (rate : Nat) (d : Dev) : Dev :=
  let d := d.enter t 7
  if !d.pllOn i ∨ !(d.pll.at i).locked ∨ (d.pll.at i).follow then d
  else
    let d := (d.keepPhase i).updPll i (fun p =>
      { p.swapped band code with
        rate := if i < 2 then 4000000000000 else rate, m := if i < 2 then 0 else handM p.m rate })
    (d.bump (uid cPLL i) .HANDOVERS 1).report (uid cPLL i) 0x0207

/-- PLL_HANDOVER (R541). -/
def execPllHandover (t : Nat) (pll : Fin 10) (band : BitVec 6) (code : BitVec 24) (rate : Nat) (s : State) :
    Host.Outcome State Fault Refusal := .next { s with dev := actPllHandover t pll.val band code rate s.dev }

/-- PLL_UNLOCK: the phase error exceeds UNLOCK_TOL_PS on 4 edges; HOLD with 0x0205, and a place PLL's station loses its
reference (R234, R544, R545). -/
def actPllUnlock (t i : Nat) (errs : List Int) (d : Dev) : Dev :=
  let d := d.enter t 7
  if !d.pllOn i ∨ !(d.pll.at i).locked ∨ !fourEdges (fun e => d.cfg .pll i .UNLOCK_TOL_PS < absI e) errs then d
  else
    let d := d.enterHold i 0x0205
    if 2 ≤ i then d.refLoss (i - 2) 0x0205 else d

/-- PLL_UNLOCK (R544). -/
def execPllUnlock (t : Nat) (pll : PhaseErrors) (s : State) : Host.Outcome State Fault Refusal :=
  .next { s with dev := actPllUnlock t pll.pll.val pll.errs s.dev }

/-- PLL_REF_LOST: the reference is lost; HOLD with 0x0206, and a place PLL's station coasts (R235, R544, R545). -/
def actPllRefLost (t i : Nat) (d : Dev) : Dev :=
  let d := d.enter t 7
  if !d.pllOn i then d
  else
    let d := (d.enterHold i 0x0206).updPll i (fun p => { p with ref := false, refLost := true })
    if 2 ≤ i ∧ (d.pll.at i).everLocked then d.refLoss (i - 2) 0x0206 else d

/-- PLL_REF_LOST (R544). -/
def execPllRefLost (t : Nat) (pll : Fin 10) (s : State) : Host.Outcome State Fault Refusal :=
  .next { s with dev := actPllRefLost t pll.val s.dev }

/-- c(T) of a PLL's temperature curve, in ppb; a curve of fewer than 2 points gives no correction (R545, R561). -/
def Dev.pllCurve (d : Dev) (i : Nat) (temp : Int) : Int :=
  let k := d.cfgN .pll i .TC_POINTS
  if k < 2 then 0
  else interp ((upTo k).map (fun j =>
    let w := bodyDWord (d.body .pll i) 16 j
    (sx 16 (bits w 63 48), sx 32 (bits w 31 0)))) temp

/-- HOLDOVER_TICK: every 100 us in HOLD the frozen code is corrected by c(T) - c(T0), one code step for 1 ppb (R535,
R545, log entry 23). -/
def actHoldoverTick (t i : Nat) (d : Dev) : Dev :=
  let d := d.enter t 7
  let p := d.pll.at i
  if !d.pllOn i ∨ !p.hold then d
  else
    (d.pllCount i).updPll i (fun p =>
      { p with code := BitVec.ofInt 24 (clampI 0 16777215 (p.code0 + d.pllCurve i d.temp.now - d.pllCurve i p.t0)) })

/-- HOLDOVER_TICK (R545). -/
def execHoldoverTick (t : Nat) (pll : Fin 10) (s : State) : Host.Outcome State Fault Refusal :=
  .next { s with dev := actHoldoverTick t pll.val s.dev }

/-- PLL_REF_RETURN: the reference is back; the spare searches while the main DCO coasts (R548). -/
def actPllRefReturn (t i : Nat) (d : Dev) : Dev :=
  let d := d.enter t 7
  if !d.pllOn i then d
  else
    let d := d.updPll i (fun p => { p with ref := true, refLost := false })
    if 2 ≤ i ∧ d.stnOn (i - 2) then
      { d with enc := d.enc.upd (d.cfgN .stnPlace (i - 2) .PRI_ENC) (fun e => { e with bad := false, ssiFails := 0 }) }
    else d

/-- PLL_REF_RETURN (R548). -/
def execPllRefReturn (t : Nat) (pll : Fin 10) (s : State) : Host.Outcome State Fault Refusal :=
  .next { s with dev := actPllRefReturn t pll.val s.dev }

/-- PPLL_FOLLOW: a locked jet place PLL enters FOLLOW with 0x0209; it counts as locked and its unit stays RUN (R543). -/
def actPpllFollow (t n : Nat) (d : Dev) : Dev :=
  let d := d.enter t 7
  let p := d.pll.at (n + 2)
  if !d.pllOn (n + 2) ∨ !d.isJet n ∨ !p.locked ∨ p.follow then d
  else
    (d.updPll (n + 2) (fun p => { p with follow := true, since := d.clk.now })).report (uid cPLL (n + 2)) 0x0209

/-- PPLL_FOLLOW (R543). -/
def execPpllFollow (t : Nat) (stn : Fin 8) (s : State) : Host.Outcome State Fault Refusal :=
  .next { s with dev := actPpllFollow t stn.val s.dev }

end Sys2Proof.Machine
end

