-- ==== Sys2Proof/Machine/CalCheck.lean ====
section
/-! DEFINITION. Calibration records: their format (R49 to R52, R400), the values that result from them (R402, R404),
the calibration gauntlet (R400 to R403, R411), and the slots of the calibration store (R416, R417, R422). -/

namespace Sys2Proof.Machine

/-- The record at the head of a byte string, with its length, where it is well formed and in order (R49 to R52, R400). -/
def calHead (node : Nat) (seen : List Rec) (bs : List Byte) : Option (Nat × Rec) :=
  match recAt node bs.length bs with
  | .error _ => none
  | .ok (len, x) =>
    if calLen x.typ x.body ≠ len ∨ leNat ((bs.drop (len - 4)).take 4) ≠ (crc32c (bs.take (len - 4))).toNat
        ∨ bits (leNat (bs.take 16)) 126 112 ≠ 0 ∨ !calReservedOk x
        ∨ !x.follows seen then none
    else some (len, x)

/-- Calibration records one after another fill a byte string, each well formed and in order (R49 to R52): the records,
or 0x0801. -/
def calWalk (node : Nat) : Nat → List Rec → List Byte → Except Nat (List Rec)
  | 0, seen, bs => if bs.isEmpty then .ok seen.reverse else .error 0x0801
  | fuel + 1, seen, bs =>
    if bs.isEmpty then .ok seen.reverse
    else
      match calHead node seen bs with
      | none => .error 0x0801
      | some (len, x) => calWalk node fuel (x :: seen) (bs.drop len)

/-- How many bytes of a string are records well formed and in order, one after another. -/
def calGood (node : Nat) : Nat → List Rec → List Byte → Nat
  | 0, _, _ => 0
  | fuel + 1, seen, bs =>
    match calHead node seen bs with
    | none => 0
    | some (len, x) => len + calGood node fuel (x :: seen) (bs.drop len)

/-- The class a calibration record names (R400). -/
def calClass (typ : Nat) : Nat := if typ = 0x0810 then cSTN else cLANE

/-- A CAL_TRIM body from its first nozzle and its words (R400). -/
def trimBody (first : Nat) (ws : List Nat) : Nat :=
  first * 65536 + ws.length + 2 ^ 32 * ws.foldr (fun w a => w + 2 ^ 32 * a) 0

/-- A record takes its place among records in order (R52). -/
def calInsert (x : Rec) (cs : List Rec) : List Rec :=
  insertBy (fun a b => a.typ < b.typ || (a.typ == b.typ && a.addr ≤ b.addr)) x
    (cs.filter (fun r => !(r.typ == x.typ && r.addr == x.addr)))

/-- The trim word of nozzle `n` that results from a CAL_TRIM record over the records in effect (R404, R424). -/
def Dev.trimResult (d : Dev) (cs : List Rec) (x : Rec) (n : Nat) : Nat :=
  let u := x.addr % 65536
  match trimWord x.body n with
  | some w => if x.enable then w else ((d.factoryBody 0x0813 u).bind (fun b => trimWord b n)).getD 0
  | none => d.trim cs (uindex u) n

/-- The records in effect once one more record has taken effect (R400, R404): a record with ENABLE 0 stays in the set and
gives its values their factory values; a CAL_TRIM record changes the nozzles it names only. -/
def Dev.calMerge (d : Dev) (cs : List Rec) (x : Rec) : List Rec :=
  match (if x.typ = 0x0813 then cs.find? (fun r => r.typ == 0x0813 && r.addr == x.addr) else none) with
  | none => calInsert x cs
  | some o =>
    let f := min (bits o.body 31 16) (bits x.body 31 16)
    let e := max (bits o.body 31 16 + bits o.body 15 0) (bits x.body 31 16 + bits x.body 15 0)
    let ws := (upTo (e - f)).map (fun i => d.trimResult cs x (f + i))
    calInsert { x with enable := true, len := 24 + 4 * (e - f), body := trimBody f ws } cs

/-- The records that result from a list of records. -/
def Dev.calMergeAll (d : Dev) (cs xs : List Rec) : List Rec := xs.foldl (fun a x => d.calMerge a x) cs

/-- The record names a unit of the device that its type may name, in an enabled station of a mask (R400, R403, R411). -/
def Dev.calUnitOk (d : Dev) (mask : Nat) (x : Rec) : Bool :=
  let u := x.addr % 65536
  let n := calStn u
  x.addr / 65536 == d.node && uvalid u && uclass u == calClass x.typ && bit mask n && d.stnOn n
    && (if x.typ = 0x0812 ∨ x.typ = 0x0813 ∨ x.typ = 0x0815 then d.isJet n else true)
    && (if x.typ = 0x0814 then d.isScan n && (d.lanesOf n).contains (uindex u) else true)

/-- The first finding of the calibration gauntlet on one record, with the byte of the record that it names (R51, R400,
R403, R411); `cs` are the values that would result, also where a record with ENABLE 0 brings back factory values (R404). -/
def Dev.calRecFinding (d : Dev) (cs : List Rec) (mask : Nat) (x : Rec) : Option (Nat × Nat) :=
  let i := uindex (x.addr % 65536)
  let n := calStn (x.addr % 65536)
  let first := bits x.body 31 16
  let count := bits x.body 15 0
  let badRow := if x.typ = 0x0812 then
      (upTo (d.rows i)).find? (fun r => d.rowDelay cs i r < 0 || 4095 < d.rowLines cs i r) else none
  let badFacet := if x.typ = 0x0814 then
      (upTo (d.facets n)).find? (fun f => d.facetDelay cs i f < -32768 || 32767 < d.facetDelay cs i f) else none
  let cross := sx 8 (bits x.body 39 32)
  if !d.calUnitOk mask x then some (0x0802, 4)
  else
    match badRow, badFacet with
    | some r, _ => some (0x0410, 16 + 2 * r)
    | none, some f => some (0x0505, 16 + 2 * f)
    | none, none =>
      if x.typ = 0x0815 ∧ (d.stitchMask cs i).any (fun b => bits b 7 0 != (d.zone cs i).length) then some (0x0404, 16)
      else if x.typ = 0x0813 ∧ count = 0 then some (0x0802, 16)
      else if x.typ = 0x0813 ∧ d.nozzles i < first + count then some (0x0802, 18)
      else if !x.enable then none
      else if (x.typ = 0x0810 ∨ x.typ = 0x0811) ∧ 8388608 < absI (sx 32 x.body) then some (0x0802, 16)
      else if x.typ = 0x0811 ∧ (cross < -64 ∨ 63 < cross) then some (0x0802, 20)
      else none

/-- Whether every zone of a station keeps R257, and every mask has its zone's width (R258, R401). -/
def Dev.zonesOk (d : Dev) (cs : List Rec) (n : Nat) : Bool :=
  (d.lanesOf n).all (fun l =>
    !d.zoneBroken cs l &&
      match d.stitchMask cs l with
      | some b => bits b 7 0 == (d.zone cs l).length
      | none => true)

/-- Whether the moved columns of a station keep the coverage of R247 (R401). -/
def Dev.coverageOk (d : Dev) (cs : List Rec) (n : Nat) : Bool :=
  let s := d.served cs n
  let cols := d.planeCols n
  (d.misplaced cs n).isEmpty && (overServed s.length s).isEmpty
    && (lowestGap cols (s.map (·.1)) 0).isNone

/-- The calibration gauntlet on a set of records over the values in effect (R411): nothing, or the first code. -/
def Dev.calGauntlet (d : Dev) (base : List Rec) (mask : Nat) (xs : List Rec) : Option Nat :=
  let cs := d.calMergeAll base xs
  match xs.findSome? (fun x => d.calRecFinding cs mask x) with
  | some c => some c.1
  | none =>
    (stnsOf mask).findSome? (fun n =>
      if !d.isJet n ∨ !xs.any (fun x => x.typ == 0x0811 && calStn (x.addr % 65536) == n) then none
      else if !d.coverageOk cs n then some 0x0402
      else if !d.zonesOk cs n then some 0x0404
      else none)

/-- A record as bytes (R49): header, UNIT_COMMON, body and REC_CRC. -/
def Rec.bytes (x : Rec) : List Byte :=
  let h := put 64 x.len + put 32 x.addr + put 16 x.ver + x.typ + put 96 x.label + put 127 (b2n x.enable)
  let b := leBytes 16 h ++ leBytes (x.len - 20) x.body
  b ++ leBytes 4 (crc32c b).toNat

/-- Offset of a calibration slot on its chip select: 0 for A, 1 for B (R42). -/
def calOff (slot : Nat) : Nat := 0x8000000 + slot * 0x800000

/-- The chip select that holds the store (R42, R56). -/
def Dev.calCs (d : Dev) : Nat := d.cfgN .node 0 .CAL_CS

/-- The body of the commit record but for COMMIT_CRC (R416). -/
def commitBytes (stamp len imageGen gen node : Nat) : List Byte :=
  let x := 0x53435656 + put 32 0x0100 + put 48 node + put 64 gen + put 96 imageGen + put 128 len + put 160 (stamp % 2 ^ 64)
  let b := leBytes 28 x
  b ++ leBytes 4 (crc32c b).toNat

/-- A store slot's generation and records when it is valid (R417). -/
def Dev.calSlot (d : Dev) (slot : Nat) : Option (Nat × List Rec) :=
  let o := calOff slot
  let c := d.boot.flashBytes d.calCs o 32
  let x := leNat c
  let len := bits x 159 128
  if bits x 31 0 ≠ 0x53435656 ∨ bits x 255 224 ≠ (crc32c (c.take 28)).toNat ∨ bits x 47 40 ≠ 1 ∨ bits x 95 64 = 0
      ∨ bits x 95 64 = 0xFFFFFFFF ∨ bits x 63 48 ≠ d.node ∨ len % 4 ≠ 0 ∨ len < 4 ∨ 8384512 < len then none
  else
    let b := d.boot.flashBytes d.calCs (o + 0x1000) len
    if leNat (d.boot.flashBytes d.calCs (o + 0x40) 4) ≠ (crc32c b).toNat then none
    else
      match calWalk d.node (len / 20 + 1) [] b with
      | .error _ => none
      | .ok xs => if (d.calGauntlet [] 0xFF xs).isNone then some (bits x 95 64, xs) else none

/-- The calibration store is loaded at start (R422): the valid slot of the higher generation, slot A on a tie; an
invalid slot is reported with 0x0809, and with neither valid factory values apply with 0x080A. -/
def Dev.calLoad (d : Dev) : Dev :=
  let a := d.calSlot 0
  let b := d.calSlot 1
  let d := (d.reportIf a.isNone uNODE 0x0809).reportIf b.isNone uNODE 0x0809
  let pick : Option (Nat × Nat × List Rec) :=
    match a, b with
    | some x, some y => if x.1 < y.1 then some (1, y) else some (0, x)
    | some x, none => some (0, x)
    | none, some y => some (1, y)
    | none, none => none
  match pick with
  | some (s, g, xs) => { d with cal := { recs := xs, gen := g, slot := s, stored := xs } }
  | none => ({ d with cal := { recs := [], gen := 0, slot := 2 } }).report uNODE 0x080A

end Sys2Proof.Machine
end

