-- ==== Sys2Proof/Machine/Gauntlet.lean ====
section
/-! DEFINITION. The gauntlet (R105 to R109): its twelve checks, the order of their findings (R106), and the report
(R109). Check 6 never has a finding, since every region clock the configuration can give keeps the ratios of R15 (R13,
R17, R537). -/

namespace Sys2Proof.Machine

/-- A finding of the gauntlet (R106, R109). -/
structure Finding where
  check : Nat
  code : Nat
  unit : Nat
  typ : Nat := 0
  label : Nat := 0
  detail : Nat := 0
  deriving DecidableEq, Repr, Inhabited

/-- Byte offset of a field from byte 0 of the record header (R51). -/
def RT.offset (r : RT) (f : F) : Nat :=
  match r.field? f with
  | some x => 16 + x.lo / 8
  | none => 0

/-- A finding on a record as a whole or at a byte of it. -/
def onRec (c code : Nat) (x : Rec) (detail : Nat := 0) : Finding :=
  { check := c, code := code, unit := x.addr, typ := x.typ, label := x.label, detail := detail }

/-- A finding on a field of a record. -/
def onField (c code : Nat) (r : RT) (x : Rec) (f : F) : Finding := onRec c code x (r.offset f)

/-- A list with one finding where a condition holds. -/
def when (b : Bool) (f : Finding) : List Finding := if b then [f] else []

/-- The enabled records of a type that the gauntlet judges: of this node's units, and every MITTEN and REFEREE record
(R25, R32, R53, R54). -/
def Dev.own (d : Dev) (r : RT) : List Rec :=
  d.boot.image.recs.filter (fun x =>
    x.typ == r.code && x.enable && (r == .referee || r == .mitten || x.addr / 65536 == d.node))

/-- The value of a record's field. -/
def Rec.fv (x : Rec) (r : RT) (f : F) : Int := r.get x.body f
/-- The value of a record's field as a natural number. -/
def Rec.fn (x : Rec) (r : RT) (f : F) : Nat := (r.get x.body f).toNat
/-- The unit index of a record. -/
def Rec.idx (x : Rec) : Nat := uindex x.addr

/-- Check 1 on a reference to a unit that must be enabled. -/
def Dev.refTo (d : Dev) (r : RT) (x : Rec) (f : F) (c i : Nat) : List Finding :=
  when (!(uvalid (uid c i) && i < classSize c && d.unitOn (uid c i))) (onField 1 0x0121 r x f)

/-- Check 1: every reference to a unit, table or flash region resolves (R43, R105, R239, R284, R352). -/
def Dev.check1 (d : Dev) : List Finding :=
  (d.own .node).flatMap (fun x =>
      let mib := if x.fn .node .CAL_CS = 0 then x.fn .node .FLASH_CS0_MIB else x.fn .node .FLASH_CS1_MIB
      when (mib < 144) (onField 1 0x0121 .node x .CAL_CS))
  ++ (d.own .stnPlace).flatMap (fun x =>
      d.refTo .stnPlace x .PRI_ENC cENC (x.fn .stnPlace .PRI_ENC)
      ++ (if x.fv .stnPlace .LE_SRC = 0 then d.refTo .stnPlace x .LE_CUE cCUE (x.fn .stnPlace .LE_CUE) else [])
      ++ (if x.fv .stnPlace .REG_EN = 1 then d.refTo .stnPlace x .REG_CUE cCUE (x.fn .stnPlace .REG_CUE) else [])
      ++ (if x.fv .stnPlace .SEC_EN = 1 then d.refTo .stnPlace x .SEC_ENC cENC (x.fn .stnPlace .SEC_ENC) else []))
  ++ (d.own .stnJet).flatMap (fun x => when (!d.has .stnPlace x.idx) (onRec 1 0x0121 x))
  ++ (d.own .stnScan).flatMap (fun x =>
      when (!d.has .stnPlace x.idx) (onRec 1 0x0121 x)
      ++ when (!d.has .sos (2 * x.idx)) (onRec 1 0x0121 x)
      ++ when (x.fv .stnScan .SE_PIXELS != 0 && !d.has .sos (2 * x.idx + 1)) (onField 1 0x0121 .stnScan x .SE_PIXELS))
  ++ (d.own .axis).flatMap (fun x =>
      let src := x.fn .axis .REF_SRC
      let used := x.fn .axis .MODE ≤ 1
      d.refTo .axis x .SHUNT_U_AIN cAIN (x.fn .axis .SHUNT_U_AIN)
      ++ d.refTo .axis x .SHUNT_V_AIN cAIN (x.fn .axis .SHUNT_V_AIN)
      ++ d.refTo .axis x .SHUNT_W_AIN cAIN (x.fn .axis .SHUNT_W_AIN)
      ++ d.refTo .axis x .VBUS_AIN cAIN (x.fn .axis .VBUS_AIN)
      ++ (if x.fn .axis .ANGLE_SRC ≠ 1 then d.refTo .axis x .ENC cENC (x.fn .axis .ENC) else [])
      ++ (if used && src = 1 then d.refTo .axis x .REF_IDX cLOOP (x.fn .axis .REF_IDX) else [])
      ++ (if used && src = 2 then d.refTo .axis x .REF_IDX cAIN (x.fn .axis .REF_IDX) else [])
      ++ (if used && src = 3 then d.refTo .axis x .REF_IDX cSTN (x.fn .axis .REF_IDX) else [])
      ++ when (!(d.has .sdm (2 * x.idx) && d.has .sdm (2 * x.idx + 1))) (onRec 1 0x0121 x))
  ++ (d.own .blowerCurve).flatMap (fun x =>
      let src := x.fn .blowerCurve .IN_SRC
      d.refTo .blowerCurve x .IN_IDX (if src = 0 then cAIN else if src = 1 then cLOOP else cSTN)
        (x.fn .blowerCurve .IN_IDX))
  ++ (d.own .step).flatMap (fun x =>
      d.refTo .step x .SENSE_A_AIN cAIN (x.fn .step .SENSE_A_AIN)
      ++ d.refTo .step x .SENSE_B_AIN cAIN (x.fn .step .SENSE_B_AIN)
      ++ (if x.fn .step .STEP_PER_COUNT ≠ 0 then d.refTo .step x .ENC cENC (x.fn .step .ENC) else []))
  ++ (d.own .profile).flatMap (fun x =>
      let src := x.fn .profile .TGT_SRC
      if src = 0 then []
      else d.refTo .profile x .TGT_IDX (if src = 1 then cLOOP else if src = 2 then cAIN else cSTN)
        (x.fn .profile .TGT_IDX))
  ++ (d.own .loop).flatMap (fun x =>
      let src := x.fn .loop .SRC_KIND
      let sp := x.fn .loop .SP_SRC
      let dst := x.fn .loop .DST_KIND
      (if src = 0 then d.refTo .loop x .SRC_IDX cAIN (x.fn .loop .SRC_IDX)
        else if src = 1 then d.refTo .loop x .SRC_IDX cENC (x.fn .loop .SRC_IDX)
        else if src = 4 then d.refTo .loop x .SRC_IDX cLOOP (x.fn .loop .SRC_IDX) else [])
      ++ (if sp = 1 then d.refTo .loop x .SP_IDX cAIN (x.fn .loop .SP_IDX)
        else if sp = 2 then d.refTo .loop x .SP_IDX cLOOP (x.fn .loop .SP_IDX)
        else if sp = 3 ∨ sp = 4 then d.refTo .loop x .SP_IDX cSTN (x.fn .loop .SP_IDX) else [])
      ++ (if dst = 1 then d.refTo .loop x .DST_IDX cACT (x.fn .loop .DST_IDX)
        else if dst = 2 then d.refTo .loop x .DST_IDX cLAMP (x.fn .loop .DST_IDX)
        else if dst = 3 then d.refTo .loop x .DST_IDX cAXIS (x.fn .loop .DST_IDX)
        else if dst = 5 then d.refTo .loop x .DST_IDX cSTEP (x.fn .loop .DST_IDX) else [])
      ++ (if x.fv .loop .CHARGE_EN = 1 then d.refTo .loop x .CHARGE_STN cSTN (x.fn .loop .CHARGE_STN) else []))
  ++ (d.own .lamp).flatMap (fun x =>
      d.refTo .lamp x .SENSE_AIN cAIN (x.fn .lamp .SENSE_AIN)
      ++ (if x.fv .lamp .DIAG_EN = 1 then d.refTo .lamp x .LAMP_STN cSTN (x.fn .lamp .LAMP_STN) else []))
  ++ (d.own .act).flatMap (fun x =>
      if x.fv .act .KIND = 1 then d.refTo .act x .ENABLE_LOOP cLOOP (x.fn .act .ENABLE_LOOP) else [])
  ++ (d.own .mitten).flatMap (fun x =>
      (upTo (x.fn .mitten .COUNT)).flatMap (fun i =>
        let a := replaceNode d.node (bodyWord x.body 4 i)
        when (!(uvalid (a % 65536) && (a / 65536 != d.node || d.unitOn (a % 65536)))) (onRec 1 0x0121 x (20 + 4 * i))))
  ++ (d.own .twin).flatMap (fun x =>
      when (!(d.boot.image.recs.any (fun m => m.typ == RT.mitten.code && m.enable && m.idx == x.fn .twin .MITTEN_IDX
          && m.fv .mitten .TWIN == 1))) (onField 1 0x0121 .twin x .MITTEN_IDX))

/-- The findings of every field's range (check 2), with the owning chapter's code. -/
def RT.ranges (r : RT) (x : Rec) : List Finding :=
  (r.fields.filter (fun f => !f.ok x.body)).map (fun f => onRec 2 r.rangeCode x (16 + f.lo / 8))

/-- Check 2 on STN_PLACE (R205, R239). -/
def Dev.check2Place (d : Dev) (x : Rec) : List Finding :=
  let n := x.idx
  let p := d.pitch n
  when (x.fn .stnPlace .SCALE_NUM = 0) (onField 2 0x0301 .stnPlace x .SCALE_NUM)
  ++ when (x.fn .stnPlace .SCALE_DEN = 0) (onField 2 0x0301 .stnPlace x .SCALE_DEN)
  ++ when (x.fn .stnPlace .SCALE_NUM ≠ 0 ∧ x.fn .stnPlace .SCALE_DEN ≠ 0 ∧ (Ratio.below p 5290 || Ratio.above p 84700))
      (onField 2 0x0301 .stnPlace x .SCALE_NUM)
  ++ when (Ratio.above ((d.lineRateMax n).1 * 256, (d.lineRateMax n).2) 51200000
        || Ratio.above (d.countRateMax n) 50000000) (onField 2 0x0302 .stnPlace x .VMAX_MM_S)
  ++ when (x.fv .stnPlace .WEB = 1 ∧ x.fn .stnPlace .WEB_REPEAT = 0) (onField 2 0x0120 .stnPlace x .WEB_REPEAT)

/-- Check 2 on ENC: the SSI fields (R211). -/
def check2Enc (x : Rec) : List Finding :=
  let v (f : F) := x.fn .enc f
  if v .MODE = 1 then
    when (v .SSI_BITS < 10) (onField 2 0x0120 .enc x .SSI_BITS)
    ++ when (v .SSI_CLK_MHZ = 0 ∨ 10 < v .SSI_CLK_MHZ) (onField 2 0x0120 .enc x .SSI_CLK_MHZ)
    ++ when (v .SSI_PERIOD_US = 0) (onField 2 0x0120 .enc x .SSI_PERIOD_US)
  else if v .MODE = 0 then
    when (v .SSI_BITS ≠ 0) (onField 2 0x0120 .enc x .SSI_BITS)
    ++ when (v .SSI_CLK_MHZ ≠ 0) (onField 2 0x0120 .enc x .SSI_CLK_MHZ)
    ++ when (v .SSI_PERIOD_US ≠ 0) (onField 2 0x0120 .enc x .SSI_PERIOD_US)
  else []

/-- Check 2 on STN_JET and the records of a jet station (R165, R168, R247, R255, R257, R277, R284, R285, R287,
R314). -/
def Dev.check2Jet (d : Dev) (x : Rec) : List Finding :=
  let n := x.idx
  let cs := d.cal.recs
  let r := d.lineRateMax n
  let s := d.served cs n
  let cols := d.planeCols n
  let noSpit := !d.has .spitPattern n || !d.spitMarked n (x.fn .stnJet .SPIT_AUTO_IDX)
  when (d.has .stnScan n) (onRec 2 0x0401 x)
  ++ when (49152 < ceilDiv (cols * 3) 8) (onField 2 0x0120 .stnJet x .PLANE_COLS)
  ++ when (!(d.lanesOf n).all (fun l => d.has .nozzleMap l && d.has .lane l)) (onField 2 0x0401 .stnJet x .LANE_MASK)
  ++ when (x.fn .stnJet .BUILD_AHEAD * 1000000000 * r.2 < (d.cfgN .stnPlace n .LEAD_NS + 4000) * r.1)
      (onField 2 0x0401 .stnJet x .BUILD_AHEAD)
  ++ when (Ratio.above r (x.fn .stnJet .LINE_RATE_MAX)) (onField 2 0x0407 .stnJet x .LINE_RATE_MAX)
  ++ when ((d.banksOf n).isEmpty) (onRec 2 0x0D01 x)
  ++ (match lowestGap cols (s.map (·.1)) 0 with
      | some c => [onRec 2 0x0402 x c.toNat]
      | none => [])
  ++ when ((x.fv .stnJet .SPIT_AUTO_EN = 1 ∨ x.fn .stnJet .IDLE_SPIT_MS ≠ 0) ∧ noSpit)
      (onField 2 0x040F .stnJet x .SPIT_AUTO_IDX)
  ++ (match d.recI .health n with
      | none => []
      | some h =>
        let p := h.fn .health .CHECK_PATTERN
        when (h.fv .health .CHECK_EN = 1 ∧ (!d.spitMarked n p || !bit (d.spitWord n p) 39))
          (onField 2 0x0701 .health h .CHECK_PATTERN))
  ++ (d.misplaced cs n ++ overServed s.length s).flatMap (fun e =>
      match d.recI .nozzleMap e.1 with
      | some m => [onRec 2 0x0402 m (32 + 4 * e.2)]
      | none => [])
  ++ (d.lanesOf n).flatMap (fun l =>
      match d.recI .nozzleMap l with
      | some m => when (d.zoneBroken cs l) (onRec 2 0x0404 m)
      | none => [])

/-- Check 2 on STITCH_MASK (R258): its WIDTH is that of its zone. The zone is that of the columns in effect, or of the
image's own columns where a CAL_STITCH record has replaced the mask (log entry 80). -/
def Dev.check2Stitch (d : Dev) (x : Rec) : List Finding :=
  let cs := if (d.calBody d.cal.recs 0x0815 (x.addr % 65536)).isSome then [] else d.cal.recs
  when (bits x.body 7 0 ≠ (d.zone cs x.idx).length) (onRec 2 0x0404 x 16)

/-- Check 2 on NOZZLE_MAP (R246, R248, R249). -/
def Dev.check2Map (d : Dev) (x : Rec) : List Finding :=
  let l := x.idx
  (upTo (d.nozzles l)).flatMap (fun n =>
    let w := d.nozWord l n
    let q := d.nozWord l (nozPartner w)
    when (x.fn .nozzleMap .ROWS_M1 < nozRow w) (onRec 2 0x0120 x (34 + 4 * n))
    ++ when (nozPartner w ≠ n ∧ (d.nozzles l ≤ nozPartner w ∨ nozRow q = nozRow w ∨ !nozEnabled q))
        (onRec 2 0x0403 x (32 + 4 * n)))
  ++ (upTo (d.rows l)).flatMap (fun r =>
      when (d.rowDelay d.cal.recs l r < 0 ∨ 4095 < d.rowLines d.cal.recs l r)
        (onField 2 0x0410 .nozzleMap x (rowLinesF r)))

/-- The four pulse words of a waveform. -/
def pulseWords (body w : Nat) : List Nat := (upTo 4).map (fun p => bodyDWord body 4 (4 * w + p))

/-- Duration of a waveform in 5 ns steps (R263). -/
def waveSteps (ps : List Nat) : Nat :=
  ps.foldl (fun a p => a + bits p 51 40 + bits p 39 28 + bits p 27 16 + bits p 15 4) 0

/-- A nonzero pulse follows a zero one. -/
def pulseGap (ps : List Nat) : Bool := (ps.dropWhile (· != 0)).any (· != 0)

/-- Check 2 on WAVEFORM (R263). -/
def Dev.check2Wave (d : Dev) (x : Rec) : List Finding :=
  (upTo 16).flatMap (fun w =>
    let ps := pulseWords x.body w
    when (bit x.body w ∧ (ps.headD 0 = 0 ∨ pulseGap ps
        ∨ 1000000000 < 5 * waveSteps ps * d.cfgN .stnJet x.idx .LINE_RATE_MAX)) (onRec 2 0x0405 x (20 + 32 * w)))

/-- Check 2 on WAVESET (R264, R265). -/
def Dev.check2Set (d : Dev) (x : Rec) : List Finding :=
  let n := x.idx
  (upTo 8).flatMap (fun s =>
    if !d.setDefined n s then []
    else
      (upTo 7).flatMap (fun i =>
        let lv := i + 1
        let at_ (byte : Nat) := onRec 2 0x0406 x (16 + 24 * s + 3 * i + byte)
        when (1 < lv ∧ d.weight n s lv < d.weight n s i) (at_ 0) ++ when (d.vol n s lv ≤ d.vol n s i) (at_ 1)
        ++ when (!bit (d.body .waveform n) (d.wfId n s lv)) (at_ 2)))

/-- Check 2 on SPIT_PATTERN (R276, R277). -/
def Dev.check2Spit (d : Dev) (x : Rec) : List Finding :=
  let n := x.idx
  (upTo 16).flatMap (fun p =>
    let w := bodyDWord x.body 4 p
    let every := bits w 45 40
    let at_ (byte : Nat) := onRec 2 0x040F x (20 + 8 * p + byte)
    if !bit x.body p then []
    else
      when (bits w 63 52 = 0) (at_ 6) ++ when (bits w 51 49 = 0) (at_ 6) ++ when (!d.setDefined n (bits w 48 46)) (at_ 5)
      ++ when (every = 0 ∨ d.cfgN .stnJet n .DUTY_M < ceilDiv 64 every) (at_ 5))

/-- f_pix at VMAX_MM_S, in Hz (R321). -/
def Dev.fPixMax (d : Dev) (n : Nat) : Ratio :=
  ((d.lineRateMax n).1 * d.cfgN .stnScan n .PIX_PER_FACET, (d.lineRateMax n).2 * d.beams n)

/-- Check 2 on STN_SCAN (R168, R319, R321, R330, R339, R352). -/
def Dev.check2Scan (d : Dev) (x : Rec) : List Finding :=
  let n := x.idx
  let v (f : F) := x.fn .stnScan f
  let last := v .SOS_TO_IMAGE + v .SWEEP_PIXELS + 128
  let ax := v .POLY_AXIS
  when (d.has .stnJet n) (onRec 2 0x0501 x)
  ++ when (!(d.lanesOf n).all (fun l => d.has .lane l)) (onField 2 0x0501 .stnScan x .BEAMS)
  ++ when (Ratio.above (d.fPixMax n) 500000000 || v .PIX_PER_FACET < last) (onField 2 0x0502 .stnScan x .PIX_PER_FACET)
  ++ when (v .SE_PIXELS ≠ 0 ∧ (v .SE_PIXELS < last ∨ v .PIX_PER_FACET ≤ v .SE_PIXELS))
      (onField 2 0x0502 .stnScan x .SE_PIXELS)
  ++ when (!(d.has .axis ax && d.cfgN .axis ax .MODE == 3 && d.cfgN .axis ax .PHASE_STN == n))
      (onField 2 0x0503 .stnScan x .POLY_AXIS)
  ++ when (256 * v .PHASE_SLEW < v .BEAMS * d.cfgN .stnPlace n .GLIDE_SLOPE
        ∨ d.cfgN .stnPlace n .BRIM_MIN_LINES < ceilDiv 128 (v .PHASE_SLEW) * v .BEAMS)
      (onField 2 0x0504 .stnScan x .PHASE_SLEW)
  ++ when ((banksNone d n)) (onRec 2 0x0D01 x)
  ++ (match d.recI .facetDelay n with
      | some m =>
        (d.lanesOf n).flatMap (fun l => (upTo (d.facets n)).flatMap (fun f =>
          let v := d.facetDelay d.cal.recs l f
          when (v < -32768 ∨ 32767 < v) (onRec 2 0x0505 m (16 + 2 * (16 * (l % 32) + f)))))
      | none => [])
where
  /-- The station has no permitted bank. -/
  banksNone (d : Dev) (n : Nat) : Bool := (d.banksOf n).isEmpty

/-- (START, LEN) of the sub-pulses of a level word (R354). -/
def subPulses (w : Nat) : List (Nat × Nat) :=
  [(bits w 23 20, bits w 28 24), (bits w 32 29, bits w 37 33), (bits w 41 38, bits w 46 42), (bits w 50 47, bits w 55 51)]

/-- Sub-pulse `k` of a level word is well formed (R354, R355): its LEN, its end, and its place after the one before. -/
def subPulseOk (w k : Nat) : Bool :=
  let ps := subPulses w
  let p := ps.getD k (0, 0)
  let q := ps.getD (k - 1) (0, 0)
  p.2 ≤ 16 && (p.2 == 0 || p.1 + p.2 ≤ 16)
    && (if k = 0 then p.2 != 0 else p.2 == 0 || (q.2 != 0 && q.1 + q.2 ≤ p.1))

/-- Check 2 on PULSE_PATTERN (R355): each finding at the byte of its sub-pulse, or of POWER, which also stands for an X(L)
that does not rise (R51, log entry 110). -/
def Dev.check2Pulse (d : Dev) (x : Rec) : List Finding :=
  (upTo 7).flatMap (fun i =>
    let w := bodyDWord x.body 0 i
    (upTo 4).flatMap (fun k => when (!subPulseOk w k) (onRec 2 0x0506 x (16 + 8 * i + (20 + 9 * k) / 8)))
    ++ when (bits w 63 56 = 0 ∨ d.pulseX x.idx (i + 1) ≤ d.pulseX x.idx i) (onRec 2 0x0506 x (16 + 8 * i + 7)))

/-- Check 2 on LANE (R397). -/
def Dev.check2Lane (d : Dev) (x : Rec) : List Finding :=
  let l := x.idx
  let n := l / 32
  when (d.isJet n ∧ d.has .nozzleMap l ∧ x.fn .lane .NOZZLES ≠ d.nozzles l) (onField 2 0x0601 .lane x .NOZZLES)
  ++ when (x.fn .lane .KIND = 1 ∧ x.fn .lane .NOZZLES ≠ 1) (onField 2 0x0601 .lane x .NOZZLES)
  ++ when (d.stnOn n ∧ (x.fn .lane .KIND = 1) ≠ (d.isScan n = true)) (onField 2 0x0601 .lane x .KIND)

/-- Nested records with the byte of their CAL_DEFAULTS record at which each begins, the first at `off`. -/
def nestedAt : Nat → List Rec → List (Nat × Rec)
  | _, [] => []
  | off, x :: xs => (off, x) :: nestedAt (off + x.len) xs

/-- Check 2 on CAL_DEFAULTS: nested records malformed, of another station, or out of range (R400, R423); the finding names
the byte of the nested field, of a malformed record its first byte (R51). -/
def Dev.check2CalDefaults (d : Dev) (x : Rec) : List Finding :=
  let n := x.idx
  let bs := leBytes (x.len - 28) (x.body / 2 ^ 64)
  match calWalk d.node (x.len / 20 + 1) [] bs with
  | .error _ => [onRec 2 0x080C x (24 + calGood d.node (x.len / 20 + 1) [] bs)]
  | .ok xs =>
    (nestedAt 24 xs).flatMap (fun r =>
      if calStn (r.2.addr % 65536) ≠ n then [onRec 2 0x080C x (r.1 + 4)]
      else
        match d.calRecFinding xs (2 ^ n) r.2 with
        | some c => [onRec 2 c.1 x (r.1 + c.2)]
        | none => [])

/-- The loop with an index names a unit as its destination (R453, R487, R507). -/
def Dev.loopDrives (d : Dev) (lp kind i : Nat) : Bool :=
  d.has .loop lp && d.cfgN .loop lp .DST_KIND == kind && d.cfgN .loop lp .DST_IDX == i

/-- Check 2 on AXIS (R436, R437, R444, R449, R453, R457, R466, R468, R486). -/
def Dev.check2Axis (d : Dev) (x : Rec) : List Finding :=
  let a := x.idx
  let v (f : F) := x.fn .axis f
  let src := v .REF_SRC
  let mode := v .MODE
  let slow (s : Nat) : Bool :=
    d.has .sdm s && 20 * v .PWM_HALF < 15 * d.cfgN .sdm s .OSR * d.cfgN .sdm s .MCLK_DIV + 2000
  let pn := v .PHASE_STN
  when (v .VBUS_MAX_V ≤ v .VBUS_MIN_V) (onField 2 0x0901 .axis x .VBUS_MAX_V)
  ++ when (v .OC_LIMIT ≤ v .IQ_MAX) (onField 2 0x0901 .axis x .OC_LIMIT)
  ++ when (2 * v .PWM_HALF ≤ v .PWM_PHASE) (onField 2 0x0901 .axis x .PWM_PHASE)
  ++ when (v .ANGLE_SRC = 0 ∧ v .ALIGN_I = 0) (onField 2 0x0901 .axis x .ALIGN_I)
  ++ when (v .PWM_HALF * (v .LOOP_DIV_M1 + 1) < 4000) (onField 2 0x0901 .axis x .LOOP_DIV_M1)
  ++ when ((src = 1 ∧ !d.loopDrives (v .REF_IDX) 3 a) ∨ (src = 3 ∧ mode ≠ 1))
      (onField 2 0x0901 .axis x .REF_SRC)
  ++ when (mode = 3 ∧ (v .ANGLE_SRC ≠ 2 ∨ !d.isScan pn ∨ d.cfgN .stnScan pn .POLY_AXIS ≠ a))
      (onField 2 0x0902 .axis x .PHASE_STN)
  ++ when (slow (2 * a) || slow (2 * a + 1)) (onField 2 0x0903 .axis x .PWM_HALF)
  ++ when (v .SHUNT_U_AIN / 4 = v .SHUNT_V_AIN / 4) (onField 2 0x0904 .axis x .SHUNT_V_AIN)
  ++ when (v .SHUNT_U_AIN / 4 = v .SHUNT_W_AIN / 4 ∨ v .SHUNT_V_AIN / 4 = v .SHUNT_W_AIN / 4)
      (onField 2 0x0904 .axis x .SHUNT_W_AIN)
  ++ when (mode = 4 ∧ !d.has .blowerCurve a) (onField 2 0x0906 .axis x .MODE)
  ++ when (mode = 2 ∧ (d.recU .profile (uid cAXIS a)).isNone) (onField 2 0x0A03 .axis x .MODE)

/-- Check 2 on the curve of a record with 8-byte points from body byte 16: `n` used of `max`, X in `xhi`:`xlo` (R468,
R561, R592). -/
def curveFindings (code : Nat) (x : Rec) (n max xhi xlo : Nat) (bad : Nat → Bool) : List Finding :=
  let pt (i : Nat) := bodyDWord x.body 16 i
  let xAt (i : Nat) : Int := sx (xhi - xlo + 1) (bits (pt i) xhi xlo)
  (upTo (min n max)).flatMap (fun i =>
    when (0 < i ∧ xAt i ≤ xAt (i - 1)) (onRec 2 code x (32 + 8 * i + xlo / 8)) ++ when (bad (pt i)) (onRec 2 code x (32 + 8 * i)))
  ++ (upTo (max - n)).flatMap (fun j =>
      let w := pt (n + j)
      when (w ≠ 0) (onRec 2 code x (32 + 8 * (n + j) + (if w % 2 ^ xlo = 0 then xlo / 8 else 0))))

/-- Check 2 on BLOWER_CURVE (R468). -/
def Dev.check2Curve (d : Dev) (x : Rec) : List Finding :=
  when (x.fv .blowerCurve .T_ON ≤ x.fv .blowerCurve .T_OFF) (onField 2 0x0906 .blowerCurve x .T_OFF)
  ++ curveFindings 0x0906 x (x.fn .blowerCurve .POINTS) 32 63 32
      (fun p => d.cfgN .axis x.idx .W_MAX * 100 < bits p 31 0)

/-- Check 2 on STEP (R486, R493). -/
def Dev.check2Step (d : Dev) (x : Rec) : List Finding :=
  let v (f : F) := x.fn .step f
  when (v .IRUN < v .IHOLD) (onField 2 0x0A01 .step x .IHOLD)
  ++ when (v .OC_LIMIT ≤ v .IRUN) (onField 2 0x0A01 .step x .OC_LIMIT)
  ++ when (5 * v .CHOP_HALF ≤ 2 * v .SENSE_WIN_NS) (onField 2 0x0A01 .step x .SENSE_WIN_NS)
  ++ when ((d.recU .profile (uid cSTEP x.idx)).isNone) (onRec 2 0x0A03 x)

/-- Check 2 on PROFILE (R487, R491, R494). -/
def Dev.check2Profile (d : Dev) (x : Rec) : List Finding :=
  let i := x.idx
  let isStep : Bool := uclass (x.addr % 65536) == cSTEP
  when (x.fv .profile .POS_MAX ≤ x.fv .profile .POS_MIN) (onField 2 0x0A03 .profile x .POS_MIN)
  ++ when (x.fv .profile .TGT_SRC = 1 ∧ !d.loopDrives (x.fn .profile .TGT_IDX) (if isStep then 5 else 3) i)
      (onField 2 0x0A03 .profile x .TGT_SRC)
  ++ (if isStep then
        when (d.has .step i ∧
          64 * 200000000 * 2 ^ d.cfgN .step i .USTEP_LOG2 < x.fn .profile .VMAX * 256 * d.cfgN .step i .CHOP_HALF)
          (onField 2 0x0A04 .profile x .VMAX)
      else
        when (d.has .axis i ∧
          d.cfgN .axis i .W_MAX * 100 * d.cfgN .axis i .COUNTS_PER_REV < x.fn .profile .VMAX * 6000)
          (onField 2 0x0A03 .profile x .VMAX))

/-- Check 2 on MICROSTEP_TABLE (R479). -/
def check2Micro (x : Rec) : List Finding :=
  (upTo 255).flatMap (fun i =>
    when (bits x.body (16 * i + 31) (16 * i + 16) < bits x.body (16 * i + 15) (16 * i)) (onRec 2 0x0A02 x (18 + 2 * i)))

/-- Whether the destination of a loop names the loop back where R507 requires it. -/
def Dev.namedBack (d : Dev) (lp kind i : Nat) : Bool :=
  if kind = 3 then
    (d.cfgN .axis i .MODE ≤ 1 && d.cfgN .axis i .REF_SRC == 1 && d.cfgN .axis i .REF_IDX == lp)
      || (d.cfgU .profile (uid cAXIS i) .TGT_SRC == 1 && d.cfgU .profile (uid cAXIS i) .TGT_IDX == lp)
  else if kind = 5 then
    d.cfgU .profile (uid cSTEP i) .TGT_SRC == 1 && d.cfgU .profile (uid cSTEP i) .TGT_IDX == lp
  else true

/-- The units a loop drives, as (kind, index) (R507). -/
def Rec.loopDests (x : Rec) : List (Nat × Nat) :=
  let k := x.fn .loop .DST_KIND
  let i := x.fn .loop .DST_IDX
  if k = 0 then [] else if k = 4 then (upTo (x.fn .loop .DST_CNT_M1 + 1)).map (fun j => (4, i + j)) else [(k, i)]

/-- Check 2 on LOOP (R506, R507, R531). -/
def Dev.check2Loop (d : Dev) (x : Rec) : List Finding :=
  let lp := x.idx
  let i := x.fn .loop .DST_IDX
  let dests := x.loopDests
  let before := (d.own .loop).filter (fun y => y.idx < lp)
  when (x.fv .loop .OUT_MAX ≤ x.fv .loop .OUT_MIN) (onField 2 0x0B01 .loop x .OUT_MIN)
  ++ when (x.fv .loop .SAFE_OUT < x.fv .loop .OUT_MIN ∨ x.fv .loop .OUT_MAX < x.fv .loop .SAFE_OUT)
      (onField 2 0x0B01 .loop x .SAFE_OUT)
  ++ when (x.fn .loop .DIV ≤ x.fn .loop .PHASE_US) (onField 2 0x0B01 .loop x .PHASE_US)
  ++ when ((x.fn .loop .SRC_KIND = 2 ∨ x.fn .loop .SRC_KIND = 3)
        ∧ 256 < x.fn .loop .SRC_IDX + x.fn .loop .SRC_CNT_M1 + 1) (onField 2 0x0B02 .loop x .SRC_IDX)
  ++ when (x.fn .loop .DST_KIND = 4 ∧ (!d.isJet (i / 32) ∨ !dests.all (fun p => (d.lanesOf (i / 32)).contains p.2)))
      (onField 2 0x0B02 .loop x .DST_IDX)
  ++ when (!dests.all (fun p => d.namedBack lp p.1 p.2)) (onField 2 0x0B02 .loop x .DST_IDX)
  ++ when (dests.any (fun p => before.any (fun y => y.loopDests.contains p))) (onField 2 0x0B02 .loop x .DST_IDX)

/-- Check 2 on LAMP (R526, R529). -/
def check2Lamp (x : Rec) : List Finding :=
  let v (f : F) := x.fn .lamp f
  when (v .OC_MA ≤ v .OPEN_MA) (onField 2 0x0B03 .lamp x .OC_MA)
  ++ when (5 * v .DUTY_MAX * v .PERIOD_T < 2 * 65536 * v .T_DIAG_NS) (onField 2 0x0B03 .lamp x .DUTY_MAX)

/-- The highest frequency of a clock output's tap over DIV, in Hz, as a ratio (R536, R550, R551): a place PLL's DCO runs
up to 6.6 GHz (R537). -/
def Dev.clkoRate (d : Dev) (x : Rec) : Ratio :=
  let s := x.fn .clko .SOURCE
  let dv := x.fn .clko .DIV
  if x.fn .clko .TAP = 2 then (1, 1)
  else if x.fn .clko .TAP = 1 then ((d.fPixMax (s - 2)).1, (d.fPixMax (s - 2)).2 * dv)
  else (if s < 2 then 4000000000 else 6600000000, dv)

/-- The highest frequency of a format (R550). -/
def formatMax (f : Nat) : Nat :=
  if f = 0 then 800000000 else if f = 1 then 250000000 else if f = 2 then 1600000000
  else if f = 3 then 200000000 else 100000000

/-- Check 2 on CLKO (R550, R562). -/
def Dev.check2Clko (d : Dev) (x : Rec) : List Finding :=
  let v (f : F) := x.fn .clko f
  let s := v .SOURCE
  when (v .TAP = 0 ∧ v .DIV < 4) (onField 2 0x0202 .clko x .DIV)
  ++ when (v .TAP = 1 ∧ (v .DIV = 0 ∨ 65535 < v .DIV)) (onField 2 0x0202 .clko x .DIV)
  ++ when (Ratio.above (d.clkoRate x) (formatMax (v .FORMAT))) (onField 2 0x0202 .clko x .DIV)
  ++ when (v .FORMAT = 4 ∧ x.idx < 8) (onField 2 0x0202 .clko x .FORMAT)
  ++ when (v .TAP ≠ 2 ∧ s < 10 ∧ !d.unitOn (uid cPLL s)) (onField 2 0x0202 .clko x .SOURCE)
  ++ when (v .TAP = 1 ∧ (s < 2 ∨ !d.isScan (s - 2))) (onField 2 0x0202 .clko x .TAP)

/-- Check 2 on MITTEN: fingers of one mitten only, and the fingers of a twin mitten (R32, R612). -/
def Dev.check2Mitten (d : Dev) (x : Rec) : List Finding :=
  let fingers (y : Rec) := (upTo (y.fn .mitten .COUNT)).map (fun i => replaceNode d.node (bodyWord y.body 4 i))
  let before := (d.own .mitten).filter (fun y => y.addr < x.addr)
  let mine := fingers x
  let pair := [d.node, d.nodeNamed (d.cfgN .twin 0 .PARTNER_NODE)].map (· * 65536)
  let ours := x.addr / 65536 == d.node || (d.isTwin && mine.any pair.contains)
  (upTo mine.length).flatMap (fun i =>
    let a := mine.getD i 0
    when ((mine.take i).contains a || before.any (fun y => (fingers y).contains a)) (onRec 2 0x0F01 x (20 + 4 * i)))
  ++ when (x.fv .mitten .TWIN = 1 ∧ ours ∧ !(d.isTwin && mine.all pair.contains && pair.all mine.contains && mine.length == 2))
      (onField 2 0x0F01 .mitten x .TWIN)

/-- Check 2 on TWIN (R659): a REF0_NODE of 0xFFFF is the own node (R27). -/
def Dev.check2Twin (d : Dev) (x : Rec) : List Finding :=
  let p := d.nodeNamed (x.fn .twin .PARTNER_NODE)
  let fs : List F := [.REF0_NODE, .REF1_NODE, .REF2_NODE, .REF3_NODE]
  when (p = d.node) (onField 2 0x1001 .twin x .PARTNER_NODE)
  ++ (upTo 4).flatMap (fun i =>
      let r := x.fn .twin (fs.getD i .REF0_NODE)
      when ((r ≠ 0xFFFF ∧ (r = p ∨ r = d.node ∨ ((fs.take i).map (x.fn .twin)).contains r)) ∨ (i = 0 ∧ r = 0xFFFF))
        (onField 2 0x1001 .twin x (fs.getD i .REF0_NODE)))

/-- Check 2 on one enabled record beyond its ranges. -/
def Dev.check2Rec (d : Dev) (r : RT) (x : Rec) : List Finding :=
  match r with
  | .pll =>
    when (x.fn .pll .UNLOCK_TOL_PS ≤ x.fn .pll .LOCK_TOL_PS) (onField 2 0x0201 .pll x .UNLOCK_TOL_PS)
    ++ curveFindings 0x0201 x (x.fn .pll .TC_POINTS) 16 63 48 (fun p => 50000 < absI (sx 32 p))
  | .clko => d.check2Clko x
  | .time =>
    when (d.node = 0 ∧ x.fv .time .TIME_SRC ≠ 0 ∧ x.fv .time .TRANSPORT = 0) (onField 2 0x0203 .time x .TRANSPORT)
  | .stnPlace => d.check2Place x
  | .enc => check2Enc x
  | .stnJet => d.check2Jet x
  | .nozzleMap => d.check2Map x
  | .waveform => d.check2Wave x
  | .waveset => d.check2Set x
  | .spitPattern => d.check2Spit x
  | .stnScan => d.check2Scan x
  | .pulsePattern => d.check2Pulse x
  | .lane => d.check2Lane x
  | .calDefaults => d.check2CalDefaults x
  | .axis => d.check2Axis x
  | .sdm =>
    when ((d.own .sdm).any (fun y => y.addr < x.addr && y.fv .sdm .MCLK_SEL == x.fv .sdm .MCLK_SEL
        && y.fv .sdm .MCLK_DIV != x.fv .sdm .MCLK_DIV)) (onField 2 0x0905 .sdm x .MCLK_DIV)
  | .blowerCurve => d.check2Curve x
  | .step => d.check2Step x
  | .microstepTable => check2Micro x
  | .profile => d.check2Profile x
  | .loop => d.check2Loop x
  | .lamp => check2Lamp x
  | .act => when (x.fn .act .DUTY_MAX < x.fn .act .DUTY_MIN) (onField 2 0x0B04 .act x .DUTY_MIN)
  | .ain => when (x.fn .ain .ELEC_MAX ≤ x.fn .ain .ELEC_MIN) (onField 2 0x0B05 .ain x .ELEC_MIN)
  | .thermal => curveFindings 0x0C0B x (x.fn .thermal .BG_POINTS) 16 63 48 (fun _ => false)
  | .bank =>
    let load := (d.stations.filter (fun n => (d.banksOf n).contains x.idx)).foldl
      (fun (a : Ratio) n =>
        let r := d.lineRateMax n
        let p := d.planeCols n * 3 * r.1
        let q := 8 * r.2 * (d.banksOf n).length
        if q = 0 then a else (a.1 * q + p * a.2, a.2 * q)) ((0, 1) : Ratio)
    when (Ratio.above load 48000000000) (onField 2 0x0D01 .bank x .STN_MASK)
  | .xport =>
    when (4 < x.fn .xport .PEER_PORT ∧ x.fn .xport .PEER_PORT ≠ 255) (onField 2 0x0F01 .xport x .PEER_PORT)
    ++ when ((x.fv .xport .ROLE = 2) ≠ (x.idx = 4)) (onField 2 0x0F01 .xport x .ROLE)
  | .mitten => d.check2Mitten x
  | .twin => d.check2Twin x
  | .referee => when (x.fv .referee .FENCE_LO = x.fv .referee .FENCE_HI) (onField 2 0x1002 .referee x .FENCE_HI)
  | .node =>
    when ((d.own .bank).foldl (fun a y => a + y.fn .bank .SYS_BANDS) 0 < 16) (onRec 2 0x0D02 x)
  | .stitchMask => d.check2Stitch x
  | .cue | .facetDelay | .sos | .health | .testPattern | .domain | .dma | .host | .fabric | .startup => []

/-- Check 2: every field and cross-field range holds (R105). -/
def Dev.check2 (d : Dev) : List Finding :=
  RT.all.flatMap (fun r => (d.own r).flatMap (fun x => r.ranges x ++ d.check2Rec r x))

/-- What a record claims for itself alone: kinds 0 encoders, 1 analog inputs, 2 FENCE_OUT lines, 3 to 7 the outputs that a
loop drives, by DST_KIND (R105, R445, R507, R660). -/
def Rec.claims (x : Rec) (r : RT) : List (Nat × Nat) :=
  match r with
  | .stnPlace =>
    [(0, x.fn .stnPlace .PRI_ENC)] ++ (if x.fv .stnPlace .SEC_EN = 1 then [(0, x.fn .stnPlace .SEC_ENC)] else [])
  | .axis =>
    (if x.fn .axis .ANGLE_SRC ≠ 1 then [(0, x.fn .axis .ENC)] else [])
    ++ (if x.fn .axis .ANGLE_SRC ≠ 0 then [(0, x.fn .axis .HALL_ENC)] else [])
    ++ [(1, x.fn .axis .SHUNT_U_AIN), (1, x.fn .axis .SHUNT_V_AIN), (1, x.fn .axis .SHUNT_W_AIN),
        (1, x.fn .axis .VBUS_AIN)]
  | .step =>
    (if x.fn .step .STEP_PER_COUNT ≠ 0 then [(0, x.fn .step .ENC)] else [])
    ++ [(1, x.fn .step .SENSE_A_AIN), (1, x.fn .step .SENSE_B_AIN)]
  | .lamp => [(1, x.fn .lamp .SENSE_AIN)]
  | .referee => [(2, x.fn .referee .FENCE_LO), (2, x.fn .referee .FENCE_HI)]
  | .loop => x.loopDests.map (fun p => (2 + p.1, p.2))
  | _ => []

/-- Check 3: a resource claimed by two records is a finding on the later one, with the other party in DETAIL. -/
def Dev.check3 (d : Dev) : List Finding :=
  let all : List (Rec × List (Nat × Nat)) :=
    [RT.stnPlace, .axis, .step, .loop, .lamp, .referee].flatMap (fun r => (d.own r).map (fun x => (x, x.claims r)))
  (upTo all.length).flatMap (fun i =>
    match all[i]? with
    | none => []
    | some (x, cl) =>
      (cl.eraseDups).flatMap (fun c =>
        match (all.take i).find? (fun y => y.2.contains c) with
        | some y => [onRec 3 0x0122 x y.1.addr]
        | none => when (1 < cl.count c) (onRec 3 0x0122 x x.addr)))
  ++ (d.own .axis).flatMap (fun x =>
      when (x.fn .axis .ANGLE_SRC ≠ 0 ∧ d.has .enc (x.fn .axis .HALL_ENC))
        (onRec 3 0x0122 x (d.addr (uid cENC (x.fn .axis .HALL_ENC)))))

/-- The fingers that are mittens of a mitten address, over every MITTEN record of the image. -/
def Dev.subMittens (d : Dev) (a : Nat) : List Nat :=
  match d.boot.image.recs.find? (fun y => y.typ == RT.mitten.code && y.enable && y.addr == a) with
  | none => []
  | some y =>
    ((upTo (y.fn .mitten .COUNT)).map (fun i => replaceNode d.node (bodyWord y.body 4 i))).filter
      (fun f => uclass (f % 65536) == cMITTEN)

/-- Levels of mittens from an address down, at most `fuel`. -/
def Dev.mittenDepth (d : Dev) : Nat → Nat → Nat
  | 0, _ => 0
  | fuel + 1, a => 1 + ((d.subMittens a).map (d.mittenDepth fuel)).foldl max 0

/-- The mittens beneath those of a list, at most `fuel` levels further down. -/
def Dev.mittensBelow (d : Dev) : Nat → List Nat → List Nat
  | 0, as => as
  | fuel + 1, as => d.mittensBelow fuel (as ++ as.flatMap d.subMittens).eraseDups

/-- Check 4: mittens are acyclic and at most 8 levels deep (R32). -/
def Dev.check4 (d : Dev) : List Finding :=
  let ms := d.boot.image.recs.filter (fun x => x.typ == RT.mitten.code && x.enable)
  ms.flatMap (fun x =>
    if (d.mittensBelow ms.length (d.subMittens x.addr)).contains x.addr then [onRec 4 0x0123 x]
    else when (8 < d.mittenDepth 9 x.addr) (onRec 4 0x0124 x))

/-- Check 5: every user PLL reaches its output (R538). -/
def Dev.check5 (d : Dev) : List Finding :=
  (d.own .stnPlace).flatMap (fun x =>
    let r := d.lineRateMax x.idx
    when (d.isJet x.idx ∧ (Ratio.below (d.countRateMax x.idx) 2500 || Ratio.below (r.1 * 256, r.2) 50))
      (onField 5 0x1110 .stnPlace x .VMAX_MM_S))
  ++ (d.own .stnScan).flatMap (fun x =>
      let r := d.lineRateMax x.idx
      when (Ratio.below (r.1, r.2 * d.beams x.idx) 2500) (onField 5 0x1110 .stnScan x .BEAMS))

/-- A sum of fractions. -/
def sumRatio (xs : List Ratio) : Ratio := xs.foldl (fun a b => (a.1 * b.2 + b.1 * a.2, a.2 * b.2)) (0, 1)

/-- Check 7: the budgets of loops and axes; one finding on the NODE record for either or both (log entry 106). -/
def Dev.check7 (d : Dev) : List Finding :=
  let loops := sumRatio ((d.own .loop).map (fun x => (1000000, max 1 (x.fn .loop .DIV))))
  let axes := sumRatio ((d.own .axis).map (fun x =>
    (200 * 200000000, max 1 (x.fn .axis .PWM_HALF * (x.fn .axis .LOOP_DIV_M1 + 1)))))
  (d.own .node).flatMap (fun x =>
    when (Ratio.above loops 8000000 || Ratio.above axes 400000000) (onRec 7 0x1111 x))

/-- Check 8: duty limits are nonzero (R349). -/
def Dev.check8 (d : Dev) : List Finding :=
  let z (r : RT) (f : F) := (d.own r).flatMap (fun x => when (x.fv r f = 0) (onField 8 0x1112 r x f))
  z .stnJet .HEAD_E_MAX ++ z .stnJet .DUTY_M ++ z .stnScan .STN_E_MAX ++ z .stnScan .BEAM_ON_MAX
    ++ z .lamp .DUTY_MAX ++ z .act .DUTY_MAX

/-- The record named after a unit's class (R109). -/
def Dev.unitRec (d : Dev) (u : Nat) : Option Rec :=
  let i := uindex u
  if u = uNODE then d.recI .node 0
  else if uclass u = cSTN then (match d.recI .stnJet i with | some x => some x | none => d.recI .stnScan i)
  else if u = uTEMP then d.recI .thermal 0
  else d.boot.image.recs.find? (fun x =>
    x.enable && x.addr == d.addr u && [RT.lane, .axis, .step, .loop, .lamp, .act, .pll, .clko, .enc, .cue, .ain, .dma,
      .bank, .xport, .mitten, .domain, .sdm, .sos].any (fun r => r.code == x.typ))

/-- A live finding on a unit (R109). -/
def Dev.live (d : Dev) (c code u detail : Nat) : Finding :=
  match d.unitRec u with
  | some x => { check := c, code := code, unit := d.addr u, typ := x.typ, label := x.label, detail := detail }
  | none => { check := c, code := code, unit := d.addr u, detail := detail }

/-- The domain a unit lies in, if it lies in switched logic (R684). -/
def Dev.domainOf (d : Dev) (u : Nat) : Option Nat :=
  let i := uindex u
  let c := uclass u
  if c = cLANE then some (i / 4)
  else if c = cSTN then some (64 + i)
  else if c = cBANK then some (72 + i / 2)
  else if c = cDMA then some 127
  else if c = cAXIS then some (89 + i / 6)
  else if c = cSDM then some (89 + i / 12)
  else if c = cSTEP then some (93 + i / 4)
  else if c = cAIN then some (97 + i / 16)
  else if c = cLOOP then some 107
  else if c = cLAMP ∨ c = cACT then some 108
  else if c = cPLL then some (116 + i)
  else if c = cCLKO then some (116 + d.cfgN .clko i .SOURCE)
  else if c = cXPORT then some (111 + i)
  else none

/-- Check 9: the domains of the enabled units are good (R684). -/
def Dev.check9 (d : Dev) : List Finding :=
  ((d.unitsOn.filterMap d.domainOf).eraseDups.filter (fun k => !(d.dom.at k).good)).map
    (fun k => d.live 9 0x1104 (uid cDOMAIN k) 0)

/-- The analog inputs loops read, as source or as set-point (R500, R508). -/
def Dev.loopInputs (d : Dev) : List Nat :=
  ((d.own .loop).filter (fun x => x.fn .loop .SRC_KIND = 0)).map (fun x => x.fn .loop .SRC_IDX)
    ++ ((d.own .loop).filter (fun x => x.fn .loop .SP_SRC = 1)).map (fun x => x.fn .loop .SP_IDX)

/-- Check 10: no enabled input is open or shorted, and no analog input of a loop is outside its electrical range; `bad`
are the units whose inputs show an open or a short as the check runs. -/
def Dev.check10 (d : Dev) (bad : List Nat) : List Finding :=
  (d.unitsOn.filter (fun u =>
      let c := uclass u
      ((c == cENC || c == cCUE || c == cSOS || c == cSDM) && bad.contains u)
      || (c == cAIN && d.loopInputs.contains (uindex u) && (8 ≤ (d.ain.at (uindex u)).outs || bad.contains u)))).map
    (fun u => d.live 10 0x1116 u 0)

/-- Whether an executor's HELLO fits the LANE record and its station (R284, R319, R344, R397). -/
def Dev.helloOk (d : Dev) (l : Nat) (h : HelloFrame) : Bool :=
  let n := l / 32
  h.kind.toNat == d.cfgN .lane l .KIND && h.nozzles.toNat == d.cfgN .lane l .NOZZLES
    && d.cfgN .lane l .BUF_MIN ≤ h.bufBlocks.toNat
    && (!d.isJet n || h.headType.toNat == d.cfgN .stnJet n .HEAD_TYPE)
    && (!(d.isScan n && (d.lanesOf n).contains l) ||
        (let f := d.fPixMax n
         let setup := 14100 + 4 * blockCns (d.lane.at l).low + 100 * h.tSetupNs.toNat
         let sp := d.cfgN .stnScan n .SWEEP_PIXELS
         let full := ceilDiv sp 16384
         let blocks := (upTo full).foldl (fun a s => a + 6 + ceilDiv (3 * min 16384 (sp - 16384 * s)) 64) 0
         setup * f.1 ≤ (d.cfgN .stnScan n .SOS_TO_IMAGE - 128) * 100000000000 * f.2
           && 2 * blocks ≤ h.bufBlocks.toNat))

/-- Check 11: lanes and their executors, with a HELLO within LIVE_WAIT_MS of the start of the gauntlet (R105, R397). -/
def Dev.check11 (d : Dev) : List Finding :=
  ((upTo 256).filter (d.has .lane)).flatMap (fun l =>
    let x := d.lane.at l
    match x.up && x.helloAt ≤ d.eng.gauntletAt + msq (d.cfgN .startup 0 .LIVE_WAIT_MS), x.hello with
    | true, some h => when (!d.helloOk l h) (d.live 11 0x1115 (uid cLANE l) 0)
    | _, _ => [d.live 11 0x1114 (uid cLANE l) 0])

/-- Check 12: the node id is unique; in a twin, the partner, a referee and the images (R66, R91, R93). A TWIN flag of 0
beside an enabled TWIN record is that of a pair whose images do not fit; so is that of a partner whose lining link is up
and which has sent no PAIR (R66, log entry 21). -/
def Dev.check12 (d : Dev) : List Finding :=
  when d.fab.dup (d.live 12 0x1108 uNODE (d.addr uNODE))
  ++ (if !d.isTwin then when (d.has .twin 0) (d.live 12 0x0117 uNODE 0)
      else
        when (d.twin.alone || !d.twin.paired) (d.live 12 0x110A uNODE 0)
        ++ when (d.twin.alone && !d.twin.met && (d.fab.ports.at 4).up) (d.live 12 0x0117 uNODE 0)
        ++ when (d.refs.all (fun r => !d.reaches r)) (d.live 12 0x1117 uNODE 0)
        ++ (if d.twin.paired ∧ !d.twin.alone then
              (if d.twin.partnerCompat ≠ d.hdr 351 320 then [d.live 12 0x0117 uNODE 0]
               else when (d.twin.partnerPairCrc != d.hdr 383 352) (d.live 12 0x0116 uNODE 0))
            else []))

/-- The order of R106 within a check. -/
def Finding.le (a b : Finding) : Bool :=
  a.typ < b.typ || (a.typ == b.typ && (a.unit < b.unit || (a.unit == b.unit && (a.detail < b.detail
    || (a.detail == b.detail && a.code ≤ b.code)))))

/-- Every finding of the gauntlet, in the order of R106. -/
def Dev.gauntlet (d : Dev) (bad : List Nat) : List Finding :=
  [d.check1, d.check2, d.check3, d.check4, d.check5, d.check7, d.check8, d.check9, d.check10 bad, d.check11,
    d.check12].flatMap (isort Finding.le)

/-- An entry of the refusal report (R109). -/
def Finding.entry (f : Finding) : BitVec 128 :=
  BitVec.ofNat 128 (put 96 (f.detail % 2 ^ 32) + put 64 (f.unit % 2 ^ 32) + put 48 (f.code % 65536)
    + put 32 (f.label % 65536) + put 16 (f.typ % 65536) + put 8 (f.check % 256) + put 4 (kindOf f.code).severity)

end Sys2Proof.Machine
end

