-- ==== Sys2Proof/Machine/Boot.lean ====
section
/-! DEFINITION. Supplies, release, reset, loading of the image, the power-on sequence, standby and the fuses (R42 to R87,
R581 to R591, R683). -/

namespace Sys2Proof.Machine

/-- The device in the release condition of R80: everything reset but the AON island, the flash, the fuses and the levels
outside drives on its pins. What it has put on its interfaces stands. -/
def Dev.resetAll (d : Dev) : Dev :=
  { clk := { now := d.clk.now, rank := d.clk.rank }
    boot :=
      { flash0 := d.boot.flash0, flash1 := d.boot.flash1, keyHash := d.boot.keyHash, enforce := d.boot.enforce
        brownout := d.boot.brownout, vstby := d.boot.vstby, scratch := d.boot.scratch, cause := d.boot.cause
        wakeHeld := d.boot.wakeHeld }
    pins := { fenceLow := d.pins.fenceLow, engage := d.pins.engage, supply := d.pins.supply }
    host := { out := d.host.out }
    free := d.free }

/-- The pin groups on VIO18 (R663). -/
def vio18Banks : BitVec 13 :=
  bankMask .encoders ||| bankMask .sos ||| bankMask .sigmaDelta ||| bankMask .clockLow ||| bankMask .systemClock
    ||| bankMask .flash ||| bankMask .test

/-- Main rails: without one of them SPINE cannot run or reach the flash (R76). -/
def railMain : Rail → Bool
  | .vdd => true
  | .vddm => true
  | .vdda => true
  | .vio18 => true
  | .vddl => false
  | .vddh => false
  | .vio33 => false
  | .vstby => false

/-- The bank supplies left when a rail is lost (R78, R663). -/
def railLeft (r : Rail) (s : BitVec 13) : BitVec 13 :=
  match r with
  | .vio18 => s &&& ~~~vio18Banks
  | .vio33 => s &&& vio18Banks
  | .vdd => s
  | .vddm => s
  | .vddl => s
  | .vddh => s
  | .vdda => s
  | .vstby => s

/-- The enabled units that lie in a domain (R684). -/
def Dev.unitsIn (d : Dev) (k : Nat) : List Nat := d.unitsOn.filter (fun u => d.domainOf u == some k)

/-- A domain is powered at its step: it counts as good unless its 100 us pass without it (R83, R84, log entry 24). Its
units become IDLE, its lanes and ports train. -/
def Dev.domUp (k : Nat) (d : Dev) : Dev :=
  let d := { d with
    dom := d.dom.upd k (fun x => { x with on := true, good := true, since := d.clk.now })
    temp := { d.temp with switchAt := d.clk.now } }
  let d := d.rest (uid cDOMAIN k) .run
  let us := d.unitsIn k
  let d := us.foldl (fun d u => d.rest u .idle) d
  us.foldl
    (fun d u =>
      if uclass u = cLANE then
        (d.updLane (uindex u) (fun l => { l with training := true, trainAt := d.clk.now, low := d.quadForceLow (uindex u) })).emit
          (.train (uindex u) 0 (d.quadForceLow (uindex u)))
      else if uclass u = cXPORT then
        (d.updPort (uindex u) (fun p => { p with training := true })).emit (.trainPort (uindex u))
      else d) d

/-- A domain is switched off; its on-time is counted (R593). -/
def Dev.domDown (k : Nat) (d : Dev) : Dev :=
  { d with
    dom := d.dom.upd k (fun x =>
      { x with on := false, good := false, onTotal := x.onTotal + (if x.on then d.clk.now - x.since else 0) })
    temp := { d.temp with switchAt := d.clk.now } }

/-- Whether an analog input has an enabled AIN record or is named by another enabled unit (R584). -/
def Dev.ainUsed (d : Dev) (i : Nat) : Bool :=
  d.has .ain i
    || (d.own .axis).any (fun x => x.fn .axis .SHUNT_U_AIN == i || x.fn .axis .SHUNT_V_AIN == i
        || x.fn .axis .SHUNT_W_AIN == i || x.fn .axis .VBUS_AIN == i
        || (x.fn .axis .MODE ≤ 1 && x.fn .axis .REF_SRC == 2 && x.fn .axis .REF_IDX == i))
    || (d.own .blowerCurve).any (fun x => x.fn .blowerCurve .IN_SRC == 0 && x.fn .blowerCurve .IN_IDX == i)
    || (d.own .step).any (fun x => x.fn .step .SENSE_A_AIN == i || x.fn .step .SENSE_B_AIN == i)
    || (d.own .profile).any (fun x => x.fn .profile .TGT_SRC == 2 && x.fn .profile .TGT_IDX == i)
    || (d.own .loop).any (fun x => (x.fn .loop .SRC_KIND == 0 && x.fn .loop .SRC_IDX == i)
        || (x.fn .loop .SP_SRC == 1 && x.fn .loop .SP_IDX == i))
    || (d.own .lamp).any (fun x => x.fn .lamp .SENSE_AIN == i)

/-- Whether a domain is on under its condition or its FORCE_ON (R584). -/
def Dev.domWanted (d : Dev) (k : Nat) : Bool :=
  d.cfgB .domain k .FORCE_ON
    || (if k < 64 then (upTo 4).any (fun i => d.has .lane (4 * k + i))
      else if k < 72 then d.stnOn (k - 64)
      else if k < 88 then d.has .bank (2 * (k - 72)) || d.has .bank (2 * (k - 72) + 1)
      else if k = 88 then true
      else if k < 93 then (upTo 6).any (fun i => d.has .axis (6 * (k - 89) + i))
        || (upTo 12).any (fun i => d.has .sdm (12 * (k - 89) + i))
      else if k < 97 then (upTo 4).any (fun i => d.has .step (4 * (k - 93) + i))
      else if k < 107 then (upTo 16).any (fun i => d.ainUsed (16 * (k - 97) + i))
      else if k = 107 then d.own .loop != []
      else if k = 108 then d.own .lamp != [] || d.own .act != []
      else if k = 109 then true
      else if k = 110 then d.cfgN .time 0 .TIME_SRC == 1 || d.cfgN .time 0 .TIME_SRC == 2
      else if k < 115 then d.has .xport (k - 111)
      else if k = 115 then d.has .twin 0
      else if k < 118 then true
      else if k < 126 then d.stnOn (k - 118)
      else true)

/-- The domains in the group order of R83; the table-memory and DMA domains are powered first under R82. -/
def domOrder : List Nat :=
  (upTo 10).map (116 + ·) ++ [126] ++ (upTo 16).map (72 + ·) ++ [109, 110] ++ (upTo 4).map (111 + ·) ++ [115]
    ++ (upTo 8).map (64 + ·) ++ upTo 64 ++ (upTo 8).map (89 + ·) ++ (upTo 10).map (97 + ·) ++ [107, 108]

/-- The domains a step still has to power. -/
def Dev.domPlan (d : Dev) : List Nat := domOrder.filter (fun k => d.domWanted k && !(d.dom.at k).on)

/-- Weight of a domain in the steps (R83). -/
def Dev.domWeight (d : Dev) (k : Nat) : Nat := d.cfgN .domain k .WEIGHT_M1 + 1

/-- How many domains of the queue the next step takes: the first, and those after it within `max` (R83). -/
def takeStep (weight : Nat → Nat) (max : Nat) : Nat → List Nat → Nat
  | _, [] => 0
  | sum, k :: ks => if sum = 0 ∨ sum + weight k ≤ max then 1 + takeStep weight max (sum + weight k) ks else 0

/-- The units in unswitched logic, and those whose domain has been on since the release, become IDLE (R53, R82, R684). -/
def Dev.unswitchedUp (d : Dev) : Dev :=
  let us := d.unitsOn.filter (fun u => uclass u = cENC || uclass u = cCUE || uclass u = cSOS || uclass u = cMITTEN)
  let us := us ++ (d.dom.filter (fun x => x.2.on)).flatMap (fun x => d.unitsIn x.1)
  us.foldl (fun d u => d.rest u .idle) (d.rest uNODE .idle)

/-- Boot recovery (R65, R585, R683). Where a forced slot fails at its header, 0x0112 stands after the codes of both headers
(DESIGN CHOICE, log entry 65). -/
def Dev.recover (d : Dev) : Dev :=
  let d := if d.boot.bootsel = 1 ∨ d.boot.bootsel = 2 then d.report uNODE 0x0112 else d
  let d := d.report uNODE 0x0113
  let d := { d with
    boot := { d.boot with stage := .recovery, recovery := true }
    pins := { d.pins with faultLow := true } }
  [88, 127, 109].foldl (fun d k => d.domUp k) d

/-- The slots still to be tried; the first of them is read (R46, R62). -/
def Dev.trySlots (order : List Nat) (d : Dev) : Dev :=
  let d := { d with boot := { d.boot with trySlots := order } }
  match order with
  | [] => d.recover
  | slot :: _ => d.readSlot slot

/-- SPINE_RELEASE: with the device in the release condition, SPINE resets each flash, applies the reset state of the
supplied banks, powers the table-memory and DMA domains, which run from the boot clock, reads both headers and chooses
(R45, R47, R62, R78, R80, R82, R683); `answers` are the flashes that answer its reads (R45). TEMP converts from now on
(R566). A brownout owed is reported with 0x1109 (R81), a wake request with 0x0C0F (R590). -/
def actSpineRelease (t : Nat) (bootsel answers : BitVec 2) (d : Dev) : Dev :=
  let d := d.enter t 7
  if d.boot.stage ≠ .unpowered then d
  else
    let supply := d.pins.supply ||| vio18Banks
    let d := { d with
      boot := { d.boot with stage := .released, bootsel := bootsel, answers := answers, releasedAt := d.clk.now }
      pins := { d.pins with supply := supply, banks := supply } }
    let d := flashResets.foldl (fun d o => d.emit o) d
    let d := if d.boot.wakeHeld then
        ({ d with boot := { d.boot with wakeHeld := false } }).report uNODE 0x0C0F else d
    let d := if d.boot.brownout then
        ({ d with boot := { d.boot with brownout := false } }).report uNODE 0x1109 else d
    let d := [88, 127].foldl (fun d k => d.domUp k) (d.rest uTEMP .run)
    let d := (d.emit (headerRead 0)).emit (headerRead 1)
    let h0 := d.boot.slotHeader 0
    let h1 := d.boot.slotHeader 1
    let c0 := headerCheck h0
    let c1 := headerCheck h1
    let d := match c0 with | some c => d.report uNODE c | none => d
    let d := match c1 with | some c => d.report uNODE c | none => d
    d.trySlots (slotOrder bootsel.toNat c0.isNone c1.isNone (hdrGen (leNat h0)) (hdrGen (leNat h1)))

/-- SPINE_RELEASE (R80). -/
def execSpineRelease (t : Nat) (x : SpineStart) (s : State) : Host.Outcome State Fault Refusal :=
  .next { s with dev := actSpineRelease t x.bootsel x.answers s.dev }

/-- RST_N: a low pulse of at least 1 us abandons a gauntlet with 0x1119 and resets everything except the AON island, which
records cause 4 (R80, R99, R591, R670). -/
def actRstN (t lowNs : Nat) (d : Dev) : Dev :=
  let d := d.enter t 1
  if lowNs < 1000 then d
  else
    let d := d.abandon
    { d.resetAll with boot := { d.resetAll.boot with cause := if d.boot.vstby then 4 else d.boot.cause } }

/-- RST_N (R80). -/
def execRstN (t lowNs : Nat) (s : State) : Host.Outcome State Fault Refusal :=
  .next { s with dev := actRstN t lowNs s.dev }

/-- The device has reached READY since its release. -/
def Boot.ran (b : Boot) : Bool := b.stage == .up || b.stage == .critical

/-- BROWNOUT: a main rail leaves its range before READY, also between the reset and the release; back to the release
condition, 0x1109 owed (R81). -/
def actBrownout (t : Nat) (r : Rail) (d : Dev) : Dev :=
  let d := d.enter t 1
  if !railMain r ∨ d.boot.ran then d
  else
    let d := { d.resetAll with boot := { d.resetAll.boot with brownout := true } }
    { d with pins := { d.pins with supply := railLeft r d.pins.supply } }

/-- BROWNOUT (R81). -/
def execBrownout (t : Nat) (r : Rail) (s : State) : Host.Outcome State Fault Refusal :=
  .next { s with dev := actBrownout t r s.dev }

/-- The shutdown cause of a supply loss (R591). -/
def causeCode : SupplyCause → BitVec 8
  | .rail _ => 1
  | .difference => 2

/-- SUPPLY_LOSS after READY: outputs safe, pages in MARKING aborted, 0x0C09, the cause recorded, and back to the release
condition (R582). -/
def actSupplyLoss (t : Nat) (c : SupplyCause) (d : Dev) : Dev :=
  let d := d.enter t 1
  if !d.boot.ran then d
  else
    let d := ((d.outputsSafe).abortAll).report uNODE 0x0C09 (some .fault)
    let d := { d.resetAll with boot := { d.resetAll.boot with cause := if d.boot.vstby then causeCode c else d.boot.cause } }
    match c with
    | .rail r => { d with pins := { d.pins with supply := railLeft r d.pins.supply } }
    | .difference => d

/-- SUPPLY_LOSS (R582). -/
def execSupplyLoss (t : Nat) (c : SupplyCause) (s : State) : Host.Outcome State Fault Refusal :=
  .next { s with dev := actSupplyLoss t c s.dev }

/-- WAKE_REQUEST: WAKE_N low for at least 100 us is recorded with 0x0C0F; AON holds WAKE_N low until the main rails are
good (R590). -/
def actWakeRequest (t lowUs : Nat) (d : Dev) : Dev :=
  let d := d.enter t 7
  if lowUs < 100 ∨ !d.boot.vstby then d
  else if d.boot.stage = .unpowered then { d with boot := { d.boot with wakeHeld := true } }
  else d.report uNODE 0x0C0F

/-- WAKE_REQUEST (R590). -/
def execWakeRequest (t lowUs : Nat) (s : State) : Host.Outcome State Fault Refusal :=
  .next { s with dev := actWakeRequest t lowUs s.dev }

/-- Reports made before the node id was known take it (R27, log entry 25). -/
def Dev.nameKept (d : Dev) : Dev :=
  { d with host := { d.host with
      keptEq := d.host.keptEq.map (fun e => { e with unit := replaceNode d.node e.unit }) } }

/-- A device that comes out of reset under a low FENCE_N is FENCED as soon as the pin's bank is up (R78, R643, R647). -/
def Dev.fencedAtReset (d : Dev) : Dev :=
  if d.boot.loaded && d.pins.fenceLow && d.bankUp .control then
    let d := d.fenceNow
    { d with twin := { d.twin with resetFenced := true } }
  else d

/-- Clock outputs rest at their PARK level until their PLL has first locked (R551). -/
def Dev.clkoRest (d : Dev) : Dev :=
  ((upTo 16).filter (d.has .clko)).foldl (fun d i => { d with clko := d.clko.set i { level := d.cfgB .clko i .PARK } }) d

/-- An image becomes effective (R63): the calibration store loads (R422), field outputs take their configured safe states
(R87), and the domains are planned (R83). A slot loaded after a failure is reported last (log entry 103). A device that
sees FENCE_N low, on a bank that is up, is FENCED (R78, R643). -/
def Dev.imageUp (slot : Nat) (img : Image) (info : Option Nat) (d : Dev) : Dev :=
  let fell := d.boot.fellBack
  let d := ({ d with
    boot := { d.boot with loaded := true, image := img, slot := slot, stage := .stepping, trySlots := [] } }).nameKept
  let d := match info with | some c => d.report uNODE c | none => d
  let d := if fell then d.report uNODE 0x011C else d
  let d := d.calLoad.unswitchedUp.outputsSafe.clkoRest
  let d := { d with boot := { d.boot with domQueue := d.domPlan, stepOnce := false } }
  d.fencedAtReset

/-- IMAGE_LOAD_DONE: the full check of the chosen slot; on a failure the other slot follows, or boot recovery (R62, R63,
R65). -/
def actImageLoadDone (t : Nat) (d : Dev) : Dev :=
  let d := d.enter t 7
  match d.boot.stage, d.boot.trySlots with
  | .released, slot :: rest =>
    match fullCheck d.boot.fuses (d.boot.slotImage slot) with
    | .ok (img, info) => d.imageUp slot img info
    | .error c =>
      -- under 0b01 and 0b10 `slotOrder` names one slot only
      (({ d with boot := { d.boot with fellBack := true } }).report uNODE c).trySlots rest
  | _, _ => d

/-- IMAGE_LOAD_DONE (R63). -/
def execImageLoadDone (t : Nat) (s : State) : Host.Outcome State Fault Refusal :=
  .next { s with dev := actImageLoadDone t s.dev }

/-- DOMAIN_STEP_US has passed since the latest step, if there was one (R83). -/
def Boot.stepDue (b : Boot) (now us : Nat) : Bool := !b.stepOnce || b.stepAt + usq us ≤ now

/-- DOMAIN_STEP: the next domains of the order are powered, within DOMAIN_STEP_MAX, DOMAIN_STEP_US after those before
(R83). -/
def actDomainStep (t : Nat) (d : Dev) : Dev :=
  let d := d.enter t 7
  if d.boot.stage ≠ .stepping ∨ !d.boot.stepDue d.clk.now (d.cfgN .startup 0 .DOMAIN_STEP_US) then d
  else
    let n := takeStep d.domWeight (d.cfgN .startup 0 .DOMAIN_STEP_MAX) 0 d.boot.domQueue
    let d := (d.boot.domQueue.take n).foldl (fun d k => d.domUp k) d
    let q := d.boot.domQueue.drop n
    { d with boot := { d.boot with
        domQueue := q, stepAt := d.clk.now, stepOnce := true, stepped := q == [], stage := if q = [] then .locking else .stepping } }

/-- DOMAIN_STEP (R83). -/
def execDomainStep (t : Nat) (s : State) : Host.Outcome State Fault Refusal :=
  .next { s with dev := actDomainStep t s.dev }

/-- DOMAIN_GOOD_TIMEOUT: a domain not good within 100 us of its step is left off, in FAULT with 0x1104, and its units stay
OFF (R84). -/
def actDomainGoodTimeout (t k : Nat) (d : Dev) : Dev :=
  let d := d.enter t 7
  if d.boot.ran ∨ !(d.dom.at k).on ∨ d.clk.now < (d.dom.at k).since + usq 100 then d
  else
    let us := d.unitsIn k
    let d := d.domDown k
    let d := { d with
      units := us.foldl (fun t u => t.del u) d.units
      lane := us.foldl (fun t u => if uclass u = cLANE then t.del (uindex u) else t) d.lane
      fab := { d.fab with ports := us.foldl (fun t u => if uclass u = cXPORT then t.del (uindex u) else t) d.fab.ports } }
    d.report (uid cDOMAIN k) 0x1104 (some .fault)

/-- DOMAIN_GOOD_TIMEOUT (R84). -/
def execDomainGoodTimeout (t : Nat) (dom : Fin 128) (s : State) : Host.Outcome State Fault Refusal :=
  .next { s with dev := actDomainGoodTimeout t dom.val s.dev }

/-- VSTBY_APPLIED: the AON island starts and records cause 0 (R77, R591). -/
def actVstbyApplied (t : Nat) (d : Dev) : Dev :=
  let d := d.enter t 7
  { d with boot := { d.boot with vstby := true, cause := 0 } }

/-- VSTBY_APPLIED (R591). -/
def execVstbyApplied (t : Nat) (s : State) : Host.Outcome State Fault Refusal :=
  .next { s with dev := actVstbyApplied t s.dev }

/-- VSTBY_LOST clears the wake function, the retained scratch word and the shutdown cause (R589). -/
def actVstbyLost (t : Nat) (d : Dev) : Dev :=
  let d := d.enter t 7
  { d with boot := { d.boot with vstby := false, scratch := 0, cause := 0, wakeHeld := false } }

/-- VSTBY_LOST (R589). -/
def execVstbyLost (t : Nat) (s : State) : Host.Outcome State Fault Refusal :=
  .next { s with dev := actVstbyLost t s.dev }

/-- FUSE_PROGRAMMING: each fuse is programmed once, ENFORCE not while KEY_HASH is all zeros (R61). -/
def actFuseProgramming (t : Nat) (c : FuseCommand) (d : Dev) : Dev :=
  let d := d.enter t 7
  match c with
  | .keyHash h => if d.boot.keyHash = 0 then { d with boot := { d.boot with keyHash := h } } else d
  | .enforce => if d.boot.keyHash = 0 then d else { d with boot := { d.boot with enforce := true } }

/-- FUSE_PROGRAMMING (R61). -/
def execFuseProgramming (t : Nat) (c : FuseCommand) (s : State) : Host.Outcome State Fault Refusal :=
  .next { s with dev := actFuseProgramming t c s.dev }

end Sys2Proof.Machine
end

