-- ==== Sys2Proof/Machine/MarkLink.lean ====
section
/-! DEFINITION. The mark link (R359 to R399): training, frames and their numbers, credits, ARM items, executor time, and
lanes that go down. -/

namespace Sys2Proof.Machine

/-- `a` equals `b` or follows it modulo 2^32 (R382). -/
def seqAfter (a b : Nat) : Bool := (a + 4294967296 - b % 4294967296) % 4294967296 < 2147483648

/-- The lane carries frames: UP, HELLO received, the device not FENCED (R364, R384, R643). -/
def Dev.laneOpen (d : Dev) (l : Nat) : Bool :=
  (d.lane.at l).up && (d.lane.at l).hello.isSome && d.ust (uid cLANE l) != .fenced

/-- The lane is fit for pages: open, and not in FAULT (R365, R387, R395) but for that of R290, in which the lane fires
until its nozzles are OUT. -/
def Dev.laneReady (d : Dev) (l : Nat) : Bool :=
  d.laneOpen l && (d.ust (uid cLANE l) != .fault || (d.lane.at l).allOut.isSome)

/-- The own frames of a lane mark: it is ready and has rejoined (R393, R395). -/
def Dev.laneMarks (d : Dev) (l : Nat) : Bool := d.laneReady l && !(d.lane.at l).outOfUse

/-- The lane takes part in marking: by its own frames, or by the partner's (R393, R395, R396). -/
def Dev.laneUsable (d : Dev) (l : Nat) : Bool := d.laneMarks l || (d.lane.at l).viaPartner

/-- The partner carries a lane (R396): its frames leave no trace on the own wire. -/
def Dev.carried (d : Dev) (l : Nat) : Bool := (d.lane.at l).viaPartner && !d.laneMarks l

/-- AVAIL of a lane (R384). -/
def Lane.avail (x : Lane) : Int :=
  match x.hello with
  | some h => (h.bufBlocks.toNat : Int) - ((x.sent : Int) - (x.returned : Int))
  | none => 0

/-- The lane takes its next downstream number (R376). -/
def Dev.laneSeq (l : Nat) (d : Dev) : Dev := d.updLane l (fun x => { x with seq := nextSeq x.seq })

/-- 259 x PU_QNS + 1 / LINE_RATE_MAX in qns, PU_QNS being U32>>16 and the sum rounded once (R6, R386). -/
def releaseAfter (pu rate : Nat) : Nat := (rdiv (259 * pu * rate + 4000000000 * 65536 : Nat) (65536 * rate : Nat)).toNat

/-- The release instant of a frame in device qns (R386). -/
def Dev.release (d : Dev) (l : Nat) : LaneBody → Nat
  | .fire t _ _ pu _ _ _ => t + releaseAfter pu (d.cfgN .stnJet (l / 32) .LINE_RATE_MAX)
  | .spit t _ pu _ _ _ => t + releaseAfter pu (d.cfgN .stnJet (l / 32) .LINE_RATE_MAX)
  | .sweepData _ td _ _ _ _ _ => td
  | .sweepStart _ _ _ => d.qns
  | .arm _ _ => d.qns
  | .time _ _ _ _ => d.qns
  | .statusReq => d.qns

/-- A frame of a fire event, a sweep or a spit line. -/
def LaneBody.marks : LaneBody → Bool
  | .fire _ _ _ _ _ _ _ => true
  | .spit _ _ _ _ _ _ => true
  | .sweepData _ _ _ _ _ _ _ => true
  | .sweepStart _ _ _ => true
  | .arm _ _ => false
  | .time _ _ _ _ => false
  | .statusReq => false

/-- A frame is sent: it takes its blocks from AVAIL (R384) and is counted (R398); an unlined twin that follows notes the
station (R649). -/
def Dev.laneSend (l seq : Nat) (b : LaneBody) (rec : SentFrame) (d : Dev) : Dev :=
  let w := b.wire
  let f : LaneFrame := { lane := l, seq := seq, active := d.isActive, sentAt := d.qns, body := b }
  let fr : SentFrame := { rec with seq := seq, blocks := w, release := d.release l b }
  let d := ((d.bump (uid cLANE l) .FRAMES_TX 1).bump (uid cLANE l) .BLOCKS_TX w).emit (.lane f)
  let d := if d.twin.snapped ∧ d.twin.role = .unlined ∧ b.marks ∧ !d.twin.sentSince.contains (l / 32) then
      { d with twin := { d.twin with sentSince := (l / 32) :: d.twin.sentSince } } else d
  d.updLane l (fun x => { x with sent := x.sent + w, frames := fr :: x.frames })

/-- A TIME frame leaves with the instant of its SOF (R373, R389). -/
def Dev.stampTime (d : Dev) : LaneBody → LaneBody
  | .time _ i p o => .time d.qns i p o
  | b => b

/-- Waiting frames leave in order while AVAIL lasts; one that waits is counted once (R384, R398). -/
def Dev.laneDrain (l : Nat) : List (Nat × LaneBody) → Dev → Dev
  | [], d => d.updLane l (fun x => { x with queue := [], stalled := false })
  | (seq, b) :: q, d =>
    if !d.laneOpen l then d.updLane l (fun x => { x with queue := (seq, b) :: q })
    else if (d.lane.at l).avail < b.wire then
      let d := if (d.lane.at l).stalled then d else d.bump (uid cLANE l) .CREDIT_STALLS 1
      d.updLane l (fun x => { x with queue := (seq, b) :: q, stalled := true })
    else
      let b := d.stampTime b
      let d := d.laneSend l seq b { seq := seq, blocks := 0, release := 0 }
      let d := match b with
        | .time t1 i _ _ => d.updLane l (fun x => { x with exch := some (i, t1), stalled := false })
        | _ => d.updLane l (fun x => { x with stalled := false })
      Dev.laneDrain l q d

/-- A frame joins the lane's queue, which drains. A device that sends no ordered frame counts its ARM frames only (R377,
R634). -/
def Dev.laneQueue (l seq : Nat) (b : LaneBody) (d : Dev) : Dev :=
  match b with
  | .arm _ _ => if d.mayFrame then d.laneDrain l ((d.lane.at l).queue ++ [(seq, b)]) else d
  | _ => d.laneDrain l ((d.lane.at l).queue ++ [(seq, b)])

/-- The calibration generation of the data in effect at a lane's station (R414). -/
def Dev.calGenAt (d : Dev) (l : Nat) : Nat := if bit d.cal.applied (l / 32) then d.cal.newGen else d.cal.gen

/-- Calibration items sent at a brim are not yet acknowledged on a lane (R382, R414). -/
def Dev.calUnacked (d : Dev) (l : Nat) : Bool :=
  let x := d.lane.at l
  x.calSeq != 0 && !(x.armLast != 0 && seqAfter x.armLast x.calSeq)

/-- An ARM frame is built (R374, R376). -/
def Dev.laneArm (l : Nat) (i : ArmItem) (d : Dev) : Dev :=
  let seq := (d.lane.at l).seq
  let gen := match i with
    | .delay _ _ => d.calGenAt l % 65536
    | .trim _ _ => d.calGenAt l % 65536
    | .facet _ => d.calGenAt l % 65536
    | _ => 0
  ((d.laneSeq l).updLane l (fun x => { x with armSeq := seq })).laneQueue l seq (.arm i gen)

/-- Pieces of at most `n` entries, each with the index of its first (R374). -/
def chunks {α : Type} (n : Nat) : Nat → Nat → List α → List (Nat × List α)
  | 0, _, _ => []
  | fuel + 1, first, xs =>
    match xs with
    | [] => []
    | _ => (first, xs.take n) :: chunks n fuel (first + n) (xs.drop n)

/-- Items 1 to 6 of a lane in the order of R374: 1 to 4 to a head executor, 5 and 6 to a beam executor. -/
def Dev.laneItems (d : Dev) (l : Nat) : List ArmItem :=
  let n := l / 32
  let cs := d.cal.recs
  if d.isJet n then
    let wf := d.body .waveform n
    let k := d.nozzles l
    ((upTo 16).filter (fun w => bit wf w)).map (fun w => ArmItem.waveform w (bits wf (32 + 256 * w + 255) (32 + 256 * w)))
    ++ ((upTo 8).filter (fun s => d.setDefined n s)).map
        (fun s => ArmItem.waveset s (bits (d.body .waveset n) (192 * s + 191) (192 * s)))
    ++ (chunks 6126 2 0 ((upTo k).map (fun i =>
          d.rowPu cs l (nozRow (d.nozWord l i)) + nozDelay (d.nozWord l i)))).map (fun c => ArmItem.delay c.1 c.2)
    ++ (chunks 2042 4 0 ((upTo k).map (fun i => d.trim cs l i))).map (fun c => ArmItem.trim c.1 c.2)
  else if d.isScan n then
    [.pulse (d.body .pulsePattern n % 2 ^ 448), .facet ((upTo 16).map (fun f => d.facetDelay cs l f))]
  else []

/-- Item 0 (R380). -/
def Dev.laneSession (l : Nat) (d : Dev) : Dev :=
  d.laneArm l (.session (d.cfgN .lane l .TELEM_PERIOD_US) d.eng.session.toNat)

/-- PAGE items that wait leave once the lane is ready and time-locked, those of non-terminal pages (R267, R390, R395). -/
def Dev.lanePages (l : Nat) (d : Dev) : Dev :=
  if !d.laneReady l ∨ !(d.lane.at l).locked then d
  else
    let ws := (d.lane.at l).pageWait
    ws.foldl
      (fun d ord =>
        match d.page? ord with
        | none => d
        | some p =>
          if p.state.terminal then d else
          let seq := (d.lane.at l).seq
          (d.laneArm l (.page p.id (p.set (l / 32)))).updPg ord (l / 32) (fun s =>
            { s with arms := (l, seq) :: s.arms.filter (·.1 ≠ l) }))
      (d.updLane l (fun x => { x with pageWait := [] }))

/-- The PAGE item of a page is due on every lane of its stations (R267). One that cannot leave at once takes its number like
the partner's and leaves it unused; it is built anew once it can leave (R376, R377, log entry 113). -/
def Dev.armPage (p : Page) (d : Dev) : Dev :=
  (stnsOf p.mask).foldl
    (fun d n =>
      (d.lanesOf n).foldl
        (fun d l => 
          let d := (d.updLane l (fun x => { x with pageWait := x.pageWait ++ [p.order] })).lanePages l
          if (d.lane.at l).pageWait.contains p.order then d.laneSeq l else d)
        (d.updPg p.order n (fun s => { s with armed := true })))
    d

/-- Every ARM frame of a lane is acknowledged (R382). -/
def Dev.laneArmed (d : Dev) (l : Nat) : Bool :=
  let x := d.lane.at l
  x.queue.all (fun f => match f.2 with | .arm _ _ => false | _ => true)
    && (x.armSeq == 0 || (x.armLast != 0 && seqAfter x.armLast x.armSeq))

/-- The PAGE item of a page at a station is acknowledged on every lane that the partner does not carry (R145, R382, R396). -/
def Dev.pageAcked (d : Dev) (p : Page) (n : Nat) : Bool :=
  (d.lanesOf n).all (fun l => d.carried l || (d.laneArmed l && ((p.stn.at n).arms.any (·.1 == l))))

/-- Session items on a lane, again with the PAGE items of non-terminal pages (R374, R380, R395). -/
def Dev.laneRearm (l : Nat) (d : Dev) : Dev :=
  let d := d.updLane l (fun x => { x with queue := [], resent := true, resentTold := false, calSeq := 0 })
  let d := d.laneSession l
  let d := (d.laneItems l).foldl (fun d i => d.laneArm l i) d
  (d.updLane l (fun x => { x with
      pageWait := ((d.stnPages (l / 32)).filter (fun p => (p.stn.at (l / 32)).armed)).map (·.order) })).lanePages l

/-- The link's time starts over (R389, R390). -/
def Lane.timeReset (x : Lane) : Lane :=
  { x with exch := none, timeAt := none, off := 0, offId := 0, good := 0, bad := 0, locked := false, timeId := 1 }

/-- Training starts from step 1 (R364, R367); of a lane that leaves UP the outstanding blocks are written off (R388), and the
counts stay as found until the next HELLO (R384, R387). In a session the lane is out of use until it rejoins (R395). -/
def Dev.laneDrop (l : Nat) (low : Bool) (d : Dev) : Dev :=
  let x := d.lane.at l
  let d := if x.up then (d.bump (uid cLANE l) .LINK_DOWNS 1).bump (uid cLANE l) .WRITTEN_OFF (x.sent - x.returned) else d
  let d := d.setRate l low
  (d.updLane l (fun x =>
    { x.timeReset with
      up := false, lock := false, training := true, trainAt := d.clk.now, stage := 0, fails := 0, failsLow := 0, lowOnly := false
      wasDown := x.wasDown || x.up, lastHello := if x.hello.isSome then x.hello else x.lastHello, hello := none
      resent := false
      outOfUse := x.outOfUse || d.eng.st == .engaged || d.eng.st == .disengaging })).emit (.train l 0 low)

/-- A twin whose partner's link to the lane is UP lets the partner's frames mark (R396). -/
def Dev.viaPartner (l : Nat) (d : Dev) : Dev :=
  let x := d.lane.at l
  if d.isTwin ∧ !x.up ∧ x.partnerUp ∧ !x.viaPartner then
    (d.updLane l (fun x => { x with viaPartner := true })).report (uid cLANE l) 0x0612
  else d

/-- The partner learns that a lane is DOWN at this twin, and may carry it (R396). -/
def Dev.laneLeft (l : Nat) (d : Dev) : Dev := (d.tellPartner l false).viaPartner l

/-- A lane is retrained; one that was UP is DOWN meanwhile (R366, R387). -/
def Dev.laneRetrain (l : Nat) (low : Bool) (d : Dev) : Dev :=
  let e := d.laneDrop l low
  if (d.lane.at l).up then e.laneLeft l else e

/-- The lane goes DOWN with 0x0604, the outstanding blocks in DETAIL (R367, R388). -/
def Dev.laneDown (l : Nat) (d : Dev) : Dev :=
  let x := d.lane.at l
  let lost := x.sent - x.returned
  let d := (d.laneDrop l x.low).report (uid cLANE l) 0x0604
    (if d.ust (uid cLANE l) = .fault ∨ d.ust (uid cLANE l) = .fenced then none else some .hold) lost
  d.laneLeft l

/-- A conservation fault on a lane: FAULT, the pages that settle at the brim carry CONSERVATION, the lane is retrained, its
counts kept as found (R387). -/
def Dev.creditFault (l code : Nat) (d : Dev) : Dev :=
  let d := { d with plane := { d.plane with conserve := (l / 32) :: d.plane.conserve } }
  (d.report (uid cLANE l) code (some .fault)).laneRetrain l (d.lane.at l).low

/-- The credit audit at a brim of a lane that carries frames, in FAULT too (R386, R387). -/
def Dev.creditAudit (l : Nat) (d : Dev) : Dev :=
  if !d.laneOpen l then d
  else
    let slack := usq (d.cfgN .lane l .RETURN_SLACK_US)
    let x := d.lane.at l
    let old := x.frames.filter (fun f => f.release + slack < d.qns)
    let due := x.oldBlocks + old.foldl (fun a f => a + f.blocks) 0
    let sensedDone (f : SentFrame) : Bool := !f.fires || seqAfter x.sensed f.seq
    let gone := old.filter sensedDone
    let d := d.updLane l (fun x => { x with
      oldBlocks := x.oldBlocks + gone.foldl (fun a f => a + f.blocks) 0
      frames := x.frames.filter (fun f => !(f.release + slack < d.qns && sensedDone f)) })
    if x.returned < due then d.creditFault l 0x060A else d

/-- On a lane that came UP again every ARM item, with the PAGE items of non-terminal pages, is acknowledged: 0x0613, once
(R395). -/
def Dev.rearmed (l : Nat) (d : Dev) : Dev :=
  let x := d.lane.at l
  if x.outOfUse ∧ !x.refused ∧ x.resent ∧ !x.resentTold ∧ x.pageWait = [] ∧ d.laneArmed l then
    (d.updLane l (fun x => { x with resentTold := true })).report (uid cLANE l) 0x0613
  else d

/-- A lane that came UP again rejoins in a brim once its HELLO matched, its ARM items are acknowledged and it is
time-locked (R395). -/
def Dev.rejoin (l : Nat) (d : Dev) : Dev :=
  let d := d.rearmed l
  let x := d.lane.at l
  if x.outOfUse ∧ !x.refused ∧ x.resent ∧ d.laneReady l ∧ x.locked ∧ x.pageWait = [] ∧ d.laneArmed l ∧ d.inBrim (l / 32)
      ∧ d.eng.st = .engaged then
    (d.updLane l (fun x => { x with outOfUse := false, viaPartner := false })).rest (uid cLANE l) .armed
  else d

/-- At a brim a quad with a lane that comes UP only at 3.125 Gb/s is retrained whole at that rate (R366). -/
def Dev.quadRetrain (q : Nat) (d : Dev) : Dev :=
  if (upTo 4).any (fun i => (d.lane.at (4 * q + i)).lowOnly) ∧ d.inBrim (q / 8) then
    ((upTo 4).filter (fun i => d.has .lane (4 * q + i))).foldl
      (fun d i => d.laneRetrain (4 * q + i) true) d
  else d

/-- What the mark link does at a brim of a station (R366, R386, R395). -/
def Dev.linkBrim (n : Nat) (d : Dev) : Dev :=
  let d := (d.lanesOf n).foldl (fun d l => (d.creditAudit l).rejoin l) d
  (upTo 8).foldl (fun d q => d.quadRetrain (8 * n + q)) d

/-- At an engage request every lane at 3.125 Gb/s of a quad that need not run at it trains again at 6.25 Gb/s, and a lane
that gave up training trains anew (R365, R366). -/
def Dev.linkPrepare (d : Dev) : Dev :=
  ((upTo 256).filter (d.has .lane)).foldl
    (fun d l =>
      let x := d.lane.at l
      if (d.dom.at (l / 4)).good ∧ ((x.low ∧ !d.quadForceLow l) ∨ (!x.up ∧ !x.training)) then
        d.laneRetrain l (d.quadForceLow l)
      else d) d

/-- The lanes at engagement: counters at 1, session and tables to every executor (R267, R376, R380); a lane that is not ready
takes the same numbers (R377). -/
def Dev.linkEngage (d : Dev) : Dev :=
  ((upTo 256).filter (d.has .lane)).foldl
    (fun d l =>
      let d := d.updLane l (fun x =>
        { x with
          seq := 1, armLast := 0, armSeq := 0, queue := [], pageWait := [], outOfUse := false, refused := false, viaPartner := false
          resent := false, lastHello := x.hello, sensed := 0, events := 0, cursor := 0, window := [], lastFire := none
          more := 0, moreLast := (0, 0, false), amp := 0x4000, ampHeld := none
          allOut := if d.ust (uid cLANE l) = .fault then x.allOut else none
          frames := x.frames.map (fun f => { f with fires := false }) })
      let d := d.setLead l
      if d.laneReady l then d.laneRearm l else (upTo ((d.laneItems l).length + 1)).foldl (fun d _ => d.laneSeq l) d) d

/-- A lane in training sends TRAIN blocks with a STAGE (R362, R364). -/
def Dev.laneStage (l stage : Nat) (d : Dev) : Dev :=
  (d.updLane l (fun x => { x with lock := stage != 0, stage := stage })).emit (.train l stage (d.lane.at l).low)

/-- BLOCK_LOCK: the receiver of a lane in training has seen 64 valid sync headers; the lane sends STAGE 1 (R363, R364). -/
def actBlockLock (t l : Nat) (d : Dev) : Dev :=
  let d := d.enter t 7
  let x := d.lane.at l
  if d.has .lane l ∧ x.training ∧ !x.lock then d.laneStage l 1 else d

/-- BLOCK_LOCK (R363). -/
def execBlockLock (t : Nat) (lane : Fin 256) (s : State) : Host.Outcome State Fault Refusal :=
  .next { s with dev := actBlockLock t lane.val s.dev }

/-- The other lanes of a lane's quad that have a record (R366). -/
def Dev.quadMates (d : Dev) (l : Nat) : List Nat :=
  ((upTo 4).map (4 * (l / 4) + ·)).filter (fun k => k ≠ l && d.has .lane k)

/-- LANE_UP: a lane in block lock has sent STAGE 2 and seen it answered; it sends IDLE and awaits HELLO (R364). At 3.125 Gb/s
it reports 0x0603 (R365), and before engagement its quad follows (R366); where its quad runs at 3.125 Gb/s already it
follows the quad. A lane UP again reports 0x0605. -/
def actLaneUp (t l : Nat) (d : Dev) : Dev :=
  let d := d.enter t 7
  let x := d.lane.at l
  let mates := d.quadMates l
  let others := mates.any (fun k => (d.lane.at k).up && !(d.lane.at k).low)
  let engaged := d.eng.st == .engaged || d.eng.st == .disengaging
  if !d.has .lane l ∨ !x.training ∨ !x.lock then d
  else if x.low ∧ engaged ∧ others then
    (d.updLane l (fun x => { x with lowOnly := true, training := false })).quadRetrain (l / 4)
  else if !x.low ∧ mates.any (fun k => (d.lane.at k).up && (d.lane.at k).low) then d.laneDrop l true
  else
    let d := (d.laneStage l 2).emit (.idle l)
    let d := d.updLane l (fun x => { x with up := true, training := false, fails := 0, failsLow := 0 })
    let d := d.tellPartner l true
    let d := d.reportIf x.low (uid cLANE l) 0x0603
    let d := d.reportIf x.wasDown (uid cLANE l) 0x0605
    let d := if engaged then d else d.rest (uid cLANE l) .idle
    if x.low ∧ others then
      (mates.filter (fun k => !(d.lane.at k).low)).foldl (fun d k => d.laneRetrain k true) d
    else d

/-- LANE_UP (R364). -/
def execLaneUp (t : Nat) (lane : Fin 256) (s : State) : Host.Outcome State Fault Refusal :=
  .next { s with dev := actLaneUp t lane.val s.dev }

/-- The next attempt starts with STAGE 0 (R364, R365). -/
def Dev.trainAgain (l : Nat) (d : Dev) : Dev := (d.updLane l (fun x => { x with trainAt := d.clk.now })).laneStage l 0

/-- TRAIN_ATTEMPT_TIMEOUT: a 2 ms attempt fails; three at 6.25 Gb/s, then with FALLBACK_EN three at 3.125 Gb/s, then
FAULT with 0x0602 (R365). -/
def actTrainAttemptTimeout (t l : Nat) (d : Dev) : Dev :=
  let d := d.enter t 7
  let x := d.lane.at l
  if !d.has .lane l ∨ !x.training ∨ d.clk.now < x.trainAt + 8000000 then d
  else if x.low then
    if 2 ≤ x.failsLow then
      (d.updLane l (fun x => { x with training := false })).report (uid cLANE l) 0x0602 (some .fault)
    else (d.updLane l (fun x => { x with failsLow := x.failsLow + 1 })).trainAgain l
  else if x.fails < 2 then (d.updLane l (fun x => { x with fails := x.fails + 1 })).trainAgain l
  else if d.cfgB .lane l .FALLBACK_EN then ((d.setRate l true).updLane l (fun x => { x with fails := 3 })).trainAgain l
  else (d.updLane l (fun x => { x with training := false })).report (uid cLANE l) 0x0602 (some .fault)

/-- TRAIN_ATTEMPT_TIMEOUT (R365). -/
def execTrainAttemptTimeout (t : Nat) (lane : Fin 256) (s : State) : Host.Outcome State Fault Refusal :=
  .next { s with dev := actTrainAttemptTimeout t lane.val s.dev }

/-- LINK_DOWN: a lane leaves block lock; one that is UP goes DOWN (R367), one in training sends STAGE 0 again (R364). -/
def actLinkDown (t l : Nat) (d : Dev) : Dev :=
  let d := d.enter t 7
  let x := d.lane.at l
  if x.up then d.laneDown l else if x.training ∧ x.lock then d.laneStage l 0 else d

/-- LINK_DOWN (R367). -/
def execLinkDown (t : Nat) (lane : Fin 256) (s : State) : Host.Outcome State Fault Refusal :=
  .next { s with dev := actLinkDown t lane.val s.dev }

/-- An upstream frame is discarded and counted (R371). -/
def Dev.rxBad (l code : Nat) (d : Dev) : Dev := (d.bump (uid cLANE l) .RX_DISCARDS 1).report (uid cLANE l) code

/-- How far number `a` lies beyond `b`, modulo 2^32. -/
def seqDist (a b : Nat) : Nat := (a + 4294967296 - b % 4294967296) % 4294967296

/-- An ordered upstream frame has a nonzero SEQ that has not come before (R370). -/
def Lane.upNew (x : Lane) (seq : Nat) : Bool :=
  seq != 0 && (match x.upSeq with
    | none => true
    | some u => (seq != u && seqAfter seq u) || x.upGaps.any (fun g => seqDist seq g.1 < g.2))

/-- What is missing of a run of numbers once one of them has come. -/
def cutGap (seq : Nat) (g : Nat × Nat) : List (Nat × Nat) :=
  let k := seqDist seq g.1
  if g.2 ≤ k then [g] else [(g.1, k), (nextSeq seq, g.2 - k - 1)].filter (·.2 != 0)

/-- The number of an ordered upstream frame: a gap is counted with 0x0608 (R378, R383); a frame behind the highest number
is late, no gap (log entry 26). -/
def Dev.upSeqCheck (l seq : Nat) (d : Dev) : Dev :=
  match (d.lane.at l).upSeq with
  | none => d.updLane l (fun x => { x with upSeq := some seq })
  | some u =>
    let want := nextSeq u
    if !seqAfter seq u then d.updLane l (fun x => { x with upGaps := x.upGaps.flatMap (cutGap seq) })
    else if seq = want then d.updLane l (fun x => { x with upSeq := some seq })
    else
      ((d.bump (uid cLANE l) .SEQ_GAPS 1).report (uid cLANE l) 0x0608).updLane l (fun x =>
        { x with upSeq := some seq, upGaps := (want, seqDist seq want) :: x.upGaps })

/-- An ordered upstream frame is taken once: a duplicate, or one without a number, is discarded (R370). -/
def Dev.upOrdered (l seq : Nat) (f : Dev → Dev) (d : Dev) : Dev :=
  if (d.lane.at l).upNew seq then f (d.upSeqCheck l seq) else d

/-- HELLO: the executor declares itself; SENT and RETURNED start at 0 (R384). A lane that came UP again in a session is
judged against its last HELLO and re-armed, or is in FAULT with 0x0606 until the next engagement (R395). -/
def actHello (t l : Nat) (h : HelloFrame) (d : Dev) : Dev :=
  let d := d.enter t 7
  if !(d.lane.at l).up then d
  else if 8 ≤ h.features.toNat ∨ 2 ≤ h.kind.toNat then
    d.rxBad l 0x0611
  else
    let first := (d.lane.at l).hello.isNone
    let d := d.updLane l (fun x =>
      { x with
        hello := some h, helloAt := d.clk.now, tSetup := h.tSetupNs.toNat, sent := 0, returned := 0, oldBlocks := 0, frames := x.frames.map (fun f => { f with blocks := 0 })
        upSeq := if h.features.getLsbD 2 then none else x.upSeq
        upGaps := if h.features.getLsbD 2 then [] else x.upGaps })
    if d.eng.st ≠ .engaged ∧ d.eng.st ≠ .disengaging then d
    else
      let x := d.lane.at l
      let same := match x.lastHello with
        | some o => o.serial == h.serial && o.kind == h.kind && o.nozzles == h.nozzles && o.headType == h.headType
            && d.cfgN .lane l .BUF_MIN ≤ h.bufBlocks.toNat
        | none => false
      if x.refused then d
      else if !same then
        (d.updLane l (fun x => { x with refused := true, outOfUse := true })).report (uid cLANE l) 0x0606 (some .fault)
      else if x.outOfUse ∧ (first ∨ h.features.getLsbD 2) then ((d.laneRearm l).tellSeq l).rejoin l
      else if h.features.getLsbD 2 then (d.laneRearm l).tellSeq l
      else d

/-- HELLO (R395). -/
def execHello (t : Nat) (lane : Fin 256) (f : HelloFrame) (s : State) : Host.Outcome State Fault Refusal :=
  .next { s with dev := actHello t lane.val f s.dev }

/-- PAGE items that wait for credits on a lane that has lost time lock wait for lock again: they are built anew, their
numbers unused (R376, R390). -/
def Dev.pagesBack (l : Nat) (d : Dev) : Dev :=
  let n := l / 32
  let item (q : Nat × LaneBody) : Bool := match q.2 with | .arm (.page _ _) _ => true | _ => false
  let seqs := ((d.lane.at l).queue.filter item).map (·.1)
  let ords := ((d.stnPages n).filter (fun p => (p.stn.at n).arms.any (fun a => a.1 == l && seqs.contains a.2))).map (·.order)
  let d := ords.foldl (fun d o => d.updPg o n (fun s => { s with arms := s.arms.filter (·.1 != l) })) d
  d.updLane l (fun x => { x with queue := x.queue.filter (fun q => !item q), pageWait := ords ++ x.pageWait })

/-- The answer to a TIME exchange: delay and offset, the streaks of R390, and time lock (R389, R390). Offsets are in
1/256 qns. -/
def Dev.timeEcho (l id t2 t3 : Nat) (d : Dev) : Dev :=
  match (d.lane.at l).exch with
  | none => d
  | some (i, t1) =>
    let t4 := d.qns
    if i ≠ id ∨ t1 + 40000 < t4 then d
    else
      let twice : Int := ((t4 : Int) - t1) - ((t3 : Int) - t2)
      let o : Int := 256 * ((t2 : Int) - t1) - 128 * twice - rdiv (128 * d.cfg .lane l .ASYM_PS) 250
      let d := (d.setCtr (uid cLANE l) .TIME_OFFSET o).setCtr (uid cLANE l) .TIME_DELAY (rdiv twice 2)
      let x := d.lane.at l
      let good := if absI o ≤ 1024 then x.good + 1 else 0
      let bad := if 2048 < absI o then x.bad + 1 else 0
      let lose := x.locked && 2 ≤ bad
      let gain := !x.locked && 8 ≤ good
      let d := d.updLane l (fun x =>
        { x with exch := none, off := o, offId := id, good := good, bad := bad, locked := (x.locked || gain) && !lose })
      let d := if lose then (d.report (uid cLANE l) 0x060C).pagesBack l else d
      if gain ∧ x.pageWait ≠ [] then (d.lanePages l).tellSeq l else d

/-- A check drop whose event the executor has sensed with no exception counts toward its nozzle's run (R313). -/
def Dev.sensedRuns (l : Nat) (d : Dev) : Dev :=
  d.updLane l (fun x =>
    let later := x.frames.filter (fun f => f.check != [] && seqAfter x.sensed f.seq)
    { x with
      noz := later.foldl (fun t f => f.check.foldl (fun t m => t.upd m (fun z => { z with run := z.run + 1 })) t) x.noz
      frames := x.frames.map (fun f => if seqAfter x.sensed f.seq then { f with check := [] } else f) })

/-- ACK: credits return, ARM_LAST and SENSED_SEQ are noted, a TIME exchange is answered (R382, R384, R387, R389). -/
def actAck (t l : Nat) (f : AckFrame) (d : Dev) : Dev :=
  let d := d.enter t 7
  if !(d.lane.at l).up ∨ (d.lane.at l).hello.isNone then d
  else
    let x := d.lane.at l
    let add := (f.creditsRet.toNat + 4294967296 - x.returned % 4294967296) % 4294967296
    let d := (d.bump (uid cLANE l) .BLOCKS_RET add).updLane l (fun x =>
      { x with
        returned := x.returned + add, armLast := f.armLast.toNat
        sensed := if x.sensed = 0 ∨ seqAfter f.sensedSeq.toNat x.sensed then f.sensedSeq.toNat else x.sensed })
    let d := d.sensedRuns l
    if (d.lane.at l).sent < (d.lane.at l).returned then d.creditFault l 0x0609
    else
      let d := match f.echo with
        | some (id, t2, t3) => d.timeEcho l id.toNat t2.toNat t3.toNat
        | none => d
      (d.laneDrain l (d.lane.at l).queue).rejoin l

/-- ACK (R384). -/
def execAck (t : Nat) (lane : Fin 256) (f : AckFrame) (s : State) : Host.Outcome State Fault Refusal :=
  .next { s with dev := actAck t lane.val f s.dev }

/-- TELEM: head temperature and late frames are kept; a rise of LATE_FRAMES is reported with 0x060F, each ALARMS bit that
becomes set with 0x0610 (R399). -/
def actTelem (t l : Nat) (f : TelemFrame) (d : Dev) : Dev :=
  let d := d.enter t 7
  if !(d.lane.at l).up then d
  else if 64 ≤ f.alarms.toNat then d.rxBad l 0x0611
  else d |>.upOrdered l f.seq.toNat fun d =>
    let x := d.lane.at l
    let fresh := (upTo 6).filter (fun i => f.alarms.getLsbD i && !bit x.alarms i)
    let d := (d.setCtr (uid cLANE l) .EXEC_LATE f.lateFrames.toNat).setCtr (uid cLANE l) .HEAD_TEMP (sx 16 f.headTemp.toNat)
    let d := d.updLane l (fun x =>
      { x with late := f.lateFrames.toNat, alarms := f.alarms.toNat, headTemp := f.headTemp, telemAt := some d.qns })
    let d := d.reportIf (x.late < f.lateFrames.toNat) (uid cLANE l) 0x060F
    fresh.foldl (fun d i => d.report (uid cLANE l) 0x0610 none i) d

/-- TELEM (R399). -/
def execTelem (t : Nat) (lane : Fin 256) (f : TelemFrame) (s : State) : Host.Outcome State Fault Refusal :=
  .next { s with dev := actTelem t lane.val f s.dev }

/-- MISMATCH: differing twin copies are counted with 0x060E (R381). -/
def actMismatch (t l : Nat) (f : MismatchFrame) (d : Dev) : Dev :=
  let d := d.enter t 7
  if (d.lane.at l).up then
    d.upOrdered l f.seq.toNat (fun d => (d.bump (uid cLANE l) .MISMATCHES 1).report (uid cLANE l) 0x060E none f.dupSeq.toNat)
  else d

/-- MISMATCH (R381). -/
def execMismatch (t : Nat) (lane : Fin 256) (f : MismatchFrame) (s : State) : Host.Outcome State Fault Refusal :=
  .next { s with dev := actMismatch t lane.val f s.dev }

/-- RX_FRAME_DISCARD: 0x0607 for a CRC mismatch or an invalid block, 0x0611 for a malformed frame; a stray data block is
counted too (R368, R371, log entry 121). A frame that R371 does not discard is no business of this command. -/
def actRxFrameDiscard (t l : Nat) (x : RxBlocks) (d : Dev) : Dev :=
  let d := d.enter t 7
  if !(d.lane.at l).up then d
  else
    match x with
    | .stray => d.bump (uid cLANE l) .RX_DISCARDS 1
    | .frame f =>
      match upFault f with
      | some .crc => d.rxBad l 0x0607
      | some .malformed => d.rxBad l 0x0611
      | none => d

/-- RX_FRAME_DISCARD (R371). -/
def execRxFrameDiscard (t : Nat) (lane : Fin 256) (x : RxBlocks) (s : State) : Host.Outcome State Fault Refusal :=
  .next { s with dev := actRxFrameDiscard t lane.val x s.dev }

/-- TIME_PERIOD_US has passed since the latest exchange of the lane, or none has been (R389). -/
def Dev.exchangeDue (d : Dev) (l : Nat) : Bool :=
  match (d.lane.at l).timeAt with
  | none => true
  | some a => a + usq (d.cfgN .lane l .TIME_PERIOD_US) ≤ d.clk.now

/-- TIME_EXCHANGE: every TIME_PERIOD_US a TIME frame leaves with T1 and the offset measured before (R389). -/
def actTimeExchange (t l : Nat) (d : Dev) : Dev :=
  let d := d.enter t 7
  if !d.laneOpen l ∨ !d.exchangeDue l then d
  else
    let x := d.lane.at l
    (d.updLane l (fun x => { x with timeAt := some d.clk.now, timeId := nextSeq x.timeId })).laneQueue l 0 (.time d.qns x.timeId x.offId x.off)

/-- TIME_EXCHANGE (R389). -/
def execTimeExchange (t : Nat) (lane : Fin 256) (s : State) : Host.Outcome State Fault Refusal :=
  .next { s with dev := actTimeExchange t lane.val s.dev }

/-- TIME_NO_ECHO: an exchange unanswered within 10 us is counted with 0x060D (R389). -/
def actTimeNoEcho (t l : Nat) (d : Dev) : Dev :=
  let d := d.enter t 7
  match (d.lane.at l).exch with
  | some (_, t1) =>
    if d.qns < t1 + 40000 then d
    else (d.updLane l (fun x => { x with exch := none })).report (uid cLANE l) 0x060D
  | none => d

/-- TIME_NO_ECHO (R389). -/
def execTimeNoEcho (t : Nat) (lane : Fin 256) (s : State) : Host.Outcome State Fault Refusal :=
  .next { s with dev := actTimeNoEcho t lane.val s.dev }

end Sys2Proof.Machine
end

