-- ==== Sys2Proof/Machine/Position.lean ====
section
/-! DEFINITION. The position engine (R201 to R242): the lattice, its stamps, speed and prediction, cues, the binding of
leading edges, glide and the register loop, and the loss of the reference. Positions of pages are in 1/256 pu. -/

namespace Sys2Proof.Machine

/-- v of a station as (pu, qns): the newest stamp against the one 2^SPEED_WIN stamps older (R209); 0 with fewer stamps. -/
def Dev.speedAt (d : Dev) (n k : Nat) : Int × Int :=
  let w := 2 ^ d.cfgN .stnPlace n .SPEED_WIN
  let xs := (d.stn.at n).stamps
  match xs.drop k, xs.drop (k + w) with
  | (p1, t1) :: _, (p0, t0) :: _ => if t0 < t1 then (p1 - p0, (t1 : Int) - t0) else (0, 1)
  | _, _ => (0, 1)

/-- v of a station (R209). -/
def Dev.speed (d : Dev) (n : Nat) : Int × Int := d.speedAt n 0

/-- a of a station as a ratio in pu per qns^2, 0 without two windows of stamps or with ACCEL_EN 0 (R209). -/
def Dev.accel (d : Dev) (n : Nat) : Int × Int :=
  let w := 2 ^ d.cfgN .stnPlace n .SPEED_WIN
  let xs := (d.stn.at n).stamps
  match xs.drop 0, xs.drop w, xs.drop (2 * w) with
  | (_, t2) :: _, (_, t1) :: _, _ :: _ =>
    let v1 := d.speedAt n 0
    let v0 := d.speedAt n w
    if d.cfgB .stnPlace n .ACCEL_EN ∧ t1 < t2 then
      (v1.1 * v0.2 - v0.1 * v1.2, v1.2 * v0.2 * ((t2 : Int) - t1))
    else (0, 1)
  | _, _, _ => (0, 1)

/-- The medium speed as a ratio in mm/s (R208, R209). -/
def Dev.speedRatio (d : Dev) (n : Nat) : Int × Int :=
  let v := d.speed n
  let p := d.pitch n
  (v.1 * 4000000000 * p.1, v.2 * 256 * p.2 * 1000000)

/-- The medium speed in mm/s (R208, R209). -/
def Dev.speedMmS (d : Dev) (n : Nat) : Int := rdiv (d.speedRatio n).1 (d.speedRatio n).2

/-- The station's present line rate as (lines, seconds), from v (R205, R209). -/
def Dev.lineRateNow (d : Dev) (n : Nat) : Int × Int :=
  let v := d.speed n
  (v.1 * 4000000000, v.2 * 256)

/-- The position between kept stamps at a device time, by linear interpolation (R210). -/
def mapBetween (tau : Int) : List (Int × Nat) → Option Int
  | (p1, t1) :: (p0, t0) :: r =>
    if (t0 : Int) ≤ tau ∧ tau ≤ t1 then
      some (256 * p0 + rdiv (256 * (p1 - p0) * (tau - t0)) ((t1 : Int) - t0))
    else mapBetween tau ((p0, t0) :: r)
  | _ => none

/-- A time mapped into the station's lattice, in 1/256 pu (R210, R213). -/
def Dev.mapTau (d : Dev) (n : Nat) (tau : Int) : Int :=
  let xs := (d.stn.at n).stamps
  let v := d.speed n
  let extra (s : Int × Nat) : Int := 256 * s.1 + rdiv (256 * v.1 * (tau - s.2)) v.2
  match xs with
  | [] => 256 * (d.stn.at n).lattice
  | s :: _ =>
    if (s.2 : Int) ≤ tau then extra s
    else
      match mapBetween tau xs with
      | some p => p
      | none => extra (xs.getLast?.getD s)

/-- The medium moves forward: v is above 0, and a lattice edge has come within the travel of two stamps (R207). How long
the silence must last before no edge arrives, the spec does not say (DESIGN CHOICE, log entry 77). -/
def Dev.moves (d : Dev) (n : Nat) : Bool :=
  let v := d.speed n
  0 < v.1 && ((d.qns - (d.stn.at n).edgeAt : Nat) : Int) * v.1 ≤ 64 * v.2

/-- The lattice position now, in 1/256 pu: extrapolated from the stamps while the medium moves forward (R210). -/
def Dev.place (d : Dev) (n : Nat) : Int :=
  let p := 256 * (d.stn.at n).lattice
  if d.moves n then max p (d.mapTau n d.qns) else p

/-- The predicted instant, in qns, at which the lattice reaches a position in 1/256 pu; none on a medium that
does not move forward (R207, R224, R226). -/
def Dev.predict (d : Dev) (n : Nat) (target : Int) : Option Int :=
  match (d.stn.at n).stamps with
  | [] => none
  | (p, t) :: _ =>
    let v := d.speed n
    if !d.moves n then none
    else
      let nn := (target - 256 * p) * v.2
      let dd := 256 * v.1
      let a := d.accel n
      some (t + rdiv (nn * dd * 2 * a.2 * v.1 - a.1 * nn * nn * v.2) (2 * a.2 * dd * dd * v.1))

/-- The target of line `y` of a page at a station but for the lane's part (R220), in 1/256 pu. -/
def Dev.targetS (d : Dev) (n : Nat) (le y : Int) : Int :=
  le + 256 * (d.cfg .stnPlace n .STN_OFFSET + 256 * y + d.cStn d.cal.recs n + rdiv (d.stn.at n).g 256)

/-- The target of line `y` on a lane (R220). -/
def Dev.target (d : Dev) (n l : Nat) (le y : Int) : Int := d.targetS n le y + 256 * d.cLane d.cal.recs l

/-- The oldest page of a station that is QUEUED or ARMED and not yet bound. -/
def Dev.unbound (d : Dev) (n : Nat) : Option Page :=
  d.jobs.pages.find? (fun p => bit p.mask n && (p.state == .queued || p.state == .armed) && !(p.stn.at n).bound)

/-- The oldest such page with LE_MODE 0 (R214). -/
def Dev.unbound0 (d : Dev) (n : Nat) : Option Page :=
  d.jobs.pages.find? (fun p =>
    bit p.mask n && (p.state == .queued || p.state == .armed) && !(p.stn.at n).bound && !p.leMode)

/-- The shift of a beam in whole lines (R334). -/
def Dev.beamShift (d : Dev) (n b : Nat) : Int := rdiv (d.cLane d.cal.recs (32 * n + b)) 256

/-- The y above which no beam of a sweep writes a line of the page (R334, R335). -/
def Dev.yMax (d : Dev) (n : Nat) (p : Page) : Int :=
  let off (b : Nat) : Int := (b : Int) - d.beamShift n b
  (p.lines : Int) - 1 - (upTo (d.beams n)).foldl (fun a b => min a (off b)) (off 0)

/-- The last line of a page at a station, in the sense of R217: its last fire event (R252), or its last sweep (R335),
which is known once the page's first sweep has chosen its line and is taken as late as it can be before. -/
def Dev.lastLine (d : Dev) (n : Nat) (p : Page) : Int :=
  if d.isJet n then (p.lines : Int) + d.lMax n - 1
  else
    match (d.stn.at n).scan.yLast with
    | some (o, y) =>
      if o = p.order then y + (d.yMax n p - y) / (d.beams n : Int) * (d.beams n : Int) else d.yMax n p
    | none => d.yMax n p

/-- The place of the last line of the latest page bound at a station, in 1/256 pu (R217). -/
def Dev.prevPlace (d : Dev) (n : Nat) : Option Int :=
  match (d.stn.at n).prevEnd, d.page? (d.stn.at n).prevOrd with
  | some e, some p =>
    match (p.stn.at n).le with
    | some le => if (p.stn.at n).marked then some e else some (le + 65536 * d.lastLine n p)
    | none => some e
  | e, _ => e

/-- A leading edge leaves less than the minimum brim after the previous page at a station (R217). -/
def Dev.shortAfter (d : Dev) (n : Nat) (prev : Option Int) (le : Int) : Bool :=
  match prev with
  | some e => le - e < 65536 * (d.cfgN .stnPlace n .BRIM_MIN_LINES : Nat)
  | none => false

/-- A leading edge is bound to a page at a station; true where it leaves too short a brim (R214, R217). -/
def Dev.bindTo (n : Nat) (ord : Nat) (le : Int) (d : Dev) : Dev × Bool :=
  let last := match d.page? ord with | some p => d.lastLine n p | none => 0
  let short := d.shortAfter n (d.prevPlace n) le
  let d := (d.updPg ord n (fun s => { s with le := some le, leStamp := d.qns, bound := true })).bump (uid cSTN n) .EDGES_BOUND 1
  let d := d.updStn n (fun s => { s with
    leLast := some le, prevEnd := if short then s.prevEnd else some (le + 65536 * last)
    prevOrd := if short then s.prevOrd else ord })
  let d := match d.page? ord with
    | some p => d.delta (.binding (BitVec.ofNat 32 p.job) (BitVec.ofNat 32 p.id) (Fin.ofNat 8 n) le)
    | none => d
  (d.linePlace n, short)

/-- A page ends in MISSED for a short brim at a station, counted and flagged there (R217). -/
def Dev.shortBrim (n ord : Nat) (d : Dev) : Dev :=
  let d := (d.bump (uid cSTN n) .SHORT_BRIMS 1).report (uid cSTN n) 0x0309
  match d.page? ord with
  | some p => if p.state.terminal then d else d.endPage .missed 0x0309 p
  | none => d

/-- An edge with no page to bind: the medium passes unmarked (R214). -/
def Dev.edgeUnbound (n : Nat) (d : Dev) : Dev :=
  (d.bump (uid cSTN n) .EDGES_UNBOUND 1).report (uid cSTN n) 0x030D

/-- The captures of one edge are bound, first on every station, and then the short brims end their pages, so that one
edge takes one page (R146, R217). -/
def Dev.bindAll (caps : List (Nat × Int)) (d : Dev) : Dev :=
  let r := caps.foldl
    (fun (x : Dev × List (Nat × Nat)) c =>
      match x.1.unbound0 c.1 with
      | none => ((x.1.edgeUnbound c.1).updStn c.1 (fun s => { s with leLast := some c.2 }), x.2)
      | some p =>
        let y := x.1.bindTo c.1 p.order c.2
        (y.1, if y.2 then x.2 ++ [(c.1, p.order)] else x.2))
    (d, [])
  r.2.foldl (fun d x => d.shortBrim x.1 x.2) r.1

/-- A station takes an edge of its LE_CUE as a leading edge: always in sheet mode, in web mode only while it waits for a
real capture (R214, R215). -/
def Dev.takesEdge (d : Dev) (n : Nat) : Bool := !d.cfgB .stnPlace n .WEB || (d.stn.at n).webWait

/-- The sum of the pending corrections of a station (R229, R230). -/
def Stn.pendingSum (s : Stn) : Int := s.glides.foldl (fun a g => a + g.rem) 0 + s.pReg

/-- The expected register-mark position of a leading edge (R230). -/
def Dev.regExpect (d : Dev) (n : Nat) (le : Int) : Int :=
  le + 256 * d.cfg .stnPlace n .REG_OFFSET + (d.stn.at n).g + (d.stn.at n).pendingSum

/-- The leading edges bound at a station, also those of pages that have ended, by the order of their pages (R230). -/
def Dev.edges (d : Dev) (n : Nat) : List (Nat × Int) :=
  d.jobs.pages.filterMap (fun p =>
    if bit p.mask n && (p.stn.at n).bound then (p.stn.at n).le.map (fun le => (p.order, le)) else none)

/-- A register mark of a page has been captured or has passed. -/
def Dev.regDone (d : Dev) (n ord : Nat) : Bool := match d.page? ord with | some p => (p.stn.at n).regSeen | none => true

/-- Each capture of REG_CUE within the window of a page's expected mark adds REG_GAIN x e to P_reg (R230). -/
def Dev.regCapture (n : Nat) (cap : Int) (d : Dev) : Dev :=
  let win : Int := 256 * (d.cfgN .stnPlace n .REG_WINDOW : Nat)
  match (d.edges n).find? (fun x => absI (cap - d.regExpect n x.2) ≤ win) with
  | none => d
  | some (ord, le) =>
    let e := cap - d.regExpect n le
    let d := (d.updPg ord n (fun s => { s with regSeen := true })).bump (uid cSTN n) .REG_CAPTURES 1
    (d.updStn n (fun s => { s with pReg := s.pReg + shrR (d.cfg .stnPlace n .REG_GAIN * e) 8 })).linePlace n

/-- A page whose expected register mark has passed with no capture is flagged with 0x030C (R230). -/
def Dev.regMissing (n : Nat) (d : Dev) : Dev :=
  if !d.cfgB .stnPlace n .REG_EN then d
  else
    let win : Int := 256 * (d.cfgN .stnPlace n .REG_WINDOW : Nat)
    ((d.edges n).filter (fun x => !d.regDone n x.1 && d.regExpect n x.2 + win < d.place n)).foldl
      (fun d x =>
        let d := d.updPg x.1 n (fun s => { s with regSeen := true })
        let d := d.updPage x.1 (fun q => { q with reason := if q.reason = 0 then 0x030C else q.reason })
        (d.bump (uid cSTN n) .REG_MISSING 1).report (uid cSTN n) 0x030C)
      d

/-- A capture of a station's LE_CUE travels to the nodes downstream (R608). No message tells a node who has subscribed, so it
is flooded, and a node whose records do not name the station lets it pass (log entry 85). -/
def Dev.pageEdgeOut (n stamp : Nat) (d : Dev) : Dev :=
  let d := d.updStn n (fun s => { s with edgeSeq := nextSeq s.edgeSeq })
  d.flood none (.pageEdge n (d.stn.at n).edgeSeq stamp)

/-- The station binds captures: it is in use and the device is engaged. -/
def Dev.binding (d : Dev) (n : Nat) : Bool := d.stnOn n && (d.eng.st == .engaged || d.eng.st == .disengaging)

/-- CUE_EDGE: an edge of the configured polarity that lasts FILTER_NS, outside the hold-off, is accepted and stamped less
LATENCY_NS; each station that uses the cue takes it as a leading edge (R214, R215) or a register mark (R230). In MODE 1
the mark's centre is stamped and the hold-off runs from its end (R212, log entry 27). -/
def actCueEdge (t cue : Nat) (rising : Bool) (widthNs : Nat) (d : Dev) : Dev :=
  let d := d.enter t 6
  let u := uid cCUE cue
  if !d.bankUp .cues ∨ !d.has .cue cue ∨ d.ust u ≠ .run ∨ rising = d.cfgB .cue cue .POLARITY then d
  else if widthNs < d.cfgN .cue cue .FILTER_NS ∨ d.qns < d.cueHold.at cue then d.bump u .FILTERED 1
  else
    let centre : Bool := d.cfgN .cue cue .MODE == 1
    let stamp : Int := (d.qns : Int) + (if centre then 2 * (widthNs : Int) else 0) - 4 * d.cfg .cue cue .LATENCY_NS
    let hold := d.qns + (if centre then nsq widthNs else 0) + usq (d.cfgN .cue cue .HOLDOFF_US)
    let d := { d with cueHold := d.cueHold.set cue hold }.bump u .EDGES 1
    let le := (upTo 8).filter (fun n =>
      d.binding n && d.cfgN .stnPlace n .LE_SRC == 0 && d.cfgN .stnPlace n .LE_CUE == cue)
    let d := le.foldl (fun d n => d.pageEdgeOut n stamp.toNat) d
    let takes := le.filter d.takesEdge
    let d := takes.foldl (fun d n => d.updStn n (fun s => { s with webWait := false })) d
    let d := d.bindAll (takes.map (fun n => (n, d.mapTau n stamp)))
    ((upTo 8).filter (fun n => d.binding n && d.cfgB .stnPlace n .REG_EN && d.cfgN .stnPlace n .REG_CUE == cue)).foldl
      (fun d n => d.regCapture n (d.mapTau n stamp)) d

/-- CUE_EDGE (R212). -/
def execCueEdge (t : Nat) (cue : Fin 16) (rising : Bool) (widthNs : Nat) (s : State) : Host.Outcome State Fault Refusal :=
  .next { s with dev := actCueEdge t cue.val rising widthNs s.dev }

/-- VIRTUAL_LEADING_EDGE at LE_k + WEB_REPEAT, without rounding (R215, R216). While the oldest unbound page of the
station has LE_MODE 1 it binds no page (R219). -/
def actVirtualLeadingEdge (t n : Nat) (d : Dev) : Dev :=
  let d := d.enter t 6
  match (d.stn.at n).leLast with
  | none => d
  | some last =>
    if !d.binding n ∨ !d.cfgB .stnPlace n .WEB ∨ (d.stn.at n).webWait then d
    else
      let le := last + d.cfg .stnPlace n .WEB_REPEAT
      if d.place n < le then d
      else
      match d.unbound n with
      | some p =>
        if p.leMode then (d.edgeUnbound n).updStn n (fun s => { s with leLast := some le }) else d.bindAll [(n, le)]
      | none => d.bindAll [(n, le)]

/-- VIRTUAL_LEADING_EDGE (R215). -/
def execVirtualLeadingEdge (t : Nat) (stn : Fin 8) (s : State) : Host.Outcome State Fault Refusal :=
  .next { s with dev := actVirtualLeadingEdge t stn.val s.dev }

/-- LE_k of a page with LE_MODE 1 at its first active station, in 1/256 pu (R218). -/
def Dev.lePosOf (d : Dev) (p : Page) : Int := 256 * (p.lePos - d.cfg .stnPlace (d.firstStn p) .STN_OFFSET)

/-- LE_POS_REACHED: the lattice of the first active station reaches LE_k = LE_POS - STN_OFFSET, which counts as a capture of
LE_CUE and is sent on as one (R232); every other station of the page maps the instant into its own lattice (R218,
R219). -/
def actLePosReached (t job id : Nat) (d : Dev) : Dev :=
  let d := d.enter t 6
  match d.pageJ job id with
  | none => d
  | some p =>
    let f := d.firstStn p
    let first := d.lePosOf p
    if !d.binding f ∨ !p.leMode ∨ (p.state ≠ .queued ∧ p.state ≠ .armed) ∨ (p.stn.at f).bound ∨ d.place f < first then d
    else
      let ns := stnsOf p.mask
      let d := (ns.filter (fun n => d.cfgN .stnPlace n .LE_SRC == 0)).foldl (fun d n => d.pageEdgeOut n d.qns) d
      let r := ns.foldl
        (fun (x : Dev × List Nat) n =>
          let le := if n = f then first else x.1.mapTau n x.1.qns
          let d := x.1.updStn n (fun s => { s with webWait := false })
          let y := d.bindTo n p.order le
          (y.1, if y.2 then x.2 ++ [n] else x.2))
        (d, [])
      r.2.foldl (fun d n => d.shortBrim n p.order) r.1

/-- LE_POS_REACHED (R218). -/
def execLePosReached (t : Nat) (job page : Word) (s : State) : Host.Outcome State Fault Refusal :=
  .next { s with dev := actLePosReached t job.toNat page.toNat s.dev }

/-- A page is MISSED for a lost or late upstream edge (R233). -/
def Dev.upstreamGap (n ord : Nat) (d : Dev) : Dev :=
  let d := (d.bump (uid cSTN n) .UPSTREAM_GAPS 1).report (uid cSTN n) 0x030A
  match d.page? ord with
  | some p => if p.state.terminal then d else d.endPage .missed 0x030A p
  | none => d

/-- The time left until a leading edge is predicted to reach a station, beyond ARM_MARGIN_US, in qns (R147); without a
prediction none is left once the edge has passed. -/
def Dev.untilDeadline (d : Dev) (n : Nat) (le : Int) : Option Int :=
  match d.predict n (le + 256 * d.cfg .stnPlace n .STN_OFFSET) with
  | some x => some (x - d.qns - 4000 * (d.cfgN .host 0 .ARM_MARGIN_US : Nat))
  | none => if le + 256 * d.cfg .stnPlace n .STN_OFFSET ≤ d.place n then some (-1) else none

/-- The arm deadline of a leading edge has come (R147). -/
def Dev.atDeadline (d : Dev) (n : Nat) (le : Int) : Bool := (d.untilDeadline n le).any (· ≤ 0)

/-- The arm deadline of a leading edge is over (R147, R233). -/
def Dev.pastDeadline (d : Dev) (n : Nat) (le : Int) : Bool := (d.untilDeadline n le).any (· < 0)

/-- An upstream edge reaches CORE after the arm deadline of the page it would bind: the deadline is that of the page's
first active station (R147, R233). -/
def Dev.edgeLate (d : Dev) (p : Page) (tEdge : Nat) : Bool :=
  let f := d.firstStn p
  d.pastDeadline f ((p.stn.at f).le.getD (d.mapTau f tEdge))

/-- PAGE_EDGE: an upstream capture is bound as a local one, on every station that takes it together; a gap in EDGE_SEQ or
an edge after the arm deadline ends the page it would bind in MISSED with 0x030A and is consumed (R232, R233). -/
def actPageEdge (t node stn seq tEdge : Nat) (d : Dev) : Dev :=
  let d := d.enter t 6
  let ns := (upTo 8).filter (fun n =>
    d.binding n && d.cfgN .stnPlace n .LE_SRC == 1 && d.nodeNamed (d.cfgN .stnPlace n .UPSTREAM_NODE) == node
      && d.cfgN .stnPlace n .UPSTREAM_STN == stn)
  let gap (n : Nat) : Bool := seq != nextSeq (d.stn.at n).upSeq
  let caps := (ns.filter d.takesEdge).map (fun n => (n, d.mapTau n tEdge))
  let page (n : Nat) : Option Nat := (d.unbound0 n).map (·.order)
  let doomed := caps.filterMap (fun c => match d.unbound0 c.1 with
    | some p => if gap c.1 || d.edgeLate p tEdge then some (c.1, p.order) else none
    | none => none)
  let lost (n : Nat) : Bool := match page n with | some o => doomed.any (fun x => x.2 == o) | none => false
  let d1 := ns.foldl (fun d n => d.updStn n (fun s => { s with upSeq := seq })) d
  let d2 := caps.foldl (fun d c => d.updStn c.1 (fun s =>
    { s with webWait := false, leLast := if lost c.1 then some c.2 else s.leLast })) d1
  doomed.foldl (fun d x => d.upstreamGap x.1 x.2) (d2.bindAll (caps.filter (fun c => !lost c.1)))

/-- PAGE_EDGE (R232). -/
def execPageEdge (t : Nat) (node : Half) (stn : Fin 8) (seq : Word) (tEdge : DWord) (s : State) :
    Host.Outcome State Fault Refusal :=
  .next { s with dev := actPageEdge t node.toNat stn.val seq.toNat tEdge.toNat s.dev }

/-- A leading edge has reached a station that is not its page's first: the station works on the page (R150). -/
def Dev.beginAt (n : Nat) (d : Dev) : Dev :=
  ((d.stnPages n).filter (fun p => p.state == .marking && !(p.stn.at n).begun &&
      (match (p.stn.at n).le with
        | some le => (p.stn.at n).bound && le + 256 * d.cfg .stnPlace n .STN_OFFSET ≤ d.place n
        | none => false))).foldl
    (fun d p => (d.updPg p.order n (fun s => { s with begun := true })).rest (uid cSTN n) .run) d

/-- A lattice edge ends idle spitting at once (R281). -/
def Dev.endIdle (n : Nat) (d : Dev) : Dev :=
  if (d.stn.at n).spit.idle.isNone then d
  else (d.updStn n (fun s => { s with spit := { s.spit with idle := none } })).rest (uid cSTN n) .armed

/-- The travel of the primary and secondary encoders since the last brim is compared, in pu of the station; a difference
beyond XCHK_TOL is flagged once per brim interval (R238). -/
def Dev.xchk (n : Nat) (d : Dev) : Dev :=
  if !d.cfgB .stnPlace n .SEC_EN then d
  else
    let s := d.stn.at n
    let e2 := d.cfgN .stnPlace n .SEC_ENC
    let pri := (d.enc.at (d.cfgN .stnPlace n .PRI_ENC)).count
    let sec := (d.enc.at e2).count
    let den : Int := 256 * (d.cfgN .stnPlace n .SCALE_DEN : Nat)
    let num : Int := (d.cfgN .stnPlace n .SCALE_NUM : Nat)
    let dp := rdiv ((pri - s.priBase) * den) num
    let ds := rdiv ((sec - s.secBase) * (d.cfgN .enc e2 .COUNT_NM : Nat) * den) (num * (d.countNm n : Nat))
    if s.xchkDone ∨ absI (dp - ds) ≤ (d.cfgN .stnPlace n .XCHK_TOL : Nat) then d
    else
      let d := ((d.updStn n (fun s => { s with xchkDone := true })).bump (uid cSTN n) .XCHK_EVENTS 1).report (uid cSTN n) 0x0307
      if d.cfgB .stnPlace n .XCHK_ACTION then d.refLoss n 0x0206 else d

/-- The comparison of a brim, after which the travel starts over (R238). -/
def Dev.xchkBrim (n : Nat) (d : Dev) : Dev :=
  if !d.cfgB .stnPlace n .SEC_EN then d
  else
    (d.xchk n).updStn n (fun s => { s with
      priBase := (d.enc.at (d.cfgN .stnPlace n .PRI_ENC)).count, secBase := (d.enc.at (d.cfgN .stnPlace n .SEC_ENC)).count
      xchkDone := false })

/-- The net counts of a station's quadrature encoders; an SSI encoder's come with its words (R204, R241). -/
def Dev.edgeCounts (n : Nat) (pri sec : Int) (d : Dev) : Dev :=
  let e := d.cfgN .stnPlace n .PRI_ENC
  let e2 := d.cfgN .stnPlace n .SEC_ENC
  let d := if d.cfgN .enc e .MODE = 1 then d else d.setCount e pri
  if d.cfgB .stnPlace n .SEC_EN ∧ d.cfgN .enc e2 .MODE ≠ 1 then d.setCount e2 sec else d

/-- The multiples of 32 pu that the lattice comes to on its way from one position to another, in order, the last 1,024 of
them (R208, R210). -/
def stampsOn (a b : Int) : List Int :=
  if a ≤ b then (upTo (min 1024 (b / 32 - a / 32).toNat)).reverse.map (fun (i : Nat) => 32 * (b / 32 - i))
  else (upTo (min 1024 (-(-a / 32) - -(-b / 32)).toNat)).reverse.map (fun (i : Nat) => 32 * (-(-b / 32) + i))

/-- The lattice moves to a position, and every multiple of 32 pu on the way is stamped (R208). The command brings the instant
of its last edge; that of an edge before it lies between, and is open (log entry 114). -/
def Dev.moveLattice (n : Nat) (pos : Int) (d : Dev) : Dev :=
  let s := d.stn.at n
  let push (p : Int) (t : Nat) (d : Dev) : Dev := d.updStn n (fun s => { s with stamps := ((p, t) :: s.stamps).take 1024 })
  let d := ((stampsOn s.lattice pos).foldl
    (fun (x : Dev × Nat) p =>
      if p = pos then (push p x.1.qns x.1, x.2)
      else
        let t := x.2 + x.1.freeVal % (x.1.qns - x.2 + 1)
        (push p t x.1.freeNext, t))
    (d, s.edgeAt)).1
  d.updStn n (fun x => { x with lattice := pos, edgeAt := d.qns, back := pos < s.lattice })

/-- The lattice edges of a command: in FOLLOW those that the counts bring, in the share of each (R543). -/
def Dev.edgesOf (d : Dev) (n : Nat) (edges pri : Int) : Int :=
  let e := d.cfgN .stnPlace n .PRI_ENC
  if (d.pll.at (n + 2)).follow ∧ d.cfgN .enc e .MODE ≠ 1 then (d.shareOf n (pri - (d.enc.at e).count)).1 else edges

/-- The fractional accumulator keeps what the counts leave of an edge (R543). -/
def Dev.keepShare (n : Nat) (pri : Int) (d : Dev) : Dev :=
  let e := d.cfgN .stnPlace n .PRI_ENC
  if (d.pll.at (n + 2)).follow ∧ d.cfgN .enc e .MODE ≠ 1 then
    d.updStn n (fun s => { s with share := (d.shareOf n (pri - (d.enc.at e).count)).2 })
  else d

/-- LATTICE_STAMP: `edges` lattice edges have come since the latest, forward or, below 0, backward; each moves the 64-bit
lattice counter by 1 (R201), in FOLLOW the counts' share of them (R543). At a multiple of 32 pu the lattice is stamped
(R208); the last 1,024 stamps are kept (R210). Motion backward during MARKING is reported with 0x030E (R227). `pri` and
`sec` are the net counts of the encoders (R235, R238). -/
def actLatticeStamp (t n : Nat) (edges pri sec : Int) (d : Dev) : Dev :=
  let d := d.enter t 7
  if !d.stnOn n ∨ !d.bankUp .encoders ∨ edges = 0 then d
  else
    let s := d.stn.at n
    let edges := d.edgesOf n edges pri
    let d := d.keepShare n pri
    if edges = 0 then (d.edgeCounts n pri sec).xchk n
    else
    let turned := edges < 0 && !s.back
    let d := (d.moveLattice n (sx 64 (tc 64 (s.lattice + edges)))).edgeCounts n pri sec
    let d := d.reportIf (turned && !d.inBrim n) (uid cSTN n) 0x030E
    (((d.endIdle n).beginAt n).regMissing n).xchk n

/-- LATTICE_STAMP (R208). -/
def execLatticeStamp (t : Nat) (stn : Fin 8) (edges : Int) (counts : EncCounts) (s : State) :
    Host.Outcome State Fault Refusal :=
  .next { s with dev := actLatticeStamp t stn.val edges counts.pri counts.sec s.dev }

/-- The stations whose primary encoder is `e`. -/
def Dev.stnsOfEnc (d : Dev) (e : Nat) : List Nat := d.stations.filter (fun n => d.cfgN .stnPlace n .PRI_ENC == e)

/-- An encoder input fails: ENC in FAULT with 0x0303, its stations lose their reference (R234). -/
def Dev.encLost (e : Nat) (d : Dev) : Dev :=
  let d := { d with enc := d.enc.upd e (fun x => { x with bad := true }) }
  let d := d.report (uid cENC e) 0x0303 (some .fault)
  (d.stnsOfEnc e).foldl (fun d n => d.refLoss n 0x0206) d

/-- QUAD_ERROR: an illegal transition is counted with 0x0310; four within 256 pu lose the reference (R234). -/
def actQuadError (t e : Nat) (d : Dev) : Dev :=
  let d := d.enter t 7
  if !d.bankUp .encoders ∨ !d.has .enc e ∨ d.cfgN .enc e .MODE ≠ 0 then d
  else
    let d := (d.bump (uid cENC e) .QUAD_ERRORS 1).report (uid cENC e) 0x0310
    (d.stnsOfEnc e).foldl
      (fun d n =>
        let p := d.place n
        let q := (p :: (d.stn.at n).quad).take 4
        let d := d.updStn n (fun s => { s with quad := q })
        match q with
        | [_, _, _, o] => if absI (p - o) ≤ 65536 then d.refLoss n 0x0206 else d
        | _ => d)
      d

/-- QUAD_ERROR (R234). -/
def execQuadError (t : Nat) (enc : Fin 48) (s : State) : Host.Outcome State Fault Refusal :=
  .next { s with dev := actQuadError t enc.val s.dev }

/-- OVERSPEED: a lattice rate above 51.2 MHz, handled as a loss of reference (R206). -/
def actOverspeed (t n : Nat) (d : Dev) : Dev :=
  let d := d.enter t 7
  if d.stnOn n then (d.report (uid cSTN n) 0x030F).refLoss n 0x0206 else d

/-- OVERSPEED (R206). -/
def execOverspeed (t : Nat) (stn : Fin 8) (s : State) : Host.Outcome State Fault Refusal :=
  .next { s with dev := actOverspeed t stn.val s.dev }

/-- COAST_SPENT: COAST_MAX lines have been issued while coasting; every later line of the page is blanked, with 0x0305
(R235). -/
def actCoastSpent (t n : Nat) (d : Dev) : Dev :=
  let d := d.enter t 7
  match d.marking n with
  | none => d
  | some p =>
    if !(d.stn.at n).coasting ∨ (p.stn.at n).cut ∨ (p.stn.at n).coastLines < d.cfgN .stnPlace n .COAST_MAX then d
    else
      ((d.updPg p.order n (fun s => { s with cut := true })).updPage p.order (fun q => q.mark fBLANKED 0x0305)).report
        (uid cSTN n) 0x0305

/-- COAST_SPENT (R235). -/
def execCoastSpent (t : Nat) (stn : Fin 8) (s : State) : Host.Outcome State Fault Refusal :=
  .next { s with dev := actCoastSpent t stn.val s.dev }

/-- A GLIDE ticket ends when its remainder is 0 on every station it names (R231). -/
def Dev.glideDone (slot : Nat) (d : Dev) : Dev :=
  if (upTo 8).any (fun n => (d.stn.at n).glides.any (fun g => g.slot == slot)) then d else d.finish slot 0 0

/-- GLIDE_STEP: at each 256 pu of lattice travel G takes a step of the glide queue and of the register correction, at most
GLIDE_SLOPE in all (R228, R231); where the lattice has reached no other multiple of 256 pu there is no step. -/
def actGlideStep (t n : Nat) (d : Dev) : Dev :=
  let d := d.enter t 7
  let at_ := d.place n / 65536
  if !d.binding n ∨ at_ = (d.stn.at n).gAt then d
  else
    let d := d.updStn n (fun s => { s with gAt := at_ })
    let s := d.stn.at n
    let slope : Int := (d.cfgN .stnPlace n .GLIDE_SLOPE : Nat)
    match s.glides with
    | [] =>
      let sr := clampI (-slope) slope s.pReg
      ((d.updStn n (fun s => { s with pReg := s.pReg - sr, g := s.g + sr })).linePlace n).regMissing n
    | h :: r =>
      let st := clampI (-h.slope) h.slope h.rem
      let room := slope - absI st
      let sr := clampI (-room) room s.pReg
      let h := { h with rem := h.rem - st }
      let d := d.updStn n (fun s => { s with
        pReg := s.pReg - sr, g := s.g + st + sr, glides := if h.rem = 0 then r else h :: r })
      let d := if h.rem = 0 then d.glideDone h.slot else d
      (d.linePlace n).regMissing n

/-- GLIDE_STEP (R231). -/
def execGlideStep (t : Nat) (stn : Fin 8) (s : State) : Host.Outcome State Fault Refusal :=
  .next { s with dev := actGlideStep t stn.val s.dev }

/-- The position engine at engagement: lattice, stamps, G and remainders at 0 (R201, R228). -/
def Dev.positionEngage (d : Dev) : Dev :=
  let slots := (d.stations.flatMap (fun n => (d.stn.at n).glides.map (·.slot))).eraseDups
  let d := d.stations.foldl
    (fun d n => d.updStn n (fun s =>
      { s with
        lattice := 0, stamps := [], leLast := none, prevEnd := none, prevOrd := 0, webWait := false, g := 0, pReg := 0
        gAt := 0, glides := [], quad := [], back := false, share := 0
        priBase := (d.enc.at (d.cfgN .stnPlace n .PRI_ENC)).count
        secBase := (d.enc.at (d.cfgN .stnPlace n .SEC_ENC)).count, xchkDone := false, eLast := 0, eLane := false, upSeq := 0
        edgeSeq := 0, builds := [], pending := [], swaps := [], spit := {}, edgeAt := d.qns
        coasting := s.coasting && !s.refBack })) d
  slots.foldl (fun d k => d.glideDone k) { d with cueHold := [] }

end Sys2Proof.Machine
end

