-- ==== Sys2Proof/Machine/Nozzle.lean ====
section
/-! DEFINITION. From plane to levels at a jet station (R243 to R260), nozzle states (R291 to R295, R311 to R313),
compensation (R297 to R303), the duty limits (R271 to R273), and the test patterns of jet stations (R407, R408). -/

namespace Sys2Proof.Machine

/-- The row of nozzle `m` of lane `l`. -/
def Dev.nozRowOf (d : Dev) (l m : Nat) : Nat := nozRow (d.nozWord l m)

/-- L_r of nozzle `m`'s row (R249). -/
def Dev.nozLines (d : Dev) (l m : Nat) : Nat := (d.rowLines d.cal.recs l (d.nozRowOf l m)).toNat

/-- The fire events of a page at a jet station (R252), or its lines at a scan station. -/
def Dev.eventsOf (d : Dev) (n : Nat) (p : Page) : Nat := p.lines + d.lMax n

/-- A nozzle of a lane (R291). -/
def Dev.noz (d : Dev) (l m : Nat) : Noz := (d.lane.at l).noz.at m

/-- A nozzle changed; a change of its state is lined (R648). -/
def Dev.updNoz (l m : Nat) (f : Noz → Noz) (d : Dev) : Dev :=
  let was := (d.noz l m).st
  let d := d.updLane l (fun x => { x with noz := x.noz.upd m f })
  let st := (d.noz l m).st
  if st = was then d else d.delta (.nozzle (Fin.ofNat 256 l) (BitVec.ofNat 12 m) (BitVec.ofNat 2 st))

/-- A state that takes effect at an event of a page has taken effect at another (R295). -/
def reached (since : Option (Nat × Nat)) (ord k : Nat) : Bool :=
  match since with
  | none => true
  | some (o, e) => o < ord || (o == ord && e ≤ k)

/-- Every nozzle of a lane in FAULT with 0x0709 is OUT (R290). -/
def Dev.laneAllOut (d : Dev) (l : Nat) : Bool := (d.lane.at l).allOut.isSome && d.ust (uid cLANE l) == .fault

/-- The state of a nozzle in the nozzle state table: 0 IN, 1 SUSPECT, 2 OUT (R290, R291). -/
def Dev.nozSt (d : Dev) (l m : Nat) : Nat := if d.laneAllOut l then 2 else (d.noz l m).st

/-- A nozzle is handled as OUT in event `k` of a page: its own state (R291), its lane's (R290), or its lane's link
(R393). -/
def Dev.nozOut (d : Dev) (l m ord k : Nat) : Bool :=
  let z := d.noz l m
  !d.laneUsable l
    || (d.laneAllOut l && reached (d.lane.at l).allOut ord k)
    || (z.st == 2 && reached z.outFrom ord k)

/-- Lane `l` prints column `j` of its zone with lane `l + 1` on plane line `y` (R259). -/
def Dev.lowerPrints (d : Dev) (l y j : Nat) : Bool :=
  match d.stitchMask d.cal.recs l with
  | some b => bit b (32 + 128 * ((y + d.cfgN .stnJet (l / 32) .MASK_PHASE) % 64) + j)
  | none => 2 * j < (d.zone d.cal.recs l).length

/-- For a nozzle of a stitch zone, the other lane and nozzle, and whether this one is chosen for plane line `y` (R257,
R259); `lower` overrides the choice of the lower lane (R407). -/
def Dev.stitch (d : Dev) (l m y : Nat) (lower : Option Bool) : Option (Nat × Nat × Bool) :=
  let cs := d.cal.recs
  let c := d.column cs l m
  let choose (low : Nat) : Bool := lower.getD (d.lowerPrints low y (c - (d.zone cs low).headD c).toNat)
  match if l % 32 = 31 ∨ !(d.lanesOf (l / 32)).contains (l + 1) then [] else d.laneCol cs (l + 1) c with
  | m2 :: _ => some (l + 1, m2, choose l)
  | [] =>
    match if l % 32 = 0 ∨ !(d.lanesOf (l / 32)).contains (l - 1) then [] else d.laneCol cs (l - 1) c with
    | m2 :: _ => some (l - 1, m2, !choose (l - 1))
    | [] => none

/-- Rung or band of a test pattern at event `k` (R405, R407). -/
def Dev.testField (d : Dev) (n : Nat) (f : F) : Nat := d.cfgN .testPattern n f

/-- The level of a nozzle in event `k` of a test page before any stitch choice (R407). -/
def Dev.testLevel (d : Dev) (p : Page) (l m k : Nat) : Nat :=
  let n := l / 32
  let mark := d.testField n .MARK_LEVEL
  let comb (x : Int) : Bool := x % (d.testField n .COMB_PITCH : Int) == (p.phase : Int)
  let band := k / max 1 (d.testField n .RUNG_LINES)
  if p.pattern = 1 then
    if (d.stitch l m k (some (band % 2 == 0))).isSome ∨ comb (d.column d.cal.recs l m) then mark else 0
  else if p.pattern = 2 then
    if d.nozRowOf l m = (if p.each then band % d.rows l else p.select) ∧ comb m then mark else 0
  else if p.pattern = 3 then 1 + k / max 1 (d.testField n .BLOCK_LINES) % 7
  else 0

/-- The level of pixel `c` of plane line `y` of a page (R134, R250); blank and lost lines are level 0 (R166, R254). -/
def Dev.pixLevel (d : Dev) (p : Page) (n y : Nat) (c : Int) (lost : Bool) : Nat :=
  if p.spans.any (fun s => s.blank && s.covers n y) ∨ (!lost && (p.stn.at n).lost.contains y) then 0
  else p.level (pixelOf (d.lineData p n y) p.bpp c.toNat)

/-- A nozzle is the one that its stitch zone chooses for a plane line, or lies in none (R259). -/
def Dev.chosen (d : Dev) (l m y : Nat) (lower : Option Bool) : Bool := (d.stitch l m y lower).elim true (·.2.2)

/-- The choice of the lower lanes that a test page of pattern 1 makes at event `k` (R407). -/
def Dev.testLower (d : Dev) (p : Page) (n k : Nat) : Option Bool :=
  if p.test then some (k / max 1 (d.testField n .RUNG_LINES) % 2 == 0) else none

/-- The plane line that nozzle `m` of lane `l` prints in event `k` (R251); a test page's lines are its events (R407), and its
pattern ends with its length. -/
def Dev.lineOf (d : Dev) (p : Page) (l m k : Nat) : Option Nat :=
  if p.test then (if k < p.lines then some k else none)
  else if d.nozLines l m ≤ k ∧ k - d.nozLines l m < p.lines then some (k - d.nozLines l m)
  else none

/-- The event in which nozzle `m` of lane `l` prints plane line `y` (R251). -/
def Dev.eventAt (d : Dev) (p : Page) (l m y : Nat) : Nat := if p.test then y else y + d.nozLines l m

/-- The level of nozzle `m` of lane `l` in event `k` after the choice of R259 (R243, R251); `lost` gives what a lost line's
bytes say (R305). A SPARE nozzle fires only volume moved to it (R246), on a test page too (log entry 115). -/
def Dev.levelOf (d : Dev) (p : Page) (l m k : Nat) (lost : Bool) : Nat :=
  let n := l / 32
  match if nozSpare (d.nozWord l m) then none else d.lineOf p l m k with
  | none => 0
  | some y =>
    if p.test then
      if lost then 0
      else if p.pattern ≠ 1 ∨ d.chosen l m y (d.testLower p n k) then d.testLevel p l m k
      else 0
    else if lost != (p.stn.at n).lost.contains y then 0
    else if d.chosen l m y none then d.pixLevel p n y (d.column d.cal.recs l m) lost
    else 0

/-- Volume of levels in a set. -/
def Dev.volume (d : Dev) (n set : Nat) (lv : List Nat) : Nat := lv.foldl (fun a x => a + d.vol n set x) 0

/-- Steps 1 to 3 of R243 for a lane, at build start. -/
def Dev.buildLane (d : Dev) (p : Page) (l k : Nat) : LaneEv :=
  { lv3 := (upTo (d.nozzles l)).map (fun m => d.levelOf p l m k false)
    lost := d.volume (l / 32) (p.set (l / 32)) ((upTo (d.nozzles l)).map (fun m => d.levelOf p l m k true)) }

/-- A lane's part of an event in build. -/
def Dev.laneEv (d : Dev) (n : Nat) (p : Page) (k l : Nat) : Option LaneEv :=
  ((d.stn.at n).builds.find? (fun b => b.ord == p.order && b.k == k)).map (fun b => b.lanes.at l)

/-- A lane's part of an event of a page is over. -/
def Dev.laneOver (d : Dev) (n : Nat) (p : Page) (k l : Nat) : Bool :=
  k < (p.stn.at n).done || (d.laneEv n p k l).any (·.ended)

/-- Step 4 of an event of a page has run on a lane, or its part is over (R294). -/
def Dev.laneStepped (d : Dev) (n : Nat) (p : Page) (k l : Nat) : Bool :=
  k < (p.stn.at n).done || (d.laneEv n p k l).any (fun e => e.step4 || e.ended)

/-- Lanes of fire events in build on which step 4 has not run are built again (R243, R305, R414). -/
def Dev.rebuild (n : Nat) (d : Dev) : Dev :=
  let bs := (d.stn.at n).builds.map (fun b =>
    match d.page? b.ord with
    | some p =>
      { b with lanes := (d.lanesOf n).map (fun l =>
        (l, if (b.lanes.at l).ended || (b.lanes.at l).step4 then b.lanes.at l else d.buildLane p l b.k)) }
    | none => b)
  if d.isJet n then d.updStn n (fun s => { s with builds := bs }) else d

/-- The stitch swap of the pixel that nozzle `m` of lane `l` prints in event `k`, were it decided now (R260): the chosen
nozzle is OUT in its event, and the other is not in its own. It makes the chosen nozzle's level 0 and the other's the
pixel's. -/
def Dev.pairSwap (d : Dev) (p : Page) (l m k : Nat) : List Swap :=
  match if nozSpare (d.nozWord l m) ∨ !d.cfgB .stnJet (l / 32) .STITCH_SWAP_EN ∨ (p.test ∧ p.pattern ≠ 1) then none
    else d.lineOf p l m k with
  | none => []
  | some y =>
    match d.stitch l m y (d.testLower p (l / 32) k) with
    | none => []
    | some (l2, m2, mine) =>
      let k2 := d.eventAt p l2 m2 y
      let a : Nat × Nat × Nat := if mine then (l, m, k) else (l2, m2, k2)
      let b : Nat × Nat × Nat := if mine then (l2, m2, k2) else (l, m, k)
      let lv := d.levelOf p a.1 a.2.1 a.2.2 false
      let n := l / 32
      if lv ≠ 0 ∧ d.nozOut a.1 a.2.1 p.order a.2.2 ∧ !d.nozOut b.1 b.2.1 p.order b.2.2
          ∧ !d.laneStepped n p a.2.2 a.1 ∧ !d.laneStepped n p b.2.2 b.1 then
        [{ ord := p.order, lane := a.1, nozzle := a.2.1, event := a.2.2, level := 0 },
          { ord := p.order, lane := b.1, nozzle := b.2.1, event := b.2.2, level := lv }]
      else []

/-- The event in which the swap of a nozzle's pixel is decided: the earlier of the two that can print it (log entry 78). -/
def Dev.swapEvent (d : Dev) (p : Page) (l m k : Nat) : Nat :=
  match d.lineOf p l m k with
  | none => k
  | some y =>
    match d.stitch l m y (d.testLower p (l / 32) k) with
    | some (l2, m2, _) => min k (d.eventAt p l2 m2 y)
    | none => k

/-- The stitch swaps decided as step 4 of event `k` of a page runs on lanes: of each pixel that its first nozzle prints
now. -/
def Dev.swapsAt (d : Dev) (p : Page) (lanes : List Nat) (k : Nat) : List Swap :=
  (lanes.flatMap (fun l => (upTo (d.nozzles l)).flatMap (fun m =>
    if d.swapEvent p l m k = k then d.pairSwap p l m k else []))).eraseDups

/-- What stitch swaps make of the levels of a lane in an event (R260). -/
def swapped (xs : List Swap) (ord l k : Nat) (lv : List Nat) : List Nat :=
  (xs.filter (fun x => x.ord == ord && x.lane == l && x.event == k)).foldl (fun lv x => lv.set x.nozzle x.level) lv

/-- The highest level whose volume exceeds that of level `b` by at most `r` (R299). -/
def Dev.raiseTo (d : Dev) (n set b r : Nat) : Nat :=
  (upTo 8).foldl (fun u x => if b ≤ x ∧ d.vol n set x ≤ d.vol n set b + r then max u x else u) b

/-- The levels of a lane with its raises placed in order, each re-checked (R301): what a raise can no longer place is
unplaceable. -/
def Dev.placeRaises (d : Dev) (p : Page) (k : Nat) (e : LaneEv) : LaneEv :=
  e.raises.foldl
    (fun e q =>
      let n := q.lane / 32
      let set := p.set n
      let b := e.lv.getD q.nozzle 0
      let u := if d.nozOut q.lane q.nozzle p.order k then b else d.raiseTo n set b q.vol
      let got := d.vol n set u - d.vol n set b
      { e with lv := e.lv.set q.nozzle u, arr := e.arr + got, unplacedHeld := e.unplacedHeld + (q.vol - got) })
    { e with lv := e.own, arr := 0, unplacedHeld := 0 }

/-- What step 4 works on: the lanes of the event, the pending store, the swaps that reach later events, and whether the
store was full. -/
structure Comp where
  evs : Tbl LaneEv
  pend : List Raise
  swaps : List Swap
  peak : Nat := 0
  full : Bool := false
  deriving DecidableEq, Repr

/-- The planned level of a receiver in a later event (R299): its own after step 3, with the stitch swap decided for it, or
decided now where its time has not come, and the raises already planned. -/
def Dev.planned (d : Dev) (p : Page) (c : Comp) (l m ev : Nat) : Nat :=
  let same (x : Swap) : Bool := x.ord == p.order && x.lane == l && x.nozzle == m && x.event == ev
  let own :=
    match (c.swaps ++ d.pairSwap p l m ev).find? same with
    | some x => x.level
    | none => d.levelOf p l m ev false
  (c.pend.filter (fun q => q.ord == p.order && q.lane == l && q.nozzle == m && q.event == ev)).foldl
    (fun a q => max a q.lvTo) own

/-- One offer of remaining volume to a receiver (R298 to R300); returns what is left. A raise in the same event is made at
once where step 4 has run on the receiver's lane; one for a later step 4 is held, and an event whose step 4 has run takes
none (log entry 112). -/
def Dev.offer (d : Dev) (p : Page) (l k rl : Nat) (x : Comp × Nat) (recv : Nat × Nat) : Comp × Nat :=
  let (c, r) := x
  let (rL, rm) := recv
  let n := l / 32
  let set := p.set n
  let rr := d.nozLines rL rm
  let ev := k + rr - rl
  let now : Bool := rr == rl && (c.evs.at rL).step4
  if r = 0 ∨ rr < rl ∨ d.nozOut rL rm p.order ev ∨ d.laneOver n p ev rL ∨ (!now ∧ d.laneStepped n p ev rL) then (c, r)
  else
    let b := if now then (c.evs.at rL).lv.getD rm 0 else d.planned p c rL rm ev
    let u := d.raiseTo n set b r
    let got := d.vol n set u - d.vol n set b
    let q : Raise :=
      { ord := p.order, srcLane := l, srcEvent := k, lane := rL, nozzle := rm, event := ev, lvTo := u, vol := got }
    if got = 0 then (c, r)
    else if now then
      ({ c with evs := c.evs.upd rL (fun e => d.placeRaises p k { e with raises := e.raises ++ [q] }) }, r - got)
    else if 4096 ≤ c.pend.length then
      ({ c with full := true, evs := c.evs.upd l (fun e => { e with unplaced := e.unplaced + got }) }, r - got)
    else ({ c with pend := c.pend ++ [q], peak := max c.peak (c.pend.length + 1) }, r - got)

/-- The nozzle chosen for a column on plane line `y` (R259, R407). -/
def Dev.chosenFor (d : Dev) (n : Nat) (col : Int) (y : Nat) (lower : Option Bool) : Option (Nat × Nat) :=
  let all := (d.lanesOf n).flatMap (fun l => (d.laneCol d.cal.recs l col).map (fun m => (l, m)))
  match all.find? (fun x => d.chosen x.1 x.2 y lower) with
  | some x => some x
  | none => all.head?

/-- The receivers of an OUT nozzle, in order (R297). -/
def Dev.receivers (d : Dev) (l m y : Nat) (lower : Option Bool) : List (Nat × Nat) :=
  let n := l / 32
  let partner := nozPartner (d.nozWord l m)
  let c := d.column d.cal.recs l m
  let cols := (upTo (d.cfgN .health n .SPREAD_MAX)).flatMap (fun (i : Nat) => [c - ((i : Int) + 1), c + ((i : Int) + 1)])
  (if d.cfgB .health n .PARTNER_EN ∧ partner ≠ m then [(l, partner)] else [])
    ++ (cols.filter (fun x => 0 ≤ x ∧ x < d.cfg .stnJet n .PLANE_COLS)).filterMap (fun x => d.chosenFor n x y lower)

/-- The volume of one OUT nozzle's drop is offered on (R297, R302); a pattern 2 or 3 places nothing (R408), and so does a
line whose reader was cut off (R180). -/
def Dev.compensate (d : Dev) (p : Page) (k : Nat) (cut : Bool) (c : Comp) (lm : Nat × Nat) : Comp :=
  let (l, m) := lm
  let lv := (c.evs.at l).lv3.getD m 0
  if lv = 0 ∨ (c.evs.at l).ended ∨ !d.nozOut l m p.order k then c
  else
    let vol := d.vol (l / 32) (p.set (l / 32)) lv
    let recv := if cut ∨ (p.test ∧ p.pattern ≠ 1) then [] 
      else d.receivers l m (if p.test then k else k - d.nozLines l m) (d.testLower p (l / 32) k)
    let x := recv.foldl (d.offer p l k (d.nozLines l m)) (c, vol)
    { x.1 with evs := x.1.evs.upd l (fun e => { e with unplaced := e.unplaced + x.2 }) }

/-- A lane at the beginning of step 4: the swaps that reach it are made, every OUT nozzle is at 0 (R297), and the raises
held for it are re-checked (R301). -/
def Dev.openLane (d : Dev) (p : Page) (k l : Nat) (swaps : List Swap) (due : List Raise) (e : LaneEv) : LaneEv :=
  if e.ended then e
  else
    let lv3 := swapped swaps p.order l k e.lv3
    let own := lv3.zipIdx.map (fun x => if x.1 ≠ 0 ∧ d.nozOut l x.2 p.order k then 0 else x.1)
    d.placeRaises p k { e with lv3 := lv3, own := own, raises := due.filter (·.lane == l), step4 := true }

/-- Step 4 of R243 for an event of a page on the lanes whose time has come: the stitch swaps (R260), the raises held for
them, then every OUT nozzle in the order of lanes and nozzles. -/
def Dev.step4 (d : Dev) (p : Page) (n k : Nat) (cut : Bool) (lanes : List Nat) (evs : Tbl LaneEv) : Comp :=
  let s := d.stn.at n
  let here (q : Raise) : Bool := q.ord == p.order && q.event == k && lanes.contains q.lane
  let now (x : Swap) : Bool := x.ord == p.order && x.event == k && lanes.contains x.lane
  let swaps := s.swaps ++ d.swapsAt p lanes k
  let due := s.pending.filter here
  let c : Comp := {
    evs := (d.lanesOf n).map (fun l => (l, if lanes.contains l then d.openLane p k l swaps due (evs.at l) else evs.at l))
    pend := s.pending.filter (fun q => !here q), swaps := swaps.filter (fun x => !now x) }
  (lanes.flatMap (fun l => (upTo (d.nozzles l)).map (fun m => (l, m)))).foldl (d.compensate p k cut) c

/-- How many of the 63 events before hold a fire of a nozzle (R271). -/
def dutyCount (w : DWord) : Nat := (upTo 63).foldl (fun a i => if w.getLsbD i then a + 1 else a) 0

/-- Step 5: a drop that would be the (DUTY_M + 1)th in 64 events is removed (R271): levels, volume and drops removed. -/
def Dev.dutyLimit (d : Dev) (l set : Nat) (lv : List Nat) : List Nat × Nat × Nat :=
  let spent (m x : Nat) : Bool := x != 0 && d.cfgN .stnJet (l / 32) .DUTY_M ≤ dutyCount (d.noz l m).duty
  let gone := (lv.zipIdx).filter (fun x => spent x.2 x.1)
  ((lv.zipIdx).map (fun x => if spent x.2 x.1 then 0 else x.1), d.volume (l / 32) set (gone.map (·.1)), gone.length)

/-- The next firing nozzle from a cursor, in 12-bit bit-reversed order, and the cursor after it (R272). -/
def nextFiring (lv : List Nat) (cursor : Nat) : Option (Nat × Nat) :=
  ((upTo 4096).find? (fun i => lv.getD (bitRev 12 ((cursor + i) % 4096)) 0 != 0)).map
    (fun i => (bitRev 12 ((cursor + i) % 4096), (cursor + i + 1) % 4096))

/-- What step 6 leaves of an event: levels, energy, cursor, volumes thinned and trimmed, and how often each happened. -/
structure Reduced where
  lv : List Nat
  energy : Nat
  cursor : Nat
  thinned : Nat := 0
  trimmed : Nat := 0
  drops : Nat := 0
  steps : Nat := 0
  deriving DecidableEq, Repr

/-- Step 6: the event is reduced until the head window holds at most HEAD_E_MAX (R272). -/
def Dev.reduce (d : Dev) (n set eWin eMax : Nat) : Nat → Reduced → Reduced
  | 0, r => r
  | fuel + 1, r =>
    if eWin + r.energy ≤ eMax then r
    else
      match nextFiring r.lv r.cursor with
      | none => r
      | some (m, cursor) =>
        let x := r.lv.getD m 0
        let low := if d.cfgN .stnJet n .DUTY_ACTION = 0 then 0 else x - 1
        let r := { r with
          lv := r.lv.set m low, cursor := cursor, energy := r.energy - (d.weight n set x - d.weight n set low) }
        let dv := d.vol n set x - d.vol n set low
        Dev.reduce d n set eWin eMax fuel
          (if low = 0 ∧ d.cfgN .stnJet n .DUTY_ACTION = 0 then { r with thinned := r.thinned + dv, drops := r.drops + 1 }
           else { r with trimmed := r.trimmed + dv, steps := r.steps + 1 })

/-- The head window of a lane before an event at predicted instant `t` (R272). -/
def Dev.windowSum (d : Dev) (l t : Nat) : Nat :=
  ((d.lane.at l).window.filter (fun w => t < w.1 + 4000000 && w.1 ≤ t)).foldl (fun a w => a + w.2) 0

/-- Steps 5 and 6 on levels of a lane; spit lines are subject to the head window alone (R271, R272, R278). -/
def Dev.limit (d : Dev) (l set t : Nat) (spit : Bool) (lv : List Nat) : Reduced × Nat × Nat :=
  let n := l / 32
  let a := if spit then (lv, 0, 0) else d.dutyLimit l set lv
  let e := a.1.foldl (fun s x => s + d.weight n set x) 0
  let r := d.reduce n set (d.windowSum l t) (d.cfgN .stnJet n .HEAD_E_MAX) (8 * lv.length + 8)
    { lv := a.1, energy := e, cursor := (d.lane.at l).cursor }
  (r, a.2.1, a.2.2)

/-- The loop that drives a lane's amplitude scale, if any (R268, R507). -/
def Dev.ampLoop (d : Dev) (l : Nat) : Option Nat :=
  (upTo 64).find? (fun i => d.has .loop i && d.cfgN .loop i .DST_KIND == 4 && d.cfgN .loop i .DST_IDX ≤ l
    && l ≤ d.cfgN .loop i .DST_IDX + d.cfgN .loop i .DST_CNT_M1)

/-- The amplitude scale of a lane's next event (R268, R269): the loop's latest output, clamped and slew-limited; held
with 0x040E once per page while the loop is not in RUN. -/
def Dev.amplitude (l ord : Nat) (d : Dev) : Dev :=
  match d.ampLoop l with
  | none => d
  | some i =>
    let n := l / 32
    let u := uid cLANE l
    if d.ust (uid cLOOP i) ≠ .run then
      if (d.lane.at l).ampHeld = some ord then d
      else (d.updLane l (fun x => { x with ampHeld := some ord })).report u 0x040E
    else
      let out := (d.loop.at i).out
      let prev : Int := ((d.lane.at l).amp : Nat)
      let step := d.cfg .stnJet n .AMP_STEP
      let want := clampI (prev - step) (prev + step) (clampI (d.cfg .stnJet n .AMP_MIN) (d.cfg .stnJet n .AMP_MAX) out)
      let d := d.updLane l (fun x => { x with amp := want.toNat })
      if want = out then d else (d.bump u .AMP_CLAMPS 1).report u 0x040A

/-- A nozzle becomes OUT (R291), from an event of a page on (R295). -/
def Dev.toOut (l m : Nat) (since : Option (Nat × Nat)) (d : Dev) : Dev :=
  ((d.updNoz l m (fun z => { z with st := 2, outFrom := since, exc := 0, win := 0 })).bump (uid cLANE l) .TO_OUT 1).report
    (uid cLANE l) 0x0704 none m

/-- A nozzle returns to IN (R291, R292, R312). -/
def Dev.toIn (l m : Nat) (d : Dev) : Dev :=
  let was := (d.noz l m).st
  let d := d.updNoz l m (fun z => { z with st := 0, outFrom := none, exc := 0, win := 0, run := 0 })
  if was = 0 then d else (d.bump (uid cLANE l) .RETURNS 1).report (uid cLANE l) 0x0705 none m

/-- The states of every nozzle at engagement (R291); those that change are lined (R315, R648). -/
def Dev.nozzleEngage (d : Dev) : Dev :=
  ((upTo 256).filter (d.has .nozzleMap)).foldl
    (fun d l =>
      let old := (d.lane.at l).noz
      let new : Tbl Noz := (upTo (d.nozzles l)).filterMap (fun m =>
        let f := (old.at m).forced
        if f ∨ !nozEnabled (d.nozWord l m) then some (m, { st := 2, forced := f }) else none)
      let held := d.laneAllOut l && d.staysFault (uid cLANE l)
      let st (m : Nat) : Nat := if held then 2 else (new.at m).st
      ((upTo (d.nozzles l)).filter (fun m => d.nozSt l m != st m)).foldl
        (fun d m => d.delta (.nozzle (Fin.ofNat 256 l) (BitVec.ofNat 12 m) (BitVec.ofNat 2 (st m))))
        (d.updLane l (fun x => { x with noz := new }))) d

/-- A nozzle is forced OUT (R312). A return that the same brim has applied comes after it in the order of R311, and brings it
back. -/
def Dev.forceOut (n l m : Nat) (d : Dev) : Dev :=
  let d := if (d.noz l m).st = 2 then d else d.toOut l m none
  let d := d.updNoz l m (fun z => { z with forced := true, outFrom := none, run := 0 })
  if (d.stn.at n).nozRets.contains (l, m) then (d.updNoz l m (fun z => { z with forced := false })).toIn l m else d

/-- The actions of NOZZLE tickets and the check passes of a station apply: forced OUT, then returns, then passes (R311 to
R313). -/
def Dev.brimApply (n : Nat) (d : Dev) : Dev :=
  let acts := (d.stn.at n).nozActs
  let d := d.updStn n (fun s => { s with nozActs := [] })
  let d := (acts.filter (fun a => a.2.1 == 1)).foldl
    (fun d a =>
      let (slot, _, l, m) := a
      (d.forceOut n l m).finish slot 0 0) d
  let d := (acts.filter (fun a => a.2.1 != 1)).foldl
    (fun d a =>
      let (slot, _, l, m) := a
      ((d.updNoz l m (fun z => { z with forced := false })).toIn l m).finish slot 0 0) d
  let d := d.updStn n (fun s => { s with nozRets := (acts.filter (fun a => a.2.1 != 1)).map (·.2.2) ++ s.nozRets })
  (d.lanesOf n).foldl
    (fun d l =>
      if d.ust (uid cLANE l) = .fault ∨ !d.isJet n then d
      else
        ((upTo (d.nozzles l)).filter (fun m =>
          let z := d.noz l m
          z.st == 2 && !z.forced && nozEnabled (d.nozWord l m) && d.cfgN .health n .CHECK_FIRES ≤ z.run)).foldl
          (fun d m => d.toIn l m) d) d

end Sys2Proof.Machine
end

