-- ==== Sys2Proof/Machine/Jet.lean ====
section
/-! DEFINITION. The commands of a jet station: fire events from build start to issue (R222 to R227, R243 to R283, R294,
R305), brim spitting and idle spitting (R276 to R281). -/

namespace Sys2Proof.Machine

/-- The page whose next fire event a jet station builds: the oldest with a leading edge and events left (R253). -/
def Dev.toBuild (d : Dev) (n : Nat) : Option Page :=
  d.jobs.pages.find? (fun p =>
    bit p.mask n && (p.state == .armed || p.state == .marking) && (p.stn.at n).le.isSome
      && (p.stn.at n).built < d.eventsOf n p)

/-- Event `k` of a page is built: the presence test of line k - L_min, and steps 1 to 3 on every lane (R163, R243, R251,
R253, R254). -/
def Dev.buildEvent (n : Nat) (p : Page) (d : Dev) : Dev :=
  let k := (p.stn.at n).built
  let y := k - d.lMin n
  let d := if !p.test ∧ d.lMin n ≤ k ∧ y < p.lines then d.testLine p n y else d
  let q := (d.page? p.order).getD p
  let evs : Tbl LaneEv := (d.lanesOf n).map (fun l => (l, d.buildLane q l k))
  let d := (d.lanesOf n).foldl
    (fun d l => (d.bump (uid cLANE l) .EVENTS 1).updLane l (fun x => { x with events := x.events + 1 })) d
  let d := d.updPg p.order n (fun s => { s with built := k + 1 })
  (d.updStn n (fun s => { s with builds := s.builds ++ [{ ord := p.order, k := k, lanes := evs }] })).chanRunAll

/-- The lattice has come within BUILD_AHEAD lines of an event (R253). -/
def Dev.buildDue (d : Dev) (n : Nat) (p : Page) : Bool :=
  match (p.stn.at n).le with
  | some le => d.targetS n le (p.stn.at n).built - 65536 * (d.cfgN .stnJet n .BUILD_AHEAD : Nat) ≤ d.place n
  | none => false

/-- FIRE_EVENT_BUILD_START: the lattice reaches BUILD_AHEAD lines before the next event of the page, and it is built
(R253). -/
def actFireEventBuildStart (t n : Nat) (ecc : List EccFlaw) (d : Dev) : Dev :=
  let d := (d.enter t 7).noteFlaws ecc
  match if d.isJet n then d.toBuild n else none with
  | none => d
  | some p => if d.buildDue n p then d.buildEvent n p else d

/-- FIRE_EVENT_BUILD_START (R253). -/
def execFireEventBuildStart (t : Nat) (x : LineRead) (s : State) : Host.Outcome State Fault Refusal :=
  .next { s with dev := actFireEventBuildStart t x.stn.val x.ecc s.dev }

/-- The predicted fire instant of an event of a page on a lane, in qns (R220, R224). -/
def Dev.fireAt (d : Dev) (l : Nat) (p : Page) (k : Nat) : Option Nat :=
  match (p.stn.at (l / 32)).le with
  | some le => (d.predict (l / 32) (d.target (l / 32) l le k)).map Int.toNat
  | none => none

/-- A fire event in build at a station changed. -/
def Dev.updBuild (n ord k : Nat) (f : Build → Build) (d : Dev) : Dev :=
  d.updStn n (fun s => { s with builds := s.builds.map (fun b => if b.ord == ord && b.k == k then f b else b) })

/-- A fire event in build at a station. -/
def Dev.build? (d : Dev) (n ord k : Nat) : Option Build :=
  (d.stn.at n).builds.find? (fun b => b.ord == ord && b.k == k)

/-- The stitch swaps of an event are counted on the lane that prints the pixel, with 0x040D once a lane (R260). -/
def Dev.swapsCount (xs : List Swap) (l : Nat) (d : Dev) : Dev :=
  let moved := (xs.filter (fun x => x.lane == l && x.level != 0)).length
  if moved = 0 then d else (d.bump (uid cLANE l) .STITCH_SWAPS moved).report (uid cLANE l) 0x040D

/-- The plane lines that the compensation reader reads as step 4 of an event runs on lanes: that of each OUT nozzle that
would fire (R163, R297); none where it was cut off (R180). -/
def Dev.compLines (d : Dev) (p : Page) (b : Build) (lanes : List Nat) : List Nat :=
  if b.cut ∨ p.test then []
  else (lanes.flatMap (fun l => ((upTo (d.nozzles l)).filter (fun m =>
    (b.lanes.at l).lv3.getD m 0 != 0 && d.nozOut l m p.order b.k)).map (fun m => b.k - d.nozLines l m))).eraseDups

/-- The compensation reader reads its lines; one that it finds with a double-bit error is blanked, and what is in build is
built again without it (R163). -/
def Dev.compRead (n : Nat) (p : Page) (b : Build) (lanes : List Nat) (d : Dev) : Dev :=
  let e := (d.compLines p b lanes).foldl (fun d y => d.readLine p n y) d
  let lost (d : Dev) : List Nat := match d.page? p.order with | some q => (q.stn.at n).lost | none => []
  if lost e = lost d then e else e.rebuild n

/-- Step 4 of an event on the lanes whose time has come (R243, R260, R294): states and compensation. Before event 0 the brim's
nozzle actions apply (R311). -/
def Dev.eventStep4 (n : Nat) (p : Page) (b : Build) (lanes : List Nat) (d : Dev) : Dev :=
  let d := if b.k = 0 ∧ !b.step4 then (d.brimApply n).updStn n (fun s => { s with nozRets := [] }) else d
  let d := d.compRead n p b lanes
  let p := (d.page? p.order).getD p
  let b := (d.build? n b.ord b.k).getD b
  let moved := d.swapsAt p lanes b.k
  let d := (d.lanesOf n).foldl (fun d l => d.swapsCount moved l) d
  let c := d.step4 p n b.k b.cut lanes b.lanes
  let d := (d.updStn n (fun s => { s with pending := c.pend, swaps := c.swaps })).peakCtr (uid cSTN n) .PENDING_PEAK c.peak
  (d.reportIf c.full (uid cSTN n) 0x070D).updBuild n b.ord b.k (fun q => { q with lanes := c.evs, step4 := true })

/-- t_fire - lead_eff - 2.5 us has come on a lane for an event (R294); never without forward motion, when there is no t_fire
(R226). -/
def Dev.step4Due (d : Dev) (l : Nat) (p : Page) (k : Nat) : Bool :=
  match d.fireAt l p k with
  | some t => t ≤ d.qns + d.leadLane l + 10000
  | none => false

/-- The lanes of an event in build on which step 4 has not run and has come (R294). -/
def Dev.step4Lanes (d : Dev) (n : Nat) (b : Build) : List Nat :=
  match d.page? b.ord with
  | none => []
  | some p => (d.lanesOf n).filter (fun l => !(b.lanes.at l).step4 && !(b.lanes.at l).ended && d.step4Due l p b.k)

/-- FIRE_EVENT_STEP4: step 4 of the oldest event built with lanes whose time has come, on those lanes (R294). -/
def actFireEventStep4 (t n : Nat) (d : Dev) : Dev :=
  let d := d.enter t 7
  match (d.stn.at n).builds.find? (fun b => d.step4Lanes n b != []) with
  | none => d
  | some b =>
    match d.page? b.ord with
    | none => d
    | some p => d.eventStep4 n p b (d.step4Lanes n b)

/-- FIRE_EVENT_STEP4 (R294). -/
def execFireEventStep4 (t : Nat) (stn : Fin 8) (s : State) : Host.Outcome State Fault Refusal :=
  .next { s with dev := actFireEventStep4 t stn.val s.dev }

/-- One lane's part of an event as the ledger takes it (R305): the volume requested and lost, and the drops. -/
def Ledger.ask (g : Ledger) (req nReq lost : Nat) : Ledger :=
  { g with vRequested := g.vRequested + req + lost, vLostInput := g.vLostInput + lost, nRequested := g.nRequested + nReq }

/-- A lane's part of an event that is sent, or needs no frame, is booked (R305). -/
def Ledger.bookSent (g : Ledger) (e : LaneEv) (fired nFired trimmed thinned : Nat) : Ledger :=
  { g with
    vFired := g.vFired + fired, vTrimmed := g.vTrimmed + trimmed, vThinned := g.vThinned + thinned
    vMovedOut := g.vMovedOut + e.arr, vMovedIn := g.vMovedIn + e.arr
    vUnplaceable := g.vUnplaceable + e.unplaced + e.unplacedHeld, nFired := g.nFired + nFired }

/-- A lane's part of an event that is blanked whole is booked: its own volume, less what events booked before it have taken
of it, and what was in flight to it (R305, R306). -/
def Ledger.bookBlank (g : Ledger) (req given arriving : Nat) : Ledger :=
  { g with vBlanked := g.vBlanked + (req - given) + arriving, nBlankedEvents := g.nBlankedEvents + 1 }

/-- The duty history of a lane's nozzles takes one event (R271). -/
def Dev.dutyShift (l : Nat) (lv : List Nat) (d : Dev) : Dev :=
  d.updLane l (fun x => { x with
    noz := (upTo (d.nozzles l)).foldl (fun z m => z.upd m (fun q =>
      { q with duty := q.duty <<< 1 ||| (if lv.getD m 0 = 0 then 0#64 else 1#64) })) x.noz })

/-- The raises of a lane's event that come from elsewhere: booked with it, they are settled for their sources. -/
def Dev.settleRaises (n l k : Nat) (rs : List Raise) (d : Dev) : Dev :=
  (rs.filter (fun q => !(q.srcLane == l && q.srcEvent == k))).foldl
    (fun d q => d.updBuild n q.ord q.srcEvent (fun b => { b with
      lanes := b.lanes.upd q.srcLane (fun e => if e.ended then e else { e with given := e.given + q.vol }) })) d

/-- The raises from a blanked event are withdrawn from the pending store and from every event that has not booked them
(R301). -/
def Dev.withdraw (n : Nat) (p : Page) (l k : Nat) (d : Dev) : Dev :=
  let mine (q : Raise) : Bool := q.ord == p.order && q.srcLane == l && q.srcEvent == k
  d.updStn n (fun s => { s with
    pending := s.pending.filter (fun q => !mine q)
    builds := s.builds.map (fun b =>
      if b.ord != p.order then b
      else { b with lanes := b.lanes.map (fun x =>
        if x.2.ended || !x.2.raises.any mine then x
        else (x.1, d.placeRaises p b.k { x.2 with raises := x.2.raises.filter (fun q => !mine q) })) }) })

/-- The reason, if any, for which an event is blanked as a whole: it lies beyond the coast budget (R235), or the page was
aborted (R154). -/
def Dev.blankAll (d : Dev) (l : Nat) (p : Page) (b : Build) (t : Nat) : Option Nat :=
  if b.coast == .beyond then some 0x0305
  else
    match p.abortAt with
    | some a => if a + d.leadLane l < t then some 0x0E15 else none
    | none => none

/-- PU_QNS: v^-1 as U32>>16 qns, saturated (R6, R256). -/
def Dev.puQns (d : Dev) (n : Nat) : Nat := min 0xFFFFFFFF (rdiv ((d.speed n).2 * 65536) (d.speed n).1).toNat

/-- A lane can send a drop frame of `w` blocks now (R384, R395, R414): its frames mark, its calibration items are
acknowledged, it has the credits, and no frame waits. -/
def Dev.canSend (d : Dev) (l w : Nat) : Bool :=
  d.laneMarks l && !d.calUnacked l && (d.lane.at l).queue.isEmpty && (w : Int) ≤ (d.lane.at l).avail

/-- A lane lacks the credits for a drop frame of `w` blocks that it could send otherwise (R384, R398). -/
def Dev.lacksCredit (d : Dev) (l w : Nat) : Bool := d.laneMarks l && (d.lane.at l).avail < (w : Int)

/-- The interval to the lane's previous event is below 1 / LINE_RATE_MAX (R275). -/
def Dev.tooSoon (d : Dev) (l t : Nat) : Bool :=
  match (d.lane.at l).lastFire with
  | some a => t * d.cfgN .stnJet (l / 32) .LINE_RATE_MAX < a * d.cfgN .stnJet (l / 32) .LINE_RATE_MAX + 4000000000
  | none => false

/-- The drops of a frame are counted by level (R286). -/
def Dev.countDrops (l : Nat) (lv : List Nat) (d : Dev) : Dev :=
  [Ctr.DROPS_L1, .DROPS_L2, .DROPS_L3, .DROPS_L4, .DROPS_L5, .DROPS_L6, .DROPS_L7].zipIdx.foldl
    (fun d c => d.bump (uid cLANE l) c.1 (lv.filter (· == c.2 + 1)).length) d

/-- What FIRE_FRAME_ISSUE does with a lane's next event. -/
inductive Fate
  | wait | blank (code : Nat) | go
  deriving DecidableEq, Repr

/-- A lane's frames leave no trace on its wire: this twin sends none of the page, or the partner carries the lane (R157,
R396). -/
def Dev.silentFor (d : Dev) (p : Page) (l : Nat) : Bool := !d.mayFramePage p || d.carried l

/-- The code with which a line that came too late is blanked (R225, R414). -/
def Dev.lateCode (d : Dev) (l : Nat) : Nat := if d.calUnacked l then 0x0806 else 0x0308

/-- The instant of an event of a lane that has come within 1 us of its latest issue (R223). -/
def Dev.dueAt (d : Dev) (l : Nat) (p : Page) (k : Nat) : Option Nat :=
  match d.fireAt l p k with
  | some t => if t ≤ d.qns + d.leadLane l + 4000 then some t else none
  | none => none

/-- The fate of a lane's next event (R223 to R226, R235, R255, R275, R283): it waits for its window, for step 4, for
credits; it is blanked as a whole; or it goes. -/
def Dev.fate (d : Dev) (p : Page) (b : Build) (l : Nat) : Fate :=
  match d.dueAt l p b.k with
  | none => .wait
  | some t =>
    let late : Bool := t < d.qns + d.leadLane l
    match d.blankAll l p b t with
    | some c => .blank c
    | none =>
      if !(b.lanes.at l).step4 then (if late then .blank (d.lateCode l) else .wait)
      else if d.tooSoon l t then .blank 0x040B
      else if (d.limit l (p.set (l / 32)) t false (b.lanes.at l).lv).1.lv.all (· == 0) || d.silentFor p l then .go
      else if late then .blank (d.lateCode l)
      else if d.canSend l (d.longestFrame l) then .go
      else .wait

/-- A lane's part of an event is blanked as a whole (R225, R244, R301, R305, R376). -/
def Dev.blankLane (n : Nat) (p : Page) (k l : Nat) (d : Dev) : Dev :=
  match d.build? n p.order k with
  | none => d
  | some b =>
    let e := b.lanes.at l
    let here (q : Raise) : Bool := q.ord == p.order && q.lane == l && q.event == k
    let swaps := (d.stn.at n).swaps
    let lv3 := if e.step4 then e.lv3 else swapped swaps p.order l k e.lv3
    let rs := (if e.step4 then e.raises else (d.stn.at n).pending.filter here).filter
      (fun q => !(q.srcLane == l && q.srcEvent == k))
    let req := d.volume n (p.set n) lv3
    let d := (d.laneSeq l).dutyShift l []
    let d := d.updPg p.order n (fun s => { s with
      led := (s.led.ask req (lv3.filter (· != 0)).length e.lost).bookBlank req e.given (rs.foldl (fun a q => a + q.vol) 0) })
    let d := d.updBuild n p.order k (fun b =>
      { b with blanked := b.blanked + 1, lanes := b.lanes.upd l (fun e => { e with lv3 := lv3, ended := true }) })
    let d := d.updStn n (fun s => { s with
      pending := s.pending.filter (fun q => !here q)
      swaps := s.swaps.filter (fun x => !(x.ord == p.order && x.lane == l && x.event == k)) })
    (d.settleRaises n l k rs).withdraw n p l k

/-- The marks that the duty limits leave (R271 to R273, R286). -/
def Dev.countDuty (p : Page) (l : Nat) (r : Reduced) (drops : Nat) (d : Dev) : Dev :=
  let u := uid cLANE l
  let d := ((d.bump u .THINNED_NOZZLE drops).bump u .THINNED_HEAD r.drops).bump u .DOWNSIZED r.steps
  let d := d.reportIf (drops + r.drops ≠ 0) u 0x0408
  let d := d.reportIf (r.steps ≠ 0) u 0x0409
  if drops + r.drops + r.steps = 0 then d
  else d.updPage p.order (fun q => q.mark fDUTY (if drops + r.drops ≠ 0 then 0x0408 else 0x0409))

/-- A lane's part of an event leaves: steps 5 to 7 (R243), the ledger (R305), the frame where it has a drop (R282, R283). A
twin that sends nothing keeps what it would have sent (R289). -/
def Dev.fireLane (n : Nat) (p : Page) (k l t : Nat) (d : Dev) : Dev :=
  match d.build? n p.order k with
  | none => d
  | some b =>
    let e := b.lanes.at l
    let set := p.set n
    let seq := (d.lane.at l).seq
    let (r, thin, drops) := d.limit l set t false e.lv
    let d := ((d.laneSeq l).dutyShift l r.lv).countDuty p l r drops
    let d := d.updPg p.order n (fun s => { s with
      led := (s.led.ask (d.volume n set e.lv3) (e.lv3.filter (· != 0)).length e.lost).bookSent e (d.volume n set r.lv)
        (r.lv.filter (· != 0)).length r.trimmed (thin + r.thinned) })
    let d := if e.unplaced + e.unplacedHeld = 0 then d
      else (d.report (uid cSTN n) 0x070A).updPage p.order (fun q => q.mark fUNPLACEABLE 0x070A)
    let d := (d.updBuild n p.order k (fun b =>
      { b with lanes := b.lanes.upd l (fun e => { e with ended := true }) })).settleRaises n l k e.raises
    let peak := d.windowSum l t + r.energy
    let d := d.updLane l (fun x => { x with cursor := r.cursor })
    if r.lv.all (· == 0) then d
    else
      let d := (d.amplitude l p.order).updLane l (fun x => { x with
        lastFire := some t, window := (t, r.energy) :: x.window.filter (fun w => t < w.1 + 4000000) })
      let d := (d.countDrops l r.lv).peakCtr (uid cLANE l) .ENERGY_PEAK peak
      let rec_ : SentFrame :=
        { seq := seq, blocks := 0, release := 0, fires := true, event := k, page := p.order, set := set, levels := r.lv
          ends := k + 1 == d.eventsOf n p }
      if d.silentFor p l then d.updLane l (fun x => { x with frames := rec_ :: x.frames })
      else (d.bump (uid cLANE l) .FRAMES 1).laneSend l seq (.fire t k p.id (d.puQns n) (d.lane.at l).amp set r.lv) rec_

/-- An event blanked on a lane is counted by its cause (R225, R235, R275), a late line once, and flagged on its page
(R141). -/
def Dev.countBlank (n : Nat) (p : Page) (k l code : Nat) (d : Dev) : Dev :=
  if code = 0x040B then (d.bump (uid cLANE l) .INTERVAL_BLANKED 1).report (uid cLANE l) 0x040B
  else
    let d := d.updPage p.order (fun q => q.mark fBLANKED code)
    let told := match d.build? n p.order k with | some b => b.late | none => true
    if (code = 0x0308 ∨ code = 0x0806) ∧ !told then
      ((d.bump (uid cSTN n) .LATE_LINES 1).report (uid cSTN n) code).updBuild n p.order k (fun b => { b with late := true })
    else d

/-- How the coast budget of a page at a station bears on its next line (R235): COAST_MAX lines are placed while coasting,
and every later line of the page is blanked, with 0x0305, even if the reference returns. -/
def Dev.coastNext (n ord : Nat) (d : Dev) : Dev × Coast :=
  match d.page? ord with
  | none => (d, .none)
  | some p =>
    let s := p.stn.at n
    if s.cut then (d, .beyond)
    else if !(d.stn.at n).coasting then (d, .none)
    else if s.coastLines < d.cfgN .stnPlace n .COAST_MAX then
      (d.updPg ord n (fun s => { s with coastLines := s.coastLines + 1 }), .placed)
    else
      (((d.updPg ord n (fun s => { s with cut := true })).updPage ord (fun q => q.mark fBLANKED 0x0305)).report
        (uid cSTN n) 0x0305, .beyond)

/-- An event that comes due takes its share of the coast budget, once. -/
def Dev.coastEvent (n ord k : Nat) (d : Dev) : Dev :=
  match d.build? n ord k with
  | some b =>
    if b.coast != .undecided then d
    else
      let x := d.coastNext n ord
      x.1.updBuild n ord k (fun b => { b with coast := x.2 })
  | none => d

/-- A line has come to its end under the coast budget: placed lines and blanked ones are counted (R235, R241); a line that
was blanked for another reason takes nothing of the budget. -/
def Dev.coastDone (n ord : Nat) (c : Coast) (placed : Bool) (d : Dev) : Dev :=
  match c with
  | .placed =>
    if placed then d.bump (uid cSTN n) .COAST_LINES 1
    else d.updPg ord n (fun s => { s with coastLines := s.coastLines - 1 })
  | .beyond => d.bump (uid cSTN n) .COAST_BLANKED 1
  | .none | .undecided => d

/-- The spit program of a brim: the automatic pattern, the SPIT tickets in ring order, the check (R280, R313). -/
def Dev.spitBrim (n : Nat) (d : Dev) : Dev :=
  if !d.isJet n then d
  else
    let auto : List (Nat × Option Nat × Bool) :=
      if d.cfgB .stnJet n .SPIT_AUTO_EN then [(d.cfgN .stnJet n .SPIT_AUTO_IDX, none, false)] else []
    let check : List (Nat × Option Nat × Bool) :=
      if d.cfgB .health n .CHECK_EN then [(d.cfgN .health n .CHECK_PATTERN, none, true)] else []
    d.updStn n (fun s => { s with spit := {
      queue := auto ++ s.spitTickets.map (fun k => (k.2.1, some k.1, false)) ++ check } })

/-- An event is done at a station; the last one ends the page there and begins a brim (R150, R252, R278). -/
def Dev.eventDone (n : Nat) (p : Page) (b : Build) (d : Dev) : Dev :=
  let d := d.coastDone n p.order b.coast (b.blanked < (d.lanesOf n).length)
  let d := d.updPg p.order n (fun s =>
    { s with
      done := b.k + 1, endAt := max s.endAt b.tMax
      fired := if b.blanked = 0 then s.fired + 1 else s.fired, blanked := if b.blanked = 0 then s.blanked else s.blanked + 1 })
  let d := d.updStn n (fun s => { s with builds := s.builds.filter (fun c => !(c.ord == p.order && c.k == b.k)) })
  if b.k + 1 < d.eventsOf n p then d
  else
    let e := d.targetS n ((p.stn.at n).le.getD 0) b.k
    let end_ := max ((p.stn.at n).endAt) b.tMax
    let d := ((d.dropWork p).updStn n (fun s => { s with eLast := e, eLane := true })).stnDone p.order n
    (d.updPg p.order n (fun s => { s with endAt := max s.endAt end_ })).spitBrim n

/-- The events whose lanes are all over are done, oldest first. -/
def Dev.eventsDone (n : Nat) (d : Dev) : Dev :=
  (d.stn.at n).builds.foldl
    (fun d b =>
      match d.page? b.ord, d.build? n b.ord b.k with
      | some p, some b => if (d.lanesOf n).all (fun l => (b.lanes.at l).ended) then d.eventDone n p b else d
      | _, _ => d) d

/-- A lane's event that waits for AVAIL is counted once (R398). -/
def Dev.stallFire (n l ord k : Nat) (d : Dev) : Dev :=
  match d.page? ord, d.build? n ord k with
  | some p, some b =>
    let e := b.lanes.at l
    if e.step4 ∧ !e.stalled ∧ (d.dueAt l p k).isSome ∧ d.lacksCredit l (d.longestFrame l) then
      (d.bump (uid cLANE l) .CREDIT_STALLS 1).updBuild n ord k (fun b =>
        { b with lanes := b.lanes.upd l (fun e => { e with stalled := true }) })
    else d
  | _, _ => d

/-- A lane's event meets its fate. -/
def Dev.meet (n l ord k : Nat) (f : Fate) (d : Dev) : Dev :=
  match d.page? ord with
  | none => d
  | some p =>
    let t := (d.fireAt l p k).getD 0
    let d := match f with
      | .wait => d
      | .blank c => (d.blankLane n p k l).countBlank n p k l c
      | .go => d.fireLane n p k l t
    d.updBuild n ord k (fun b => { b with tMax := max b.tMax t })

/-- The oldest event in build that a lane has not issued, and the fate it meets now. -/
def Dev.laneNext (d : Dev) (n l : Nat) : Option (Nat × Nat × Nat × Fate) :=
  match (d.stn.at n).builds.find? (fun b => !(b.lanes.at l).ended) with
  | none => none
  | some b => (d.page? b.ord).map (fun p => (l, b.ord, b.k, d.fate p b l))

/-- The next event to build has come to its latest issue on some lane: its build is not complete in time (R255). -/
def Dev.unbuilt (d : Dev) (n : Nat) : Option Page :=
  match d.toBuild n with
  | some p =>
    let late (l : Nat) : Bool := match d.fireAt l p (p.stn.at n).built with
      | some t => t < d.qns + d.leadLane l
      | none => false
    if (d.lanesOf n).any late then some p else none
  | none => none

/-- FIRE_FRAME_ISSUE: on each lane the oldest event not issued is sent, or blanked, within the window of R223, and none
while the medium does not move forward (R223 to R226). What is blanked goes first, so that its raises are withdrawn (R301).
-/
def actFireFrameIssue (t n : Nat) (d : Dev) : Dev :=
  let d := d.enter t 7
  if !d.isJet n then d
  else
    let live (b : Build) (p : Page) : Bool := b.ord == p.order && (p.state == .armed || p.state == .marking)
    let d := d.updStn n (fun s => { s with builds := s.builds.filter (fun b => d.jobs.pages.any (live b)) })
    let d := match d.unbuilt n with | some p => d.buildEvent n p | none => d
    let due := (d.lanesOf n).filterMap (fun l =>
      match (d.stn.at n).builds.find? (fun b => !(b.lanes.at l).ended) with
      | some b => (d.page? b.ord).bind (fun p => (d.dueAt l p b.k).map (fun _ => (b.ord, b.k)))
      | none => none)
    let d := due.foldl (fun d x => d.coastEvent n x.1 x.2) d
    let xs := (d.lanesOf n).filterMap (d.laneNext n)
    let blank (x : Nat × Nat × Nat × Fate) : Bool := x.2.2.2 != .wait && x.2.2.2 != .go
    let d := (xs.filter blank).foldl (fun d x => d.meet n x.1 x.2.1 x.2.2.1 x.2.2.2) d
    let d := (xs.filter (fun x => x.2.2.2 == .go)).foldl (fun d x => d.meet n x.1 x.2.1 x.2.2.1 x.2.2.2) d
    let d := (xs.filter (fun x => x.2.2.2 == .wait)).foldl (fun d x => d.stallFire n x.1 x.2.1 x.2.2.1) d
    d.eventsDone n

/-- FIRE_FRAME_ISSUE (R223). -/
def execFireFrameIssue (t : Nat) (stn : Fin 8) (s : State) : Host.Outcome State Fault Refusal :=
  .next { s with dev := actFireFrameIssue t stn.val s.dev }

/-- The events of a page that a station can no longer issue are blanked on every lane and booked (R154, R305, R308). -/
def Dev.blankJet (n ord : Nat) (d : Dev) : Dev :=
  let step (d : Dev) : Dev :=
    match d.page? ord with
    | none => d
    | some p =>
      let d := if (p.stn.at n).built < d.eventsOf n p then d.buildEvent n p else d
      let bs := (d.stn.at n).builds.filter (fun b => b.ord == ord)
      let d := bs.foldl (fun d b => ((d.lanesOf n).filter (fun l => !(b.lanes.at l).ended)).foldl
        (fun d l => (d.blankLane n p b.k l).countBlank n p b.k l 0x0E15) d) d
      d.eventsDone n
  match d.page? ord with
  | some p => if (p.stn.at n).marked then d else (upTo (d.eventsOf n p - (p.stn.at n).done + 1)).foldl (fun d _ => step d) d
  | none => d

/-- The nozzles of a lane that run the brim spit check (R313). -/
def Dev.checkSet (d : Dev) (l m : Nat) : Bool :=
  (d.noz l m).st == 2 && !(d.noz l m).forced && nozEnabled (d.nozWord l m) && d.ust (uid cLANE l) != .fault

/-- The levels of line `j` of a spit pattern on a lane (R276, R313). -/
def Dev.spitLevels (d : Dev) (l w j : Nat) (check : Bool) : List Nat :=
  (upTo (d.nozzles l)).map (fun m =>
    let out := d.nozSt l m == 2
    if (j + m) % max 1 (bits w 45 40) = 0 ∧ (if check then d.checkSet l m else bit w 39 || !out)
        ∧ (bit w 38 || !nozSpare (d.nozWord l m)) then bits w 51 49 else 0)

/-- The order from which the next page of a station counts: past every page marked there (R296). -/
def Dev.nextOrd (d : Dev) (n : Nat) : Nat :=
  (d.jobs.pages.filter (fun p => (p.stn.at n).marked)).foldl (fun a p => max a (p.order + 1)) 0

/-- What has become of a spit line on a lane. -/
inductive SpitFate
  | wait | late | ended
  deriving DecidableEq, Repr

/-- A spit line on one lane, with its fire instant, PU_QNS and pattern word: subject to the head window (R278), counted in
the spit counters (R286). With `patient` it waits for credits while there is time (R225); without `sends` this twin sends
nothing of it (R157), nor on a lane that the partner carries (R396). -/
def Dev.spitLane (n w j line t pu : Nat) (check patient sends : Bool) (l : Nat) (d : Dev) : Dev × SpitFate :=
  let seq := (d.lane.at l).seq
  let set := bits w 48 46
  let (r, _, _) := d.limit l set t true (d.spitLevels l w j check)
  let none_ := r.lv.all (· == 0)
  let late : Bool := t < d.qns + d.leadLane l
  let able := d.canSend l (d.longestFrame l)
  let sends := sends && !d.carried l
  let go (d : Dev) : Dev :=
    let d := d.reportIf (r.drops ≠ 0) (uid cLANE l) 0x0408
    let d := (d.reportIf (r.steps ≠ 0) (uid cLANE l) 0x0409).bump (uid cSTN n) .SPIT_THINNED r.drops
    ((d.bump (uid cLANE l) .DOWNSIZED r.steps).updLane l (fun x => { x with cursor := r.cursor, spitStall := none })).laneSeq l
  if none_ then (go d, .ended)
  else if sends ∧ (late ∨ (!patient ∧ !able)) then (d.laneSeq l, .late)
  else if d.tooSoon l t then (((d.laneSeq l).bump (uid cLANE l) .INTERVAL_BLANKED 1).report (uid cLANE l) 0x040B, .ended)
  else if sends ∧ !able then
    let stall := d.lacksCredit l (d.longestFrame l) && (d.lane.at l).spitStall != some line
    (if stall then (d.bump (uid cLANE l) .CREDIT_STALLS 1).updLane l (fun x => { x with spitStall := some line }) else d, .wait)
  else
    let d := (go d).peakCtr (uid cLANE l) .ENERGY_PEAK (d.windowSum l t + r.energy)
    let d := (d.bump (uid cLANE l) .SPIT_DROPS (r.lv.filter (· != 0)).length).bump (uid cSTN n) .SPIT_VOLUME
      (d.volume n set r.lv)
    let d := d.updLane l (fun x => { x with
      lastFire := some t, window := (t, r.energy) :: x.window.filter (fun w => t < w.1 + 4000000) })
    let rec_ : SentFrame :=
      { seq := seq, blocks := 0, release := 0, fires := true, event := line, page := d.nextOrd n, set := set, spit := true
        levels := r.lv, check := if check then (upTo r.lv.length).filter (fun m => r.lv.getD m 0 != 0) else [] }
    if !sends then (d.updLane l (fun x => { x with frames := rec_ :: x.frames }), .ended)
    else (d.laneSend l seq (.spit t line pu (d.lane.at l).amp set r.lv) rec_, .ended)

/-- A spit line that came too late on a lane is counted with 0x0308, once a line (R225, R278). -/
def Dev.spitLate (n line : Nat) (f : SpitFate) (d : Dev) : Dev :=
  if f != .late ∨ line < (d.stn.at n).spit.lateTo then d
  else
    ((d.bump (uid cSTN n) .LATE_LINES 1).report (uid cSTN n) 0x0308).updStn n (fun s => { s with
      spit := { s.spit with lateTo := line + 1 } })

/-- A repetition of the running pattern has ended; the last one of a SPIT ticket completes it (R280). -/
def Dev.spitRep (n : Nat) (slot : Option Nat) (d : Dev) : Dev :=
  let drop (d : Dev) : Dev := d.updStn n (fun s => { s with spit := { s.spit with queue := s.spit.queue.drop 1, line := 0 } })
  match slot with
  | none => drop d
  | some k =>
    let left := (((d.stn.at n).spitTickets.find? (fun q => q.1 == k)).map (·.2.2)).getD 0
    if left ≤ 1 then
      let d := (drop d).updStn n (fun s => { s with spitTickets := s.spitTickets.filter (fun q => q.1 != k) })
      if (upTo 8).any (fun m => (d.stn.at m).spitTickets.any (fun q => q.1 == k)) then d else d.finish k 0 0
    else
      d.updStn n (fun s => { s with
        spit := { s.spit with line := 0 }
        spitTickets := s.spitTickets.map (fun q => if q.1 == k then (k, q.2.1, left - 1) else q) })

/-- The lines a pattern of the spit program has left to run in all its repetitions. -/
def Dev.spitLines (d : Dev) (n : Nat) (x : Nat × Option Nat × Bool) : Nat :=
  let reps := match x.2.1 with
    | some k => (((d.stn.at n).spitTickets.find? (fun q => q.1 == k)).map (·.2.2)).getD 0
    | none => 1
  reps * bits (d.spitWord n x.1) 63 52

/-- The entry of a spit program, and the line of its pattern, that stand `i` lines into it (R280). -/
def Dev.spitAt (d : Dev) (n : Nat) : List (Nat × Option Nat × Bool) → Nat → Option ((Nat × Option Nat × Bool) × Nat)
  | [], _ => none
  | x :: xs, i =>
    if i < d.spitLines n x then some (x, i % max 1 (bits (d.spitWord n x.1) 63 52))
    else Dev.spitAt d n xs (i - d.spitLines n x)

/-- The target of spit line `i` of a brim on a lane, in 1/256 pu (R220, R278). -/
def Dev.spitTarget (d : Dev) (n l i : Nat) : Int :=
  let s := d.stn.at n
  s.eLast + (if s.eLane then 256 * d.cLane d.cal.recs l else 0)
    + 65536 * ((d.cfgN .stnJet n .SPIT_GAP_LINES + i : Nat) : Int)

/-- The next page bound at the station leaves no room for a spit line at a target on a lane (R279). -/
def Dev.spitCut (d : Dev) (n l : Nat) (target : Int) : Bool :=
  (d.stnPages n).any (fun p =>
    match (p.stn.at n).le with
    | some le => !(p.stn.at n).marked
      && d.target n l le 0 - 65536 * (d.cfgN .stnJet n .SPIT_GAP_LINES : Nat) < target
    | none => false)

/-- Spit lines from line `i` of the brim on are not fired, which is reported with 0x040C (R279): what is left of the pattern
that runs and of the patterns of every brim behind it; the repetitions of a SPIT ticket not begun run in the following
brims (R280). -/
def Dev.spitStop (n i : Nat) (d : Dev) : Dev :=
  let s := (d.stn.at n).spit
  if s.stop.isSome then d
  else
    let from_ := s.line + (i - s.brimLine)
    let cut := s.queue.foldl
      (fun (a : Nat × Nat) x =>
        let all := d.spitLines n x
        let one := bits (d.spitWord n x.1) 63 52
        let left := if a.2 ≤ from_ then a.2 + all - from_ else all
        let gone := if x.2.1.isNone then left else if a.2 < from_ then left % max 1 one else 0
        (a.1 + gone, a.2 + all))
      (0, 0)
    ((d.bump (uid cSTN n) .SPIT_TRUNCATED cut.1).updStn n (fun s => { s with
      spit := { s.spit with stop := some i } })).report (uid cSTN n) 0x040C

/-- This twin sends spit lines: not, as a standby, those of a SPIT ticket that the active has refused (R157). -/
def Dev.spitSends (d : Dev) (slot : Option Nat) : Bool :=
  d.mayFrame && (d.isActive || slot.all (fun k => d.twin.outcomes.get? (k % 65536) != some 1))

/-- The next spit line of a lane is issued, when its window has come (R223, R278), or its lines end for the next page
(R279). -/
def Dev.spitNext (n l : Nat) (d : Dev) : Dev :=
  let s := (d.stn.at n).spit
  let i := max (s.sent.at l) s.brimLine
  let target := d.spitTarget n l i
  match if (s.stop.getD (i + 1)) ≤ i then none else d.spitAt n s.queue (s.line + (i - s.brimLine)) with
  | none => d
  | some ((pat, slot, check), j) =>
    if d.spitCut n l target then d.spitStop n i
    else
      match d.predict n target with
      | none => d
      | some x =>
        if (d.qns + d.leadLane l + 4000 : Int) < x then d
        else
          let r := (d.rest (uid cSTN n) .run).spitLane n (d.spitWord n pat) j i x.toNat (d.puQns n) check true (d.spitSends slot) l
          if r.2 == .wait then r.1
          else
            (r.1.spitLate n i r.2).updStn n (fun s => { s with spit := { s.spit with sent := s.spit.sent.set l (i + 1) } })

/-- Spit lines that every lane has issued are over: repetitions and patterns end (R280). -/
def Dev.spitOver (n : Nat) : Nat → Dev → Dev
  | 0, d => d
  | fuel + 1, d =>
    let s := (d.stn.at n).spit
    match s.queue with
    | [] => d
    | (pat, slot, _) :: _ =>
      if s.stop.any (· ≤ s.brimLine) then d.updStn n (fun s => { s with spit := { s.spit with queue := [] } })
      else if (d.lanesOf n).all (fun l => s.brimLine < s.sent.at l) then
        let d := d.updStn n (fun s => { s with
          spit := { s.spit with line := s.spit.line + 1, brimLine := s.spit.brimLine + 1 } })
        Dev.spitOver n fuel (if s.line + 1 < bits (d.spitWord n pat) 63 52 then d else d.spitRep n slot)
      else d

/-- SPIT_LINE_ISSUE: on each lane the next spit line of the brim is issued as a page event is; lines that the next page
excludes are not fired, with 0x040C (R226, R276 to R280). -/
def actSpitLineIssue (t n : Nat) (d : Dev) : Dev :=
  let d := d.enter t 7
  if !d.inBrim n ∨ !d.isJet n ∨ d.eng.st ≠ .engaged ∨ (d.stn.at n).spit.queue.isEmpty then d
  else
    let d := ((d.lanesOf n).foldl (fun d l => d.spitNext n l) d).spitOver n 2
    if (d.stn.at n).spit.queue.isEmpty then d.rest (uid cSTN n) .armed else d

/-- SPIT_LINE_ISSUE (R278). -/
def execSpitLineIssue (t : Nat) (stn : Fin 8) (s : State) : Host.Outcome State Fault Refusal :=
  .next { s with dev := actSpitLineIssue t stn.val s.dev }

/-- Idle spitting may start: the station has seen no lattice edge for IDLE_SPIT_MS, and its pattern began as long ago
(R281). -/
def Dev.idleDue (d : Dev) (n : Nat) : Bool :=
  let s := d.stn.at n
  let ms := msq (d.cfgN .stnJet n .IDLE_SPIT_MS)
  s.edgeAt + ms ≤ d.qns && (match s.spit.idle with | some (a, _) => a + ms ≤ d.qns + d.leadQ n | none => true)

/-- IDLE_SPIT_START: a station in a brim that has seen no lattice edge for IDLE_SPIT_MS runs SPIT_AUTO_IDX on time alone,
and again every IDLE_SPIT_MS; line 0 fires one lead time after the start (R281, log entry 28). -/
def actIdleSpitStart (t n : Nat) (d : Dev) : Dev :=
  let d := d.enter t 7
  if !d.isJet n ∨ d.cfgN .stnJet n .IDLE_SPIT_MS = 0 ∨ !d.inBrim n ∨ d.eng.st ≠ .engaged ∨ !d.idleDue n then d
  else
    (d.updStn n (fun s => { s with spit := { s.spit with idle := some (d.qns + d.leadQ n, 0) } })).rest (uid cSTN n) .run

/-- IDLE_SPIT_START (R281). -/
def execIdleSpitStart (t : Nat) (stn : Fin 8) (s : State) : Host.Outcome State Fault Refusal :=
  .next { s with dev := actIdleSpitStart t stn.val s.dev }

/-- IDLE_SPIT_LINE: idle spit line `j` fires IDLE_SPIT_PERIOD_US x j after the start, and is issued from 1 us before the
latest instant for it on (R223, R281). On a medium at rest PU_QNS has no value; it is open (log entry 11). -/
def actIdleSpitLine (t n : Nat) (d : Dev) : Dev :=
  let d := d.enter t 7
  match (d.stn.at n).spit.idle with
  | none => d
  | some (start, j) =>
    let w := d.spitWord n (d.cfgN .stnJet n .SPIT_AUTO_IDX)
    let at_ := start + usq (d.cfgN .stnJet n .IDLE_SPIT_PERIOD_US) * j
    if !d.inBrim n ∨ bits w 63 52 ≤ j ∨ d.qns + d.leadQ n + 4000 < at_ then d
    else
      let still : Bool := (d.speed n).1 ≤ 0
      let pu := if still then d.freeVal % 2 ^ 32 else d.puQns n
      let d := if still then d.freeNext else d
      let r := (d.lanesOf n).foldl
        (fun (x : Dev × SpitFate) l =>
          let y := x.1.spitLane n w j j at_ pu false false d.mayFrame l
          (y.1, if y.2 == .late then .late else x.2)) (d, .ended)
      let d := r.1.reportIf (r.2 == .late) (uid cSTN n) 0x0308
      let d := if r.2 == .late then d.bump (uid cSTN n) .LATE_LINES 1 else d
      let d := d.updStn n (fun s => { s with spit := { s.spit with idle := some (start, j + 1) } })
      if j + 1 < bits w 63 52 then d else d.rest (uid cSTN n) .armed

/-- IDLE_SPIT_LINE (R281). -/
def execIdleSpitLine (t : Nat) (stn : Fin 8) (s : State) : Host.Outcome State Fault Refusal :=
  .next { s with dev := actIdleSpitLine t stn.val s.dev }

end Sys2Proof.Machine
end

