-- ==== Sys2Proof/Machine/Health.lean ====
section
/-! DEFINITION. Nozzle health: exception reports, nozzle states, when a change takes effect (R288 to R296), and the drop
ledger (R304 to R310). -/

namespace Sys2Proof.Machine

/-- Events of a page whose step 4 has begun on a lane (R294). -/
def Dev.step4Count (d : Dev) (l ord : Nat) : Nat :=
  (match d.page? ord with | some p => (p.stn.at (l / 32)).done | none => 0)
    + ((d.stn.at (l / 32)).builds.filter (fun b =>
        b.ord == ord && ((b.lanes.at l).step4 || (b.lanes.at l).ended))).length

/-- Step 4 of event `k` of a page, or of a later event, has begun on a lane. -/
def Dev.begunFrom (d : Dev) (l ord k : Nat) : Bool :=
  k < d.step4Count l ord || d.jobs.pages.any (fun p => ord < p.order && bit p.mask (l / 32) && 0 < d.step4Count l p.order)

/-- The page order and event at which a change reported in time for a frame takes effect: event n + 4, or event 0 of the
next page, which it always is for a spit line (R295). -/
def Dev.inTimeAt (d : Dev) (n : Nat) (f : SentFrame) : Nat × Nat :=
  let events := match d.page? f.page with | some p => d.eventsOf n p | none => 0
  if f.spit then (f.page, 0) else if f.event + 4 < events then (f.page, f.event + 4) else (f.page + 1, 0)

/-- A report comes after step 4 of the event at which it should take effect has begun (R295). -/
def Dev.tooLate (d : Dev) (l : Nat) (f : SentFrame) : Bool :=
  d.begunFrom l (d.inTimeAt (l / 32) f).1 (d.inTimeAt (l / 32) f).2

/-- The next event of a lane whose step 4 has not begun. -/
def Dev.nextStep4 (d : Dev) (l : Nat) : Nat × Nat :=
  match (d.stnPages (l / 32)).find? (fun p => p.state != .marked && d.step4Count l p.order < d.eventsOf (l / 32) p) with
  | some p => (p.order, d.step4Count l p.order)
  | none => (d.jobs.order, 0)

/-- The page order and event at which a change reported for a frame takes effect (R295). -/
def Dev.effectAt (d : Dev) (l : Nat) (f : SentFrame) : Nat × Nat :=
  if d.tooLate l f then d.nextStep4 l else d.inTimeAt (l / 32) f

/-- The ledger of a page at a station takes a report that arrives before the page's audit (R305, R309). -/
def Dev.bookReport (n : Nat) (f : SentFrame) (g : Ledger → Ledger) (d : Dev) : Dev :=
  if f.spit then d
  else d.updPg f.page n (fun s => if s.audited then s else { s with led := g s.led })

/-- A change that takes effect under the late rule is counted with 0x0707 (R295). -/
def Dev.lateReport (n l : Nat) (f : SentFrame) (d : Dev) : Dev :=
  if !d.tooLate l f then d
  else (d.report (uid cLANE l) 0x0707).bookReport n f (fun g => { g with nLate := g.nLate + 1 })

/-- A SUSPECT nozzle whose window has closed returns to IN (R291). -/
def Dev.closeWindow (l m : Nat) (d : Dev) : Dev :=
  let z := d.noz l m
  if z.st = 1 ∧ !d.laneAllOut l ∧ z.win + d.cfgN .health (l / 32) .WINDOW_EVENTS ≤ (d.lane.at l).events then d.toIn l m else d

/-- An exception changes a nozzle's state (R291), but not that of an OUT nozzle (R292). -/
def Dev.exception (l m : Nat) (missing : Bool) (f : SentFrame) (d : Dev) : Dev :=
  let n := l / 32
  let d := d.closeWindow l m
  let z := d.noz l m
  let count := (if z.st = 1 then z.exc else 0) + 1
  if d.nozSt l m = 2 then d
  else if (missing && d.cfgB .health n .MISSING_OUT) || d.cfgN .health n .OUT_K ≤ count then
    (d.lateReport n l f).toOut l m (some (d.effectAt l f))
  else if z.st = 0 then
    ((d.lateReport n l f).updNoz l m (fun z => { z with st := 1, exc := 1, win := (d.lane.at l).events })).report
      (uid cLANE l) 0x0703 none m
  else d.updNoz l m (fun z => { z with exc := count })

/-- A volume term that wraps in 64 bits. -/
def addVol (a : Nat) (x : Int) : Nat := tc 64 ((a : Int) + x)

/-- One entry's class and estimate in the ledger (R288). -/
def Ledger.entry (g : Ledger) (cls : Nat) (vol est : Int) : Ledger :=
  if cls = 0 then { g with nWeak := g.nWeak + 1, vDeficit := addVol g.vDeficit (vol - est) }
  else if cls = 1 then { g with nMissing := g.nMissing + 1, vDeficit := addVol g.vDeficit vol }
  else if cls = 2 then { g with nOverfill := g.nOverfill + 1, vExcess := addVol g.vExcess (max 0 (est - vol)) }
  else { g with nNosense := g.nNosense + 1 }

/-- A nozzle's drop is no clean check drop of a frame (R313). -/
def Dev.uncheck (l m seq : Nat) (d : Dev) : Dev :=
  d.updLane l (fun x => { x with
    frames := x.frames.map (fun f => if f.seq == seq then { f with check := f.check.filter (· != m) } else f) })

/-- One EXCEPT entry (R288, R289, R291, R313). -/
def Dev.exceptEntry (l : Nat) (sent : Option SentFrame) (e : ExceptEntry) (d : Dev) : Dev :=
  let n := l / 32
  let m := e.nozzle.toNat
  let bad := (d.bump (uid cLANE l) .EXC_INVALID 1).report (uid cLANE l) 0x0706
  match sent with
  | none => bad
  | some f =>
    let lv := f.levels.getD m 0
    if lv = 0 ∨ d.nozzles l ≤ m then bad
    else
      let cls := e.cls.toNat
      let vol : Int := (d.vol n f.set lv : Nat)
      let d := d.bookReport n f (fun g => g.entry cls vol (rdiv (vol * (e.est.toNat : Int)) 128))
      let d := d.uncheck l m f.seq
      if cls = 3 then d
      else
        let d := d.updNoz l m (fun z => { z with run := 0 })
        if cls = 2 ∧ !d.cfgB .health n .OVERFILL_COUNTS then d else d.exception l m (cls == 1) f

/-- A fire event is the one that follows another at a station, in its page or as the first of the next page that marks. -/
def Dev.follows (d : Dev) (n : Nat) (last : Nat × Nat × Bool) (f : SentFrame) : Bool :=
  if f.page == last.1 then f.event == last.2.1 + 1
  else
    last.2.2 && f.event == 0 && last.1 < f.page
      && !d.jobs.pages.any (fun q => bit q.mask n && last.1 < q.order && q.order < f.page && q.state != .missed
          && q.state != .refused)

/-- A frame with MORE: counted with 0x0708, and after 16 consecutive fire events the lane is in FAULT with 0x0709 and its
nozzles become OUT, which TO_OUT counts (R290, R317). A spit line is no fire event of the run. -/
def Dev.exceptMore (l : Nat) (f : SentFrame) (d : Dev) : Dev :=
  let d := (d.bump (uid cLANE l) .EXC_OVERFLOW 1).report (uid cLANE l) 0x0708
  let x := d.lane.at l
  let n := l / 32
  if f.spit then d
  else
    let run := if 0 < x.more ∧ d.follows n x.moreLast f then x.more + 1 else 1
    let d := d.updLane l (fun x => { x with more := run, moreLast := (f.page, f.event, f.ends) })
    if run < 16 ∨ d.laneAllOut l then d
    else
      let from_ := d.effectAt l f
      let out := (upTo (d.nozzles l)).filter (fun m => d.nozSt l m != 2)
      let d := (((d.lateReport n l f).updLane l (fun x => { x with allOut := some from_ })).bump (uid cLANE l) .TO_OUT
        out.length).report (uid cLANE l) 0x0709 (some .fault)
      out.foldl (fun d m => d.delta (.nozzle (Fin.ofNat 256 l) (BitVec.ofNat 12 m) 2)) d

/-- The frame an EXCEPT frame reports on, or what the report itself says of it. -/
def Dev.reported (d : Dev) (l : Nat) (f : ExceptFrame) : Option SentFrame × SentFrame :=
  match (d.lane.at l).frames.find? (fun x => x.fires && x.seq == f.refSeq.toNat) with
  | some x => (some x, x)
  | none =>
    (none, { seq := f.refSeq.toNat, blocks := 0, release := 0, event := f.event.toNat
             page := ((d.jobs.pages.reverse.find? (fun p => bit p.mask (l / 32) && p.id == f.pageId.toNat)).map
               (·.order)).getD 0 })

/-- EXCEPT: 1 to 64 entries of a fire event or spit line (R288 to R296, R375). -/
def actExcept (t l : Nat) (f : ExceptFrame) (d : Dev) : Dev :=
  let d := d.enter t 7
  if !(d.lane.at l).up ∨ (d.lane.at l).hello.isNone then d
  else if f.entries.length = 0 ∨ 64 < f.entries.length then d.rxBad l 0x0611
  else
    d.upOrdered l f.seq.toNat (fun d =>
      let r := d.reported l f
      let d := if f.more then d.exceptMore l r.2 else d
      f.entries.foldl (fun d e => d.exceptEntry l r.1 e) d)

/-- EXCEPT (R291). -/
def execExcept (t : Nat) (lane : Fin 256) (f : ExceptFrame) (s : State) : Host.Outcome State Fault Refusal :=
  .next { s with dev := actExcept t lane.val f s.dev }

/-- SUSPECT_WINDOW_CLOSE: the window of a SUSPECT nozzle closes with fewer than OUT_K exceptions (R291). -/
def actSuspectWindowClose (t l m : Nat) (d : Dev) : Dev := (d.enter t 7).closeWindow l m

/-- SUSPECT_WINDOW_CLOSE (R291). -/
def execSuspectWindowClose (t : Nat) (lane : Fin 256) (nozzle : BitVec 12) (s : State) :
    Host.Outcome State Fault Refusal :=
  .next { s with dev := actSuspectWindowClose t lane.val nozzle.toNat s.dev }

/-- The EXCEPT reports for every event of a page have arrived, or their time has run out (R309). -/
def Dev.reportsIn (d : Dev) (p : Page) (n : Nat) : Bool :=
  (d.lanesOf n).all (fun l =>
    let x := d.lane.at l
    let ns := match x.hello with | some h => h.reportNs.toNat | none => 0
    x.frames.all (fun f => !f.fires || f.spit || f.page != p.order || seqAfter x.sensed f.seq)
      || (p.stn.at n).endAt + nsq ns + usq 10 ≤ d.qns)

/-- The equations of R304. -/
def Ledger.balanced (g : Ledger) : Bool :=
  g.vRequested == g.vFired + g.vTrimmed + g.vThinned + g.vUnplaceable + g.vBlanked + g.vLostInput
    && g.vMovedOut == g.vMovedIn

/-- The ledger fields with a session counter (R317). -/
def Ledger.sums (g : Ledger) : List (Ctr × Nat) :=
  [(.V_REQUESTED, g.vRequested), (.V_FIRED, g.vFired), (.V_TRIMMED, g.vTrimmed), (.V_THINNED, g.vThinned),
    (.V_UNPLACEABLE, g.vUnplaceable), (.V_BLANKED, g.vBlanked), (.V_LOST_INPUT, g.vLostInput),
    (.V_MOVED_OUT, g.vMovedOut), (.V_MOVED_IN, g.vMovedIn), (.V_DEFICIT, g.vDeficit), (.V_EXCESS, g.vExcess),
    (.N_REQUESTED, g.nRequested), (.N_FIRED, g.nFired), (.N_WEAK, g.nWeak), (.N_MISSING, g.nMissing),
    (.N_OVERFILL, g.nOverfill), (.N_NOSENSE, g.nNosense), (.N_LATE, g.nLate),
    (.N_BLANKED_EVENTS, g.nBlankedEvents), (.N_LOST_LINES, g.nLostLines)]

/-- The ledger of a page that settles joins the ring of its station; an entry overwritten before a visor returned it is
counted with 0x070C (R310). -/
def Dev.pushLedger (p : Page) (n : Nat) (d : Dev) : Dev :=
  let g := { (p.stn.at n).led with
    settleStamp := d.stamp, job := p.job, page := p.id, stn := n
    flags := d.complFlags p.slot true 0 p.flags }
  let lost := (d.stn.at n).ringNew == 256
  let d := if lost then (d.bump (uid cSTN n) .LEDGER_LOST 1).report (uid cSTN n) 0x070C else d
  let d := d.updStn n (fun s => { s with
    ring := (g :: s.ring).take 256, ringNew := if lost then 256 else s.ringNew + 1 })
  let d := g.sums.foldl (fun d x => d.bump (uid cSTN n) x.1 x.2) d
  d.delta (.ledger (Fin.ofNat 8 n) (BitVec.ofNat 32 p.job) (BitVec.ofNat 32 p.id) g.vRequested g.vFired)

end Sys2Proof.Machine
end

