-- ==== Sys2Proof/Machine/Scan.lean ====
section
/-! DEFINITION. Scan stations (R319 to R351): the SOS and EOS windows, the facet, the phase reference, and the build, issue
and end of a sweep. Instants of the scan direction are in 1/256 qns. -/

namespace Sys2Proof.Machine

/-- A station's scan state changed. -/
def Dev.updScan (n : Nat) (f : Scan → Scan) (d : Dev) : Dev := d.updStn n (fun s => { s with scan := f s.scan })

/-- The scan state of a station. -/
def Dev.scan (d : Dev) (n : Nat) : Scan := (d.stn.at n).scan

/-- The stamp of an SOS unit's edge, less its detector latency, in 1/256 qns (R356). -/
def Dev.sosStamp (d : Dev) (i : Nat) : Int := 256 * (d.qns : Int) - rdiv (256 * d.cfg .sos i .LATENCY_PS) 250

/-- f_pix, the rate of the place PLL, in mHz, 1 MHz to 500 MHz; 0 before its first lock (R320). -/
def Dev.fPix (d : Dev) (n : Nat) : Nat :=
  let r := (d.pll.at (n + 2)).rate
  if r = 0 then 0 else max 1000000000 (min 500000000000 r)

/-- A locked place PLL multiplies the SOS rate by PIX_PER_FACET: the rate of the accepted SOS over the latest revolution,
once one has been measured (R320, R325). -/
def Dev.followSos (n : Nat) (d : Dev) : Dev :=
  let c := d.scan n
  let rev := c.interval.foldl (fun a x => a + x.2) 0
  if !(d.pll.at (n + 2)).locked ∨ c.interval.length ≠ d.facets n ∨ rev ≤ 0 then d
  else
    let r := rdiv (1024000000000000 * d.cfgN .stnScan n .PIX_PER_FACET * (d.facets n : Int)) rev
    d.updPll (n + 2) (fun p => { p with rate := r.toNat })

/-- T(f): measured one revolution earlier, or the facet interval of the place PLL until a revolution has been measured
(R325); none without a pixel clock. -/
def Dev.facetTime (d : Dev) (n f : Nat) : Option Int :=
  let c := d.scan n
  if c.interval.length = d.facets n then c.interval.get? f
  else if d.fPix n = 0 then none
  else some (rdiv (1024000000000000 * d.cfgN .stnScan n .PIX_PER_FACET) (d.fPix n))

/-- Half of the SOS window (R325). -/
def Dev.halfWindow (d : Dev) (n : Nat) : Option Int :=
  (d.facetTime n (d.scan n).facet).map (fun x => rdiv (x * d.cfg .stnScan n .SOS_WIN) 1024)

/-- The prediction of the next SOS (R325). -/
def Dev.predictSos (n : Nat) (d : Dev) : Dev :=
  d.updScan n (fun c => { c with tHat := c.tLast + (d.facetTime n c.facet).getD 0 })

/-- The facet that the mechanical angle of POLY_AXIS shows (R322, R446); without the Hall angle's Z edge the manual gives
no angle, and the facet is open (log entry 11). -/
def Dev.facetNow (n : Nat) (d : Dev) : Nat × Dev :=
  let ax := d.cfgN .stnScan n .POLY_AXIS
  let e := d.enc.at (d.cfgN .axis ax .ENC)
  match e.z with
  | some z =>
    let cpr : Int := (max 1 (d.cfgN .axis ax .COUNTS_PER_REV) : Nat)
    let theta := rdiv ((e.count - z) % cpr * 65536) cpr
    (((theta - d.cfg .stnScan n .FACET0_ANGLE) % 65536 * (d.facets n : Int) / 65536).toNat, d)
  | none => (d.freeVal % d.facets n, d.freeNext)

/-- B_j of a page at a station, in 1/256 pu (R332). -/
def Dev.baseJ (d : Dev) (n : Nat) (p : Page) : Int := d.targetS n ((p.stn.at n).le.getD 0) 0

/-- The page whose base Phi_ref follows: the one in MARKING, else the next page bound (R337). -/
def Dev.phasePage (d : Dev) (n : Nat) : Option Page :=
  (d.stnPages n).find? (fun p => (p.stn.at n).bound && !(p.stn.at n).marked)

/-- Phi_ref moves, and e_j is taken (R337, R338), at an SOS whose lattice position is `pj`. -/
def Dev.phaseStep (n : Nat) (pj : Int) (d : Dev) : Dev :=
  let slew : Int := 256 * d.cfg .stnScan n .PHASE_SLEW
  let phi := match (d.scan n).phiRef with
    | none => pj
    | some phi =>
      match d.phasePage n with
      | some p => phi + clampI (-slew) slew (sx 16 (tc 16 (d.baseJ n p - phi)))
      | none => phi
  let e := sx 8 (tc 8 (rdiv (pj - phi) 256))
  (d.updScan n (fun c => { c with phiRef := some phi, e := e })).peakCtr (uid cSTN n) .PHASE_PEAK (absI e).toNat

/-- The polygon axis takes the phase error of an accepted SOS (R458): c, limited to omega_r / 64, and I_ph while c is not
limited. -/
def Dev.axisPhase (a : Nat) (e : Int) (d : Dev) : Dev :=
  d.updAxis a (fun x =>
    let lim := absI (rdiv x.wR (64 * 65536))
    let c := shrR (d.cfg .axis a .KP_PH * e) 16 + x.iPh
    if c < -lim ∨ lim < c then { x with c := clampI (-lim) lim c }
    else { x with c := c, iPh := x.iPh + shrR (d.cfg .axis a .KI_PH * e) 16 })

/-- The plane line of beam `b` in a sweep (R334). -/
def Dev.beamLine (d : Dev) (n : Nat) (y : Int) (b : Nat) : Int := y + b - d.beamShift n b

/-- The page a sweep writes: the oldest bound page that may mark and has sweeps left. -/
def Dev.sweepPage (d : Dev) (n : Nat) : Option Page :=
  d.jobs.pages.find? (fun p =>
    bit p.mask n && (p.state == .armed || p.state == .marking) && (p.stn.at n).le.isSome && !(p.stn.at n).marked)

/-- y_j of the next sweep, if it writes the page (R332, R333); none while the medium does not move forward, and after that
none until the lattice passes the next line's target (R207, R226, R227). -/
def Dev.sweepY (d : Dev) (n : Nat) (p : Page) : Option Int :=
  let here := rdiv (d.mapTau n (rdiv (d.scan n).tHat 256) - d.baseJ n p) 65536
  let fresh : Option Int := if (upTo (d.beams n)).any (fun b => 0 ≤ d.beamLine n here b) then some here else none
  if !d.moves n then none
  else
    match (d.scan n).yLast with
    | some (o, y) =>
      if o ≠ p.order then fresh
      else if (d.scan n).held ∧ here < y + d.beams n then none
      else some (y + d.beams n)
    | none => fresh

/-- The levels of a beam before the duty limits (R329, R334, R407). -/
def Dev.beamLevels (d : Dev) (n : Nat) (p : Page) (facet : Nat) (y : Int) : List Nat :=
  let k := d.planeCols n
  if y < 0 ∨ (p.lines : Int) ≤ y then []
  else if p.test then
    (upTo k).map (fun i =>
      if p.pattern = 4 ∧ (p.each ∨ facet = p.select) ∧ i % max 1 (d.testField n .COMB_PITCH) = p.phase then
        d.testField n .MARK_LEVEL
      else 0)
  else if p.spans.any (fun s => s.blank && s.covers n y.toNat) ∨ (p.stn.at n).lost.contains y.toNat then []
  else
    let bs := d.lineData p n y.toNat
    (upTo k).map (fun i => p.level (pixelOf bs p.bpp i))

/-- The next firing pixel from a cursor, in 16-bit bit-reversed order, and the cursor after it (R347, R348). -/
def nextPixel (lv : List Nat) (cursor : Nat) : Option (Nat × Nat) :=
  ((upTo 65536).find? (fun i => lv.getD (bitRev 16 ((cursor + i) % 65536)) 0 != 0)).map
    (fun i => (bitRev 16 ((cursor + i) % 65536), (cursor + i + 1) % 65536))

/-- A beam under its on-time limit. -/
structure BeamCut where
  lv : List Nat
  cursor : Nat
  /-- on-time in 1/16 pixel -/
  on : Nat
  thinned : Nat := 0
  deriving DecidableEq, Repr

/-- R347: pixels are cleared until the on-time is within `limit` / 16. -/
def thinBeam (on : Nat → Nat) (limit : Nat) : Nat → BeamCut → BeamCut
  | 0, r => r
  | fuel + 1, r =>
    if 16 * r.on ≤ limit then r
    else
      match nextPixel r.lv r.cursor with
      | none => r
      | some (i, c) =>
        thinBeam on limit fuel
          { lv := r.lv.set i 0, cursor := c, on := r.on - on (r.lv.getD i 0), thinned := r.thinned + 1 }

/-- A sweep under the exposure limit. -/
structure SweepCut where
  lv : Tbl (List Nat)
  cursor : Tbl Nat
  beam : Nat
  e : Nat
  /-- pixels thinned and level steps removed, by beam -/
  thinned : Tbl Nat := []
  down : Tbl Nat := []
  /-- beams passed since the latest pixel taken -/
  idle : Nat := 0
  deriving DecidableEq, Repr

/-- R348: pixels are thinned or downsized until the window is within STN_E_MAX, or none fires. -/
def reduceSweep (x : Nat → Nat) (thin : Bool) (beams eWin eMax : Nat) : Nat → SweepCut → SweepCut
  | 0, r => r
  | fuel + 1, r =>
    if eWin + r.e ≤ eMax ∨ beams ≤ r.idle then r
    else
      let b := r.beam
      let next := (b + 1) % max 1 beams
      let lv := r.lv.getD [] b
      match nextPixel lv (r.cursor.at b) with
      | none => reduceSweep x thin beams eWin eMax fuel { r with beam := next, idle := r.idle + 1 }
      | some (i, c) =>
        let old := lv.getD i 0
        let gone := thin || old == 1
        let new := if gone then 0 else old - 1
        reduceSweep x thin beams eWin eMax fuel
          { r with
            lv := r.lv.set b (lv.set i new), cursor := r.cursor.set b c, beam := next, e := r.e - (x old - x new)
            thinned := if gone then r.thinned.set b (r.thinned.at b + 1) else r.thinned
            down := if gone then r.down else r.down.set b (r.down.at b + 1)
            idle := 0 }

/-- The exposure of levels (R348). -/
def Dev.exposure (d : Dev) (n : Nat) (lv : List Nat) : Nat := lv.foldl (fun a x => a + d.pulseX n x) 0

/-- The beam limit on one beam of a sweep (R347). -/
def Dev.limitBeam (n : Nat) (p : Page) (w : Sweep) (b : Nat) (d : Dev) : Dev × Sweep :=
  let u := uid cLANE (32 * n + b)
  let lv := w.lv.getD [] b
  let on := lv.foldl (fun a x => a + d.pulseOn n x) 0
  let limit := d.cfgN .stnScan n .BEAM_ON_MAX * d.cfgN .stnScan n .SWEEP_PIXELS
  let r := thinBeam (d.pulseOn n) limit (lv.length + 1) { lv := lv, cursor := (d.scan n).pixCursor.at b, on := on }
  let d := (d.updScan n (fun c => { c with pixCursor := c.pixCursor.set b r.cursor })).peakCtr u .ON_PEAK r.on
  let d := if r.thinned = 0 then d
    else
      (((d.bump u .PIX_THINNED_BEAM r.thinned).report u 0x050E).updPage p.order (fun q => q.mark fDUTY 0x050E)).updPg
        p.order n (fun s => { s with led := { s.led with pxThinned := s.led.pxThinned + r.thinned } })
  (d, { w with lv := w.lv.set b r.lv, thinned := w.thinned + r.thinned })

/-- The exposure limit on a sweep (R348). -/
def Dev.limitSweep (n : Nat) (p : Page) (w : Sweep) (d : Dev) : Dev × Sweep :=
  let c := d.scan n
  let eWin := (c.expo.take (d.cfgN .stnScan n .STN_WIN_SWEEPS - 1)).foldl (· + ·) 0
  let e := w.lv.foldl (fun a b => a + d.exposure n b.2) 0
  let fuel := (d.beams n + 1) * (w.lv.foldl (fun a b => a + b.2.foldl (· + ·) 0) 0 + 1)
  let r := reduceSweep (d.pulseX n) (d.cfgN .stnScan n .DUTY_ACTION = 0) (d.beams n) eWin (d.cfgN .stnScan n .STN_E_MAX)
    fuel { lv := w.lv, cursor := c.pixCursor, beam := c.beamCursor, e := e }
  let d := d.updScan n (fun c => { c with pixCursor := r.cursor, beamCursor := r.beam, expo := (r.e :: c.expo).take 255 })
  let d := d.peakCtr (uid cSTN n) .E_PEAK (eWin + r.e)
  let d := r.thinned.foldl (fun d x => d.bump (uid cLANE (32 * n + x.1)) .PIX_THINNED_STN x.2) d
  let d := r.down.foldl (fun d x => d.bump (uid cLANE (32 * n + x.1)) .PIX_DOWNSIZED x.2) d
  let d := if r.e = e then d
    else
      ((d.report (uid cSTN n) 0x050F).updPage p.order (fun q => q.mark fDUTY 0x050F)).updPg p.order n (fun s =>
        { s with led := { s.led with pxThinned := s.led.pxThinned + r.thinned.foldl (fun a x => a + x.2) 0 } })
  (d, { w with lv := r.lv, thinned := w.thinned + r.thinned.foldl (fun a x => a + x.2) 0 })

/-- The sweep is built for its page: presence tests, levels, both limits (R340, R347, R348, R350). -/
def Dev.buildPage (n : Nat) (p : Page) (y : Int) (w : Sweep) (d : Dev) : Dev × Sweep :=
  let bs := upTo (d.beams n)
  let d := bs.foldl
    (fun d b =>
      let line : Int := d.beamLine n y b
      if !p.test ∧ 0 ≤ line ∧ line < (p.lines : Int) then d.testLine ((d.page? p.order).getD p) n line.toNat else d) d
  let q := (d.page? p.order).getD p
  let lv : Tbl (List Nat) := bs.map (fun b => (b, d.beamLevels n q w.facet (d.beamLine n y b)))
  let asked := lv.foldl (fun a b => a + (b.2.filter (· != 0)).length) 0
  let d := d.updPg p.order n (fun s => { s with
    built := s.built + 1, led := { s.led with nRequested := s.led.nRequested + asked } })
  let d := (d.updScan n (fun c => { c with yLast := some (p.order, y), held := false })).chanRunAll
  let x := bs.foldl (fun (x : Dev × Sweep) b => x.1.limitBeam n p x.2 b)
    (d, { w with ord := some p.order, y := y, lv := lv, asked := asked })
  x.1.limitSweep n p x.2

/-- The build of the next sweep begins at an SOS (R340). -/
def Dev.buildSweep (n : Nat) (d : Dev) : Dev :=
  let c := d.scan n
  let w : Sweep :=
    { j := c.j, facet := (c.facet + 1) % d.facets n, tHat := (rdiv c.tHat 256).toNat
      tClose := (rdiv (c.tHat + (d.halfWindow n).getD 0) 256).toNat }
  let d := d.updScan n (fun c => { c with j := c.j + 1 })
  let r := match d.sweepPage n with
    | none => none
    | some p => (d.sweepY n p).map (fun y => d.buildPage n p y w)
  match r with
  | some x => x.1.updScan n (fun c => { c with sweep := some x.2 })
  | none => d.updScan n (fun c => { c with sweep := some w, expo := (0 :: c.expo).take 255 })

/-- The data frames of a beam: (segment, levels) of every segment that fires (R341). -/
def beamSegs (lv : List Nat) : List (Nat × List Nat) :=
  ((chunks 16384 (lv.length + 1) 0 lv).filter (fun s => s.2.any (· != 0))).map (fun s => (s.1 / 16384, s.2))

/-- One beam's data frames leave, complete in the executor by the predicted SOS; they wait for credits while there is time,
and after it the beam-sweep is blanked (R341, R342). -/
def Dev.issueBeam (n : Nat) (w : Sweep) (p : Page) (b : Nat) (d : Dev) : Dev :=
  let l := 32 * n + b
  let segs := beamSegs (w.lv.getD [] b)
  let bodies := segs.map (fun s => LaneBody.sweepData w.tHat w.tClose w.j p.id w.facet s.1 s.2)
  let blocks := bodies.foldl (fun a f => a + f.wire) 0
  let inTime : Bool := d.qns + ceilDiv (14100 + blocks * blockCns (d.lane.at l).low) 25 ≤ w.tHat
  let ok : Bool := inTime && d.canSend l blocks
  let stall : Bool := d.lacksCredit l blocks && !w.stalled.contains b
  let mark (f : Sweep → Sweep) (d : Dev) : Dev := d.updScan n (fun c => { c with sweep := c.sweep.map f })
  if segs = [] ∨ w.sent.contains b ∨ w.late.contains b then d
  else if d.silentFor p l then
    mark (fun w => { w with sent := b :: w.sent }) (bodies.foldl (fun d _ => d.laneSeq l) d)
  else if ok then
    let d := bodies.foldl
      (fun d f =>
        let seq := (d.lane.at l).seq
        (d.laneSeq l).laneSend l seq f { seq := seq, blocks := 0, release := 0 }) d
    mark (fun w => { w with sent := b :: w.sent }) d
  else if inTime then
    if stall then
      mark (fun w => { w with stalled := b :: w.stalled }) (d.bump (uid cLANE l) .CREDIT_STALLS bodies.length)
    else d
  else
    mark (fun w => { w with late := b :: w.late })
      ((bodies.foldl (fun d _ => d.laneSeq l) d).bump (uid cSTN n) .LATE_LINES 1)

/-- A beam-sweep that comes too late is reported with 0x0308 once a sweep, one that waits for calibration items with 0x0806
(R225, R342, R414). -/
def Dev.lateSweep (n ord before after : Nat) (d : Dev) : Dev :=
  let code := if (d.lanesOf n).any d.calUnacked then 0x0806 else 0x0308
  if after ≤ before then d
  else (d.report (uid cSTN n) code).updPage ord (fun q => q.mark fBLANKED code)

/-- SWEEP_DATA_ISSUE: the data frames of the sweep in build are sent on every beam lane (R341, R342), and none while the
medium does not move forward (R207, R226). -/
def actSweepDataIssue (t n : Nat) (d : Dev) : Dev :=
  let d := d.enter t 7
  match (d.scan n).sweep with
  | none => d
  | some w =>
    match w.ord.bind d.page? with
    | none => d
    | some p =>
      let before := w.late.length
      let d := (if d.moves n then upTo (d.beams n) else []).foldl (fun d b => d.issueBeam n w p b) d
      d.lateSweep n p.order before (((d.scan n).sweep.map (fun w => w.late.length)).getD 0)

/-- SWEEP_DATA_ISSUE (R341). -/
def execSweepDataIssue (t : Nat) (stn : Fin 8) (s : State) : Host.Outcome State Fault Refusal :=
  .next { s with dev := actSweepDataIssue t stn.val s.dev }

/-- p_j as U32>>20 qns: the pixel period with the facet's rho (R323, R343). -/
def Dev.pixelPeriod (d : Dev) (n facet : Nat) : Nat :=
  (rdiv (4000000000000 * ((d.scan n).rho.getD 16777216 facet : Nat)) (16 * (d.scan n).rate : Nat)).toNat

/-- A beam starts or is blanked at an SOS, with the code that `stop` gives it; its pixels and its share of the coast budget
are counted (R235, R327, R343, R350). The number says how many are late. -/
def Dev.beamEnd (n : Nat) (tj : Int) (p : Page) (w : Sweep) (stop0 : Option Nat) (x : Dev × Nat) (b : Nat) : Dev × Nat :=
  let (d, late) := x
  let coast := if stop0.isSome || w.late.contains b then (d, Coast.none) else d.coastNext n p.order
  let d := coast.1
  let stop : Option Nat :=
    match stop0 with
    | some c => some c
    | none =>
      if coast.2 == .beyond then some 0x0305
      else
        match p.abortAt with
        | some a => if ((a + d.leadLane (32 * n + b) : Nat) : Int) < rdiv tj 256 then some 0x0E15 else none
        | none => none
  let l := 32 * n + b
  let line := d.beamLine n w.y b
  let lv := w.lv.getD [] b
  let px := (lv.filter (· != 0)).length
  let start := LaneBody.sweepStart (rdiv tj 256).toNat w.j (d.pixelPeriod n (d.scan n).facet)
  let sendable := d.laneMarks l && (d.lane.at l).queue.isEmpty && (start.wire : Int) ≤ (d.lane.at l).avail
  let code :=
    match stop with
    | some c => some c
    | none => if px ≠ 0 ∧ (!w.sent.contains b ∨ (!d.silentFor p l && !sendable)) then some 0x0308 else none
  let d := if line < 0 ∨ (p.lines : Int) ≤ line then d else d.coastDone n p.order coast.2 code.isNone
  if line < 0 ∨ (p.lines : Int) ≤ line then (d, late)
  else
    match code with
    | some c =>
      let d := if stop.isNone ∧ w.sent.contains b then d.laneSeq l else d
      let d := (d.bump (uid cLANE l) .SWEEPS_BLANKED 1).updPage p.order (fun q => q.mark fBLANKED c)
      let d := d.updPg p.order n (fun s => { s with
        blanked := s.blanked + 1
        led := { s.led with nBlankedEvents := s.led.nBlankedEvents + 1, pxBlanked := s.led.pxBlanked + px } })
      if c = 0x0308 ∧ !w.late.contains b then (d.bump (uid cSTN n) .LATE_LINES 1, late + 1) else (d, late)
    | none =>
      let d := (d.bump (uid cLANE l) .PIX_FIRED px).updPg p.order n (fun s => { s with
        fired := s.fired + 1, led := { s.led with nFired := s.led.nFired + px } })
      if px = 0 then (d, late)
      else
        let seq := (d.lane.at l).seq
        let d := d.laneSeq l
        if d.silentFor p l then (d, late) else (d.laneSend l seq start { seq := seq, blocks := 0, release := 0 }, late)

/-- Whether a beam-sweep was started: its data are in the executor, or it has none. -/
def Sweep.started (w : Sweep) (b : Nat) : Bool := (w.lv.getD [] b).all (· == 0) || w.sent.contains b

/-- The residual of a sweep (R336): a flag beyond PHASE_TOL; at a whole line every later sweep of the page is blanked. -/
def Dev.residual (n : Nat) (tj : Int) (p : Page) (w : Sweep) (d : Dev) : Dev :=
  let r := d.mapTau n (rdiv tj 256) - d.baseJ n p - 65536 * w.y
  let d := if absI r ≤ 256 * d.cfg .stnScan n .PHASE_TOL then d
    else (d.bump (uid cSTN n) .PHASE_FLAGS 1).report (uid cSTN n) 0x050C
  if absI r < 65536 then d else d.updPg p.order n (fun s => { s with phaseLost := true })

/-- The sweep's page has its sweep: the lines done, and with the last sweep the station is done, whose position the next
leading edge is held against (R217, R335). -/
def Dev.sweepDone (n : Nat) (p : Page) (w : Sweep) (d : Dev) : Dev :=
  let next := (upTo (d.beams n)).map (fun b => d.beamLine n (w.y + d.beams n) b)
  let low := next.foldl min (next.headD 0)
  let d := d.updPg p.order n (fun s => { s with done := min p.lines low.toNat, endAt := d.qns })
  if low < p.lines then d
  else
    let d := (d.updScan n (fun c => { c with yLast := none })).stnDone p.order n
    if (d.stn.at n).prevOrd ≠ p.order then d
    else d.updStn n (fun s => { s with prevEnd := (p.stn.at n).le.map (fun le => le + 65536 * w.y) })

/-- A sweep in build on a medium that no longer moves forward is neither fired nor blanked: its lines are built again when
the lattice passes their target (R207, R226, R227). -/
def Dev.unbuild (n : Nat) (p : Page) (w : Sweep) (d : Dev) : Dev :=
  let first : Bool := (p.stn.at n).built ≤ 1
  let d := d.updPg p.order n (fun s => { s with
    built := s.built - 1
    led := { s.led with nRequested := s.led.nRequested - w.asked, pxThinned := s.led.pxThinned - w.thinned } })
  d.updScan n (fun c => { c with
    held := true, yLast := if first then none else some (p.order, w.y - d.beams n), expo := 0 :: c.expo.drop 1 })

/-- The first sweep of a page in build, of which no data have left, is built again with the values that have taken effect
(R332, R340, R414). -/
def Dev.rebuildScan (n : Nat) (d : Dev) : Dev :=
  match (d.scan n).sweep with
  | none => d
  | some w =>
    match w.ord.bind d.page? with
    | none => d
    | some p =>
      if !w.sent.isEmpty || !w.late.isEmpty then d
      else
        let held := (d.scan n).held
        let d := (d.unbuild n p w).updScan n (fun c => { c with held := held, expo := c.expo.drop 1 })
        let q := (d.page? p.order).getD p
        let blank : Sweep := { j := w.j, facet := w.facet, tHat := w.tHat, tClose := w.tClose }
        match d.sweepY n q with
        | some y =>
          let x := d.buildPage n q y blank
          x.1.updScan n (fun c => { c with sweep := some x.2 })
        | none => d.updScan n (fun c => { c with sweep := some blank, expo := (0 :: c.expo).take 255 })

/-- The beams of a sweep end: each starts or is blanked; the exposure of those that started stays in the window (R349). -/
def Dev.beamsEnd (n : Nat) (tj : Int) (p : Page) (w : Sweep) (stop : Option Nat) (d : Dev) : Dev :=
  let fired := (p.stn.at n).led.nFired
  let x := (upTo (d.beams n)).foldl (Dev.beamEnd n tj p w stop) (d, 0)
  let d := x.1.lateSweep n p.order 0 x.2
  let after := match d.page? p.order with | some q => (q.stn.at n).led.nFired | none => fired
  let lit := if after = fired then 0
    else ((upTo (d.beams n)).filter w.started).foldl (fun a b => a + d.exposure n (w.lv.getD [] b)) 0
  (d.updScan n (fun c => { c with expo := lit :: c.expo.drop 1 })).sweepDone n p w

/-- A sweep that is not fired enters the window with exposure 0 (R349). -/
def Dev.unexposed (n : Nat) (d : Dev) : Dev := d.updScan n (fun c => { c with expo := 0 :: c.expo.drop 1 })

/-- The sweep in build meets its SOS: it starts on its beams, or is blanked (R235, R327, R328, R336, R343, R349). -/
def Dev.endSweep (n : Nat) (tj : Int) (real : Bool) (d : Dev) : Dev :=
  match (d.scan n).sweep with
  | none => d
  | some w =>
    match w.ord.bind d.page? with
    | none => d.unexposed n
    | some p =>
      if p.state ≠ .armed ∧ p.state ≠ .marking then d.unexposed n
      else
        let stop : Option Nat :=
          if (d.scan n).dead then some 0x0508
          else if (p.stn.at n).phaseLost then some 0x050D
          else if !real then some 0x0507
          else none
        if !d.moves n then d.unbuild n p w
        else
          let d := if stop.isNone then d.residual n tj p w else d.reportIf (stop == some 0x050D) (uid cSTN n) 0x050D
          d.beamsEnd n tj ((d.page? p.order).getD p) w stop

/-- The sweeps of a page that a station can no longer fire are blanked and booked (R154, R308, R350). -/
def Dev.blankScan (n ord : Nat) (d : Dev) : Dev :=
  let step (d : Dev) : Dev :=
    match d.page? ord with
    | none => d
    | some p =>
      if (p.stn.at n).marked then d
      else
        let w0 : Sweep := { j := (d.scan n).j }
        let off (b : Nat) : Int := (b : Int) - d.beamShift n b
        let first : Int := -((upTo (d.beams n)).foldl (fun a b => max a (off b)) (off 0))
        let y := match (d.scan n).yLast with
          | some (o, y) => if o = ord then y + d.beams n else first
          | none => first
        let x := match (d.scan n).sweep with
          | some w => if w.ord = some ord then (d, w) else d.buildPage n p y w0
          | none => d.buildPage n p y w0
        let met := (d.scan n).sweep.any (fun w => w.ord == some ord)
        let expo := (d.scan n).expo
        let d := x.1.updScan n (fun c => { c with sweep := none })
        let d := d.beamsEnd n (256 * (d.qns : Int)) ((d.page? ord).getD p) x.2 (some 0x0E15)
        -- a sweep that no SOS will meet is none of the window's (R348)
        if met then d else d.updScan n (fun c => { c with expo := expo })
  match d.page? ord with
  | some p => (upTo (p.lines + 2 * d.beams n + 2)).foldl (fun d _ => step d) d
  | none => d

/-- What a station can no longer mark of a page is blanked and booked; the page is done there (R154, R308). -/
def Dev.blankRest (n ord : Nat) (d : Dev) : Dev := if d.isJet n then d.blankJet n ord else d.blankScan n ord

/-- An SOS is taken at `tj`, accepted or synthesised, on a facet: phase, the sweep that meets it, the prediction, and the
build of the next sweep (R325 to R343). -/
def Dev.takeSos (n : Nat) (tj : Int) (facet : Nat) (real : Bool) (d : Dev) : Dev :=
  let d := d.phaseStep n (d.mapTau n (rdiv tj 256))
  let d := if real then d.axisPhase (d.cfgN .stnScan n .POLY_AXIS) (d.scan n).e else d
  let d := d.updScan n (fun c => { c with
    tLast := tj, facet := facet, begun := true, eosOver := false, rate := d.fPix n })
  let d := d.endSweep n tj real
  (d.predictSos n).buildSweep n

/-- An SOS edge is accepted: the first since engagement, or one inside its window (R326). -/
def Dev.sosInWindow (d : Dev) (n : Nat) (tj : Int) : Bool :=
  let c := d.scan n
  match d.halfWindow n with
  | some h => !c.begun || absI (tj - c.tHat) ≤ h
  | none => true

/-- A detector pulse that is no edge of a SOS unit: its input is not served (R78), its edge is not the configured one, or it
is shorter than FILTER_NS (R356). It is neither taken nor counted (DESIGN CHOICE, log entry 79). -/
def Dev.notEdge (d : Dev) (i : Nat) (rising : Bool) (widthNs : Nat) : Bool :=
  !d.bankUp .sos || rising == d.cfgB .sos i .POLARITY || widthNs < d.cfgN .sos i .FILTER_NS

/-- SOS_EDGE: the first edge in its window is accepted as t_j; any other is ignored and counted with 0x0509 (R326). The
build of the next sweep that begins with it reads plane lines, with the flawed words `ecc` (R163, R340). -/
def actSosEdge (t n : Nat) (rising : Bool) (widthNs : Nat) (ecc : List EccFlaw) (d : Dev) : Dev :=
  let d := (d.enter t 6).noteFlaws ecc
  let u := uid cSOS (2 * n)
  if d.notEdge (2 * n) rising widthNs ∨ !d.isScan n ∨ !d.binding n ∨ d.ust u ≠ .run then d
  else
    let tj := d.sosStamp (2 * n)
    if !d.sosInWindow n tj then (d.bump u .SPURIOUS 1).report u 0x0509
    else
      let c := d.scan n
      let d := (d.bump u .EDGES 1).bump (uid cSTN n) .SWEEPS 1
      let d := d.updScan n (fun c => { c with
        misses := 0, interval := if c.begun ∧ c.misses = 0 then c.interval.set c.facet (tj - c.tLast) else c.interval })
      let d := (d.updPll (n + 2) (fun p => { p with ref := true, refLost := false })).followSos n
      let (f, d) := d.facetNow n
      let d := if c.begun ∧ f ≠ (c.facet + 1) % d.facets n then
          (d.bump (uid cSTN n) .FACET_SKIPS 1).report (uid cSTN n) 0x0510 else d
      d.takeSos n tj f true

/-- SOS_EDGE (R326). -/
def execSosEdge (t : Nat) (x : SosPulse) (s : State) : Host.Outcome State Fault Refusal :=
  .next { s with dev := actSosEdge t x.stn.val x.rising x.widthNs x.ecc s.dev }

/-- The sixteenth consecutive miss (R328). -/
def Dev.sosFailed (n : Nat) (d : Dev) : Dev :=
  match d.marking n with
  | some _ =>
    let d := (d.updScan n (fun c => { c with dead := true })).report (uid cSTN n) 0x0508 (some .fault)
    { d with eng := { d.eng with stopAtBrim := true } }
  | none => (d.enterHold (n + 2) 0x0206).updPll (n + 2) (fun p => { p with ref := false, refLost := true })

/-- The window of the next SOS has closed (R325, R327). -/
def Dev.sosClosed (d : Dev) (n : Nat) : Bool :=
  match d.halfWindow n with
  | some h => (d.scan n).tHat + h < d.sosStamp (2 * n)
  | none => false

/-- SOS_WINDOW_TIMEOUT: the window closes without an SOS; the station synthesises one, and the place PLL coasts (R327,
R328). -/
def actSosWindowTimeout (t n : Nat) (ecc : List EccFlaw) (d : Dev) : Dev :=
  let d := (d.enter t 7).noteFlaws ecc
  if !d.isScan n ∨ !d.binding n ∨ !(d.scan n).begun ∨ !d.sosClosed n then d
  else
    let c := d.scan n
    let d := ((d.bump (uid cSTN n) .SWEEPS_SYNTH 1).report (uid cSTN n) 0x0507).updScan n (fun c => { c with
      misses := c.misses + 1 })
    let d := d.updPll (n + 2) (fun p => { p with ref := false })
    let d := if c.misses + 1 = 16 then d.sosFailed n else d
    d.takeSos n c.tHat ((c.facet + 1) % d.facets n) false

/-- SOS_WINDOW_TIMEOUT (R327). -/
def execSosWindowTimeout (t : Nat) (x : LineRead) (s : State) : Host.Outcome State Fault Refusal :=
  .next { s with dev := actSosWindowTimeout t x.stn.val x.ecc s.dev }

/-- SE_PIXELS x p0, and half of the EOS window around it, in 1/256 qns (R323, R324). -/
def Dev.eosNominal (d : Dev) (n : Nat) : Int × Int :=
  let nominal : Int := rdiv (1024000000000000 * d.cfgN .stnScan n .SE_PIXELS) (d.scan n).rate
  (nominal, rdiv (nominal * d.cfg .stnScan n .SOS_WIN) 1024)

/-- The window of the EOS after the latest SOS has closed (R324). -/
def Dev.eosClosed (d : Dev) (n : Nat) : Bool :=
  (d.scan n).rate != 0
    && (d.scan n).tLast + (d.eosNominal n).1 + (d.eosNominal n).2 < d.sosStamp (2 * n + 1)

/-- EOS_EDGE: an EOS in its window moves rho of the facet (R323, R324). -/
def actEosEdge (t n : Nat) (rising : Bool) (widthNs : Nat) (d : Dev) : Dev :=
  let d := d.enter t 6
  let u := uid cSOS (2 * n + 1)
  let c := d.scan n
  let se := d.cfgN .stnScan n .SE_PIXELS
  if d.notEdge (2 * n + 1) rising widthNs ∨ !d.isScan n ∨ !d.binding n ∨ se = 0 ∨ !d.has .sos (2 * n + 1) ∨ c.eosOver
      ∨ !c.begun ∨ c.rate = 0 then d
  else
    let dt := d.sosStamp (2 * n + 1) - c.tLast
    if (d.eosNominal n).2 < absI (dt - (d.eosNominal n).1) then d
    else
      let m := rdiv (dt * c.rate * 16777216) (1024000000000000 * se)
      let old : Int := (c.rho.getD 16777216 c.facet : Nat)
      let new := old + shrR (m - old) (d.cfgN .stnScan n .EOS_FILT)
      let trim : Int := 1024 * d.cfg .stnScan n .EOS_TRIM_MAX
      let lim := clampI (16777216 - trim) (16777216 + trim) new
      let d := (d.bump u .EDGES 1).updScan n (fun c => { c with eosOver := true, rho := c.rho.set c.facet lim.toNat })
      if lim = new then d else (d.bump (uid cSTN n) .EOS_CLAMPS 1).report (uid cSTN n) 0x050B

/-- EOS_EDGE (R323). -/
def execEosEdge (t : Nat) (x : EosPulse) (s : State) : Host.Outcome State Fault Refusal :=
  .next { s with dev := actEosEdge t x.stn.val x.rising x.widthNs s.dev }

/-- EOS_WINDOW_TIMEOUT: no EOS in the window; rho stays, the miss is counted with 0x050A (R324). -/
def actEosWindowTimeout (t n : Nat) (d : Dev) : Dev :=
  let d := d.enter t 7
  let u := uid cSOS (2 * n + 1)
  if !d.isScan n ∨ !d.binding n ∨ d.cfgN .stnScan n .SE_PIXELS = 0 ∨ (d.scan n).eosOver ∨ !d.eosClosed n then d
  else ((d.updScan n (fun c => { c with eosOver := true })).bump u .SPURIOUS 1).report u 0x050A

/-- EOS_WINDOW_TIMEOUT (R324). -/
def execEosWindowTimeout (t : Nat) (stn : Fin 8) (s : State) : Host.Outcome State Fault Refusal :=
  .next { s with dev := actEosWindowTimeout t stn.val s.dev }

/-- The scan stations at engagement: sweeps from 1, rho 1.0, cursors 0 (R323, R337, R349). -/
def Dev.scanEngage (d : Dev) : Dev := ((upTo 8).filter d.isScan).foldl (fun d n => d.updScan n (fun _ => {})) d

/-- The pixel audit of a page that settles (R351). -/
def Ledger.pixelsOk (g : Ledger) : Bool := g.nRequested == g.nFired + g.pxThinned + g.pxBlanked

end Sys2Proof.Machine
end

