-- ==== Sys2Proof/Machine/PageOps.lean ====
section
/-! DEFINITION. Jobs and the life of a page by command: OPEN_JOB, CLOSE_JOB, PAGE, TESTPAGE, the page gauntlet (R143,
R409), arming (R145), the arm deadline (R147) and MARKING (R142, R150); the tickets NOZZLE, GLIDE and SPIT (R139, R229,
R277, R280, R311, R312). -/

namespace Sys2Proof.Machine

/-- OPEN_JOB opens a job (R133). -/
def Dev.openJob (k : Tkt) (d : Dev) : Dev :=
  let job := tJob k.entry
  let mask := tf k.entry 167 160
  if mask = 0 then d.refuse k 0x0E01
  else if d.jobs.closed.contains job then d.refuse k 0x0E04
  else if (d.jobs.isOpen.get? job).isSome ∨ 16 ≤ d.jobs.isOpen.length then d.refuse k 0x0E05
  else
    (({ d with jobs := { d.jobs with isOpen := d.jobs.isOpen.set job mask } }).delta
      (.job (BitVec.ofNat 32 job) (BitVec.ofNat 8 mask) true)).finish k.slot 0 0

/-- OPEN_JOB: an OPEN_JOB ticket starts (R133). -/
def actOpenJob (t : Nat) (d : Dev) : Dev := (d.enter t 7).ticket 0x01 (fun k d => d.openJob k)

/-- OPEN_JOB (R133). -/
def execOpenJob (t : Nat) (s : State) : Host.Outcome State Fault Refusal := .next { s with dev := actOpenJob t s.dev }

/-- CLOSE_JOB closes a job and waits for its pages (R131, R133). -/
def Dev.closeJob (k : Tkt) (d : Dev) : Dev :=
  let job := tJob k.entry
  if d.jobs.closed.contains job then d.refuse k 0x0E04
  else if (d.jobs.isOpen.get? job).isNone then d.refuse k 0x0E03
  else
    (({ d with jobs := { d.jobs with
        isOpen := d.jobs.isOpen.del job, closed := job :: d.jobs.closed
        closing := d.jobs.closing ++ [(job, k.slot)] } }).delta (.job (BitVec.ofNat 32 job) 0 false)).closeJobs

/-- CLOSE_JOB: a CLOSE_JOB ticket starts (R133). -/
def actCloseJob (t : Nat) (d : Dev) : Dev := (d.enter t 7).ticket 0x0C (fun k d => d.closeJob k)

/-- CLOSE_JOB (R131). -/
def execCloseJob (t : Nat) (s : State) : Host.Outcome State Fault Refusal := .next { s with dev := actCloseJob t s.dev }

/-- Check 2 of R143 on one station: it is ARMED or RUN, and its waveform set is DEFINED, 0 for a scan station. -/
def Dev.pageStnOk (d : Dev) (p : Page) (n : Nat) : Bool :=
  d.stnOn n && (d.ust (uid cSTN n) == .armed || d.ust (uid cSTN n) == .run)
    && (if d.isJet n then d.setDefined n (p.set n) else p.set n == 0)

/-- R409: a test page fits the kind of its stations, and its parameters their limits. -/
def Dev.testPageOk (d : Dev) (p : Page) : Bool :=
  (stnsOf p.mask).all (fun n =>
    (if p.pattern == 4 then d.isScan n else d.isJet n)
      && p.phase < d.testField n .COMB_PITCH
      && (p.each
          || (if p.pattern == 2 then (d.lanesOf n).all (fun l => p.select < d.rows l)
              else if p.pattern == 4 then p.select < d.facets n else true))
      && ((p.pattern != 1 && p.pattern != 3) || (p.select == 0 && !p.each)))

/-- Check 4 of R143. -/
def Dev.masksOk (d : Dev) (p : Page) : Bool :=
  (upTo 64).all (fun i => !bit p.loopMask i || d.has .loop i) && (upTo 24).all (fun i => !bit p.axisMask i || d.has .axis i)

/-- Check 5 of R143: every target position fits in pos64, with LE_k at the lattice count plus 2^62 pu (R221). -/
def Dev.posOk (d : Dev) (p : Page) (n : Nat) : Bool :=
  let le := 256 * ((d.stn.at n).lattice + 4611686018427387904)
  (d.lanesOf n).all (fun l =>
    [(0 : Int), (d.eventsOf n p : Int) - 1].all (fun y =>
      let t : Int := rdiv (d.target n l le y) 256;
      (-9223372036854775808 : Int) ≤ t && t ≤ 9223372036854775807))

/-- The place of the last line of the previous page whose place is known at a station, in 1/256 pu: the latest one with
LE_MODE 1 not yet bound, else the latest bound (R143 check 6, R217). -/
def Dev.prevEndOf (d : Dev) (n : Nat) : Option Int :=
  match (d.jobs.pages.filter (fun q =>
      q.leMode && (q.state == .queued || q.state == .armed) && d.firstStn q == n && bit q.mask n
        && !(q.stn.at n).bound)).getLast? with
  | some q => some (d.lePosOf q + 65536 * d.lastLine n q)
  | none => d.prevPlace n

/-- The page gauntlet: the first finding's code (R143, R409). The check of R409 stands between the second and the third of
R143 (DESIGN CHOICE, log entry 68), and a job never opened is refused with 0x0E04 (log entry 109). -/
def Dev.pageGauntlet (d : Dev) (p : Page) : Option Nat :=
  let ns := stnsOf p.mask
  let first := d.firstStn p
  let le := d.lePosOf p
  match d.jobs.isOpen.get? p.job with
  | none => some 0x0E04
  | some mask =>
    if d.jobs.used.contains (p.job, p.id) then some 0x0E06
    else if p.mask = 0 ∨ p.mask &&& mask ≠ p.mask ∨ !ns.all (d.pageStnOk p) then some 0x0E08
    else if p.test ∧ !d.testPageOk p then some 0x0807
    else if !p.test ∧ !p.levelMapOk then some 0x0E09
    else if !d.masksOk p then some 0x0E0A
    else if !ns.all (d.posOk p) then some 0x0E0B
    else if p.leMode && d.shortAfter first (d.prevEndOf first) le then some 0x0E0C
    else if ns.any (fun n => d.cfgN .host 0 .PAGES_MAX ≤ (d.stnPages n).length) then some 0x0E0D
    else if p.leMode ∧ le ≤ 256 * (d.stn.at first).lattice then some 0x0E1B
    else none

/-- A page of a ticket: its gauntlet, then QUEUED, with its PAGE items on the way to its lanes (R142, R143, R267). With
LE_MODE 1 its leading edge at the first station stands from here on (R218). A PAGE_ID is used from its fetch on. -/
def Dev.takePage (k : Tkt) (p : Page) (d : Dev) : Dev :=
  let found := d.pageGauntlet p
  let d := { d with jobs := { d.jobs with
    used := if (d.jobs.isOpen.get? p.job).isSome then (p.job, p.id) :: d.jobs.used else d.jobs.used } }
  match found with
  | some code => d.refuse k code
  | none =>
    let p := { p with stn := (stnsOf p.mask).map (fun n =>
      (n, { le := if p.leMode ∧ n = d.firstStn p then some (d.lePosOf p) else none })) }
    ({ d with jobs := { d.jobs with pages := d.jobs.pages ++ [p], order := d.jobs.order + 1 } }).armPage p

/-- A PAGE ticket; LENGTH_LINES 0 breaks its format (R134). -/
def Dev.page1 (k : Tkt) (d : Dev) : Dev :=
  let p := pageOfTicket k.entry k.slot d.jobs.order
  if p.lines = 0 then d.refuse k 0x0E01 else d.takePage k p

/-- PAGE: a PAGE ticket starts (R134, R143). -/
def actPage (t : Nat) (d : Dev) : Dev := (d.enter t 7).ticket 0x02 (fun k d => d.page1 k)

/-- PAGE (R143). -/
def execPage (t : Nat) (s : State) : Host.Outcome State Fault Refusal := .next { s with dev := actPage t s.dev }

/-- A TESTPAGE ticket; a reserved PATTERN or PATTERN_PARAM bit, or LENGTH_LINES 0, breaks its format (R138, R406). -/
def Dev.testpage1 (k : Tkt) (d : Dev) : Dev :=
  let p := pageOfTestTicket k.entry k.slot d.jobs.order
  if p.lines = 0 ∨ p.pattern = 0 ∨ 4 < p.pattern ∨ bits p.param 31 16 ≠ 0 ∨ bits p.param 2 0 ≠ 0 then d.refuse k 0x0E01
  else d.takePage k p

/-- TESTPAGE: a TESTPAGE ticket starts (R138, R143, R409). -/
def actTestpage (t : Nat) (d : Dev) : Dev := (d.enter t 7).ticket 0x05 (fun k d => d.testpage1 k)

/-- TESTPAGE (R138). -/
def execTestpage (t : Nat) (s : State) : Host.Outcome State Fault Refusal := .next { s with dev := actTestpage t s.dev }

/-- The temperature lets a page arm (R145): below T_warn, no hard fault, and no soft anomaly but a confirmed one. -/
def Dev.tempOk (d : Dev) : Bool :=
  d.temp.now < 1050 && !d.temp.hard && !d.temp.failed && (!d.temp.soft || d.temp.confirmed)

/-- An axis is inside its speed window (R456). -/
def Dev.axisInWindow (d : Dev) (a : Nat) : Bool :=
  d.ust (uid cAXIS a) == .run
    && absI ((d.axis.at a).w - (d.axis.at a).target) ≤ 100 * d.cfg .axis a .SPEED_TOL_RPM

/-- The interlocks of a page hold (R145); a loop out of RUN is not in band (R512). -/
def Dev.interlocksOk (d : Dev) (p : Page) : Bool :=
  (upTo 64).all (fun i => !bit p.loopMask i || ((d.loop.at i).inBand && d.ust (uid cLOOP i) == .run))
    && (upTo 24).all (fun i => !bit p.axisMask i || d.axisInWindow i)

/-- The place PLL of a station counts as locked (R145, R236, R338). -/
def Dev.placeLocked (d : Dev) (n : Nat) : Bool :=
  (d.pll.at (n + 2)).locked && !(d.stn.at n).coasting
    && (!d.isScan n || ((d.scan n).begun && absI (d.scan n).e ≤ d.cfg .stnScan n .PHASE_TOL))

/-- R145's condition on the lining: it fails for 1 ms after a standby leaves LINED or a resynchronisation starts (R651). -/
def Dev.liningCurrent (d : Dev) : Bool :=
  !d.isTwin || d.twin.role == .lined || d.twin.partnerLined || d.twin.unlinedAt == 0
    || d.twin.unlinedAt + msq 1 ≤ d.clk.now

/-- What R145 asks of one station of a page. -/
def Dev.stnReady (d : Dev) (p : Page) (n : Nat) : Bool :=
  (match d.jobs.pages.find? (fun q => bit q.mask n && (q.state == .queued || q.state == .armed)) with
    | some q => q.order == p.order
    | none => false)
    && !d.jobs.pages.any (fun q => bit q.mask n && q.state == .armed && q.order != p.order)
    && d.pageAcked p n
    && (upTo (min p.lines (d.cfgN .host 0 .PREFILL_LINES))).all (d.linePresent p n)
    && d.placeLocked n

/-- A page may be ARMED (R145, R151). -/
def Dev.canArm (d : Dev) (p : Page) : Bool :=
  d.eng.st == .engaged && d.tempOk && d.liningCurrent && d.interlocksOk p && (stnsOf p.mask).all (d.stnReady p)

/-- A QUEUED page becomes ARMED (R142); its stations take its MEDIA_WIDTH (R508). -/
def Dev.armNow (p : Page) (d : Dev) : Dev :=
  let p := { p with state := .armed, armedAt := d.qns }
  let d := (stnsOf p.mask).foldl (fun d n => d.updStn n (fun s => { s with width := p.width })) (d.setPage p)
  d.notify p 0

/-- PAGE_ARM: a QUEUED page becomes ARMED when R145 holds on each of its stations. -/
def actPageArm (t job id : Nat) (d : Dev) : Dev :=
  let d := d.enter t 7
  match d.pageJ job id with
  | none => d
  | some p => if p.state = .queued ∧ d.canArm p then d.armNow p else d

/-- PAGE_ARM (R145). -/
def execPageArm (t : Nat) (job page : Word) (s : State) : Host.Outcome State Fault Refusal :=
  .next { s with dev := actPageArm t job.toNat page.toNat s.dev }

/-- The test at the arm deadline (R147): once for each page; a page that fails is MISSED with 0x0E13, or 0x0E17 if it had
armed. -/
def Dev.deadlineTest (p : Page) (d : Dev) : Dev :=
  if p.deadline ∨ (p.state ≠ .queued ∧ p.state ≠ .armed) then d
  else
    let p := { p with deadline := true }
    let d := d.setPage p
    if !d.canArm p then d.endPage .missed (if p.state = .armed then 0x0E17 else 0x0E13) p
    else if p.state = .queued then d.armNow p
    else d

/-- ARM_DEADLINE: once ARM_MARGIN_US or less is left before the predicted instant at which the leading edge reaches the
first active station, R145 is tested once more (R147). -/
def actArmDeadline (t job id : Nat) (d : Dev) : Dev :=
  let d := d.enter t 7
  match d.pageJ job id with
  | none => d
  | some p =>
    match (p.stn.at (d.firstStn p)).le with
    | some le => if d.atDeadline (d.firstStn p) le then d.deadlineTest p else d
    | none => d

/-- ARM_DEADLINE (R147). -/
def execArmDeadline (t : Nat) (job page : Word) (s : State) : Host.Outcome State Fault Refusal :=
  .next { s with dev := actArmDeadline t job.toNat page.toNat s.dev }

/-- An ARMED page enters MARKING (R142, R150): RESULT1 takes the stamp of the arrival, its first station is RUN. -/
def Dev.markNow (p : Page) (d : Dev) : Dev :=
  let n := d.firstStn p
  let p := { p with state := .marking, leStamp := d.stamp, stn := p.stn.upd n (fun s => { s with begun := true }) }
  let d := d.setPage p
  let d := if (p.stn.at n).marked then d else d.rest (uid cSTN n) .run
  let d := { d with temp := { d.temp with switchAt := d.clk.now } }
  let d := d.notify p 1
  let d := if d.twin.aborts.contains (p.job, p.id) ∧ !d.isActive then d.abort p else d
  if (stnsOf p.mask).all (fun m => (p.stn.at m).marked) then d.markedPage ((d.page? p.order).getD p) else d

/-- The leading edge of a page, bound at its first active station, has reached it (R142, R150). -/
def Dev.edgeArrived (d : Dev) (p : Page) : Bool :=
  let f := d.firstStn p
  match (p.stn.at f).le with
  | some le => (p.stn.at f).bound && le + 256 * d.cfg .stnPlace f .STN_OFFSET ≤ d.place f
  | none => false

/-- MARKING_START: the leading edge reaches the first active station of a page (R142, R150). A page whose deadline was
not tested is tested now (R147). -/
def actMarkingStart (t job id : Nat) (d : Dev) : Dev :=
  let d := d.enter t 7
  match d.pageJ job id with
  | none => d
  | some p =>
    if !d.edgeArrived p then d
    else
      let d := d.deadlineTest p
      match d.page? p.order with
      | some p => if p.state = .armed ∧ d.eng.st = .engaged then d.markNow p else d
      | none => d

/-- MARKING_START (R150). -/
def execMarkingStart (t : Nat) (job page : Word) (s : State) : Host.Outcome State Fault Refusal :=
  .next { s with dev := actMarkingStart t job.toNat page.toNat s.dev }

/-- An interlock leaves its condition after the arm deadline of a page: the page carries INTERLOCK_LEFT with 0x0E16
(R149). -/
def Dev.interlockLeft (u : Nat) (named : Page → Bool) (d : Dev) : Dev :=
  (d.jobs.pages.filter (fun p =>
      named p && p.deadline && (p.state == .armed || p.state == .marking) && !bit p.flags fINTERLOCK)).foldl
    (fun d p => (d.updPage p.order (fun q => q.mark fINTERLOCK 0x0E16)).report u 0x0E16) d

/-- A brim's audit has run at a station, and step 4 of its next page has not begun (R311). -/
def Dev.brimOpen (d : Dev) (n : Nat) : Bool :=
  d.inBrim n && (d.stn.at n).builds.all (fun b => !b.step4)
    && d.jobs.pages.all (fun p => !p.auditDue n)

/-- A NOZZLE ticket waits for the next brim of its station, or applies in the one in progress (R152, R311, R312). -/
def Dev.nozzle1 (k : Tkt) (d : Dev) : Dev :=
  let e := k.entry
  let action := tf e 161 160
  let m := tf e 159 148
  let l := tf e 135 128
  let n := l / 32
  if 1 < action ∨ !d.isJet n ∨ !(d.lanesOf n).contains l ∨ d.nozzles l ≤ m ∨ !nozEnabled (d.nozWord l m) then
    d.refuse k 0x0702
  else
    let d := d.updStn n (fun s => { s with nozActs := s.nozActs ++ [(k.slot, action, l, m)] })
    if d.brimOpen n then d.brimApply n else d

/-- NOZZLE: a NOZZLE ticket starts (R311, R312). -/
def actNozzle (t : Nat) (d : Dev) : Dev := (d.enter t 7).ticket 0x06 (fun k d => d.nozzle1 k)

/-- NOZZLE (R312). -/
def execNozzle (t : Nat) (s : State) : Host.Outcome State Fault Refusal := .next { s with dev := actNozzle t s.dev }

/-- A station's queue has no room for a glide, or the corrections would exceed 2^23 pu (R229). -/
def Dev.glideFull (d : Dev) (n : Nat) (delta : Int) : Bool :=
  let s := d.stn.at n
  16 ≤ s.glides.length
    || 2147483648 < absI s.g + s.glides.foldl (fun a g => a + absI g.rem) 0 + absI s.pReg + absI (256 * delta)

/-- A GLIDE ticket joins the queue of every station it names (R229). -/
def Dev.glide1 (k : Tkt) (d : Dev) : Dev :=
  let e := k.entry
  let delta := sx 32 (tf e 191 160)
  let slope := tf e 159 144
  let ns := stnsOf (tf e 135 128)
  if ns = [] ∨ !ns.all d.stnOn then d.refuse k 0x0E08
  else if ns.any (fun n => d.glideFull n delta) then d.refuse k 0x030B
  else
    let add (d : Dev) (n : Nat) : Dev :=
      let max := d.cfgN .stnPlace n .GLIDE_SLOPE
      let g : Glide := { slot := k.slot, rem := 256 * delta, slope := ((if slope = 0 then max else min slope max : Nat) : Int) }
      d.updStn n (fun s => { s with glides := s.glides ++ [g] })
    ns.foldl add d

/-- GLIDE: a GLIDE ticket starts (R229). -/
def actGlide (t : Nat) (d : Dev) : Dev := (d.enter t 7).ticket 0x07 (fun k d => d.glide1 k)

/-- GLIDE (R229). -/
def execGlide (t : Nat) (s : State) : Host.Outcome State Fault Refusal := .next { s with dev := actGlide t s.dev }

/-- A lane has begun the brim spit check (R280, R313). -/
def Dev.checkBegun (d : Dev) (n : Nat) : Bool :=
  let s := (d.stn.at n).spit
  let ahead := (s.queue.filter (fun y => !y.2.2)).foldl (fun a y => a + d.spitLines n y) 0 - s.line
  match s.queue with
  | (_, _, true) :: _ => 0 < s.line || (d.lanesOf n).any (fun l => s.brimLine < s.sent.at l)
  | _ => (d.lanesOf n).any (fun l => s.brimLine + ahead < s.sent.at l)

/-- A SPIT ticket's pattern joins the spitting of a brim in progress, before the check while that has not begun (R280). -/
def Dev.spitInsert (n : Nat) (x : Nat × Option Nat × Bool) (d : Dev) : Dev :=
  let begun := d.checkBegun n
  d.updStn n (fun s => { s with spit := { s.spit with
    queue :=
      if begun then s.spit.queue ++ [x]
      else s.spit.queue.filter (fun y => !y.2.2) ++ [x] ++ s.spit.queue.filter (fun y => y.2.2) } })

/-- A SPIT ticket (R139, R277, R280): it spits in the brims of the stations it names. -/
def Dev.spit1 (k : Tkt) (d : Dev) : Dev :=
  let e := k.entry
  let reps := tf e 159 144
  let pat := tf e 143 136
  let ns := stnsOf (tf e 135 128)
  if ns = [] ∨ reps = 0 ∨ !ns.all (fun n => d.isJet n && d.spitMarked n pat) then d.refuse k 0x040F
  else
    ns.foldl
      (fun d n =>
        let d := d.updStn n (fun s => { s with spitTickets := s.spitTickets ++ [(k.slot, pat, reps)] })
        if d.inBrim n then d.spitInsert n (pat, some k.slot, false) else d) d

/-- SPIT: a SPIT ticket starts (R280). -/
def actSpit (t : Nat) (d : Dev) : Dev := (d.enter t 7).ticket 0x08 (fun k d => d.spit1 k)

/-- SPIT (R280). -/
def execSpit (t : Nat) (s : State) : Host.Outcome State Fault Refusal := .next { s with dev := actSpit t s.dev }

end Sys2Proof.Machine
end

