-- ==== Sys2Proof/Machine/Loops.lean ====
section
/-! DEFINITION. Analog inputs (R497 to R502), the sources of loops, blower curves and profiles (R453, R459, R487, R506,
R508), the loop law (R503 to R516), transfer charge (R518 to R521), actuators and lamps (R522 to R530). -/

namespace Sys2Proof.Machine

/-- g(T) of R549, in ppm, held at the end points; without points 0. -/
def Dev.bandgap (d : Dev) : Int :=
  let k := d.cfgN .thermal 0 .BG_POINTS
  if k = 0 then 0
  else interp ((upTo k).map (fun j =>
    let w := bodyDWord (d.body .thermal 0) 16 j
    (sx 16 (bits w 63 48), sx 32 (bits w 31 0)))) d.temp.now

/-- A raw code after R549. -/
def Dev.compensated (d : Dev) (raw : Int) : Int := rdiv (raw * (1000000 + d.bandgap)) 1000000

/-- GAIN, GAIN_SH and OFFSET of an input applied to a code (R499). -/
def Dev.scale (d : Dev) (i : Nat) (x : Int) : Int :=
  sat32 (shrR (x * d.cfg .ain i .GAIN) (d.cfgN .ain i .GAIN_SH) + d.cfg .ain i .OFFSET)

/-- The scaled value of an input (R499). -/
def Dev.ainScaled (d : Dev) (i : Nat) : Int := d.scale i (d.ain.at i).xf

/-- The scaled value of the latest conversion, unfiltered (R499). -/
def Dev.ainNow (d : Dev) (i : Nat) : Int := d.scale i (d.ain.at i).raw

/-- The value of a source: an input unless it is in FAULT (R453, R459, R487, R506). -/
def Dev.ainSrc (d : Dev) (i : Nat) : Option Int :=
  if d.ust (uid cAIN i) = .fault then none else some (d.ainScaled i)

/-- The output of a loop in RUN (R453, R459, R487, R506). -/
def Dev.loopSrc (d : Dev) (i : Nat) : Option Int :=
  if d.ust (uid cLOOP i) = .run then some (d.loop.at i).out else none

/-- The mean and the highest head temperature of the fresh lanes of a range (R506). -/
def Dev.headTemps (d : Dev) (first last : Nat) : List Int :=
  ((upTo 256).filter (fun l =>
    first ≤ l && l ≤ last && (d.lane.at l).up &&
      (match (d.lane.at l).telemAt with
        | some a => d.qns ≤ a + 3 * usq (d.cfgN .lane l .TELEM_PERIOD_US)
        | none => false))).map (fun l => sx 16 (d.lane.at l).headTemp.toNat)

/-- The source of a loop, if available (R506). -/
def Dev.source (d : Dev) (i : Nat) : Option Int :=
  let k := d.cfgN .loop i .SRC_KIND
  let x := d.cfgN .loop i .SRC_IDX
  let temps := d.headTemps x (x + d.cfgN .loop i .SRC_CNT_M1)
  if k = 0 then d.ainSrc x
  else if k = 1 then
    if d.ust (uid cENC x) = .fault then none
    else
      let e := d.enc.at x
      let old := ((e.past.find? (fun p => p.1 + msq 1 ≤ d.clk.now)).map (·.2)).getD 0
      some (sat32 ((e.count - old) * 1000))
  else if k = 4 then d.loopSrc x
  else
    match temps with
    | [] => none
    | t :: ts => some (if k = 2 then rdiv ((t :: ts).foldl (· + ·) 0) ((t :: ts).length : Nat) else ts.foldl max t)

/-- What the ramp of a loop aims at (R508): none for a set-point source that is not available. -/
def Dev.loopTarget (d : Dev) (i : Nat) : Option Int :=
  let sp := d.cfg .loop i .SP_VALUE
  let x := d.cfgN .loop i .SP_IDX
  let times (v : Int) : Int := sat32 (shrR (sp * v) 16)
  let k := d.cfgN .loop i .SP_SRC
  if k = 0 then some sp
  else if k = 1 then (d.ainSrc x).map times
  else if k = 2 then (d.loopSrc x).map times
  else if k = 3 then some (times (d.speedMmS x))
  else if (d.stn.at x).width = 0 then some (d.loop.at i).target
  else some (times ((d.stn.at x).width : Nat))

/-- The ACT or LAMP unit a loop drives, if any (R507). -/
def Dev.loopUnit (d : Dev) (i : Nat) : Option Nat :=
  let x := d.cfgN .loop i .DST_IDX
  if d.cfgN .loop i .DST_KIND = 1 then some (uid cACT x)
  else if d.cfgN .loop i .DST_KIND = 2 then some (uid cLAMP x)
  else none

/-- The on-time of a lamp for a duty, in 156.25 ps (R525). -/
def Dev.lampTau (d : Dev) (i : Nat) : Nat :=
  (rdiv ((min (d.lamp.at i).duty (d.cfgN .lamp i .DUTY_MAX) * d.cfgN .lamp i .PERIOD_T * 16 : Nat) : Int) 65536).toNat

/-- The first period boundary of an actuator after the present, in device qns: periods begin where device time is a
multiple of PERIOD_T x 2.5 ns (R522). -/
def Dev.actBoundary (d : Dev) (i : Nat) : Nat :=
  let t := 10 * d.cfgN .act i .PERIOD_T
  t * (d.qns / t + 1)

/-- The duty that drives an actuator now: a new one waits for its period boundary (R522). -/
def Dev.actDuty (d : Dev) (i : Nat) : Nat :=
  let x := d.act.at i
  if d.qns < x.at_ then x.was else x.duty

/-- A new duty of an actuator takes effect at its next period boundary (R522). -/
def Dev.actTo (i duty : Nat) (d : Dev) : Dev :=
  if duty = (d.act.at i).duty then d
  else { d with act := d.act.upd i (fun x => { x with duty := duty, was := d.actDuty i, at_ := d.actBoundary i }) }

/-- The output of a loop drives its actuator or lamp; a change in a diagnostic period leaves the pulse and computes the
debt against the new on-time (R507, R528). A standby twin's outputs follow the active (R530). -/
def Dev.drive (i : Nat) (d : Dev) : Dev :=
  let x := d.cfgN .loop i .DST_IDX
  let out := (d.loop.at i).out
  if !d.isActive then d
  else if d.cfgN .loop i .DST_KIND = 1 then
    let duty := (clampI (d.cfg .act x .DUTY_MIN) (d.cfg .act x .DUTY_MAX) out).toNat
    let d := d.actTo x duty
    d.delta (d.actEntry x)
  else if d.cfgN .loop i .DST_KIND = 2 then
    let d := { d with lamp := d.lamp.upd x (fun m =>
        if m.failed then m else { m with duty := (clampI 0 (d.cfg .lamp x .DUTY_MAX) out).toNat }) }
    let tau := d.lampTau x;
    { d with lamp := d.lamp.upd x (fun m => if m.diag && !m.deferred then { m with debt := m.on - tau } else m) }
  else d

/-- A loop leaves band (R512, R149). -/
def Dev.leaveBand (i : Nat) (d : Dev) : Dev :=
  if !(d.loop.at i).inBand then d else (d.bandEnds i).interlockLeft (uid cLOOP i) (fun p => bit p.loopMask i)

/-- A loop changes its state, with its actuator or lamp; leaving RUN leaves band (R512, "Status and counters"). -/
def Dev.loopTo (i : Nat) (st : UState) (d : Dev) : Dev :=
  let d := if st = .run then d else d.leaveBand i
  match d.loopUnit i with
  | none => d
  | some u => if uclass u = cLAMP ∧ (d.lamp.at (uindex u)).failed then d else d.rest u st

/-- A loop enters FAULT (R501, R513, R515); `safe` sends its output to SAFE_OUT. -/
def Dev.loopFault (i code : Nat) (safe : Bool) (d : Dev) : Dev :=
  let d := (d.report (uid cLOOP i) code (some .fault)).updLoop i (fun x => { x with holdAt := none })
  let d := if safe then (d.loopSafe i).drive i else d
  d.loopTo i .fault

/-- The loops whose source is an input. -/
def Dev.loopsOfAin (d : Dev) (a : Nat) : List Nat :=
  (upTo 64).filter (fun i => d.has .loop i && d.cfgN .loop i .SRC_KIND == 0 && d.cfgN .loop i .SRC_IDX == a)

/-- The electrical range test of a conversion (R500): FAULT at the eighth code outside in a row and, while they go on, again
after an engagement; RUN again at the eighth inside (log entry 120). -/
def Dev.ainRange (i : Nat) (code : Int) (d : Dev) : Dev :=
  let u := uid cAIN i
  let x := d.ain.at i
  if d.cfg .ain i .ELEC_MIN ≤ code ∧ code ≤ d.cfg .ain i .ELEC_MAX then
    let d := { d with ain := d.ain.set i { x with outs := 0, ins := min 8 (x.ins + 1) } }
    if 7 ≤ x.ins && d.ust u == .fault then d.setSt u .run else d
  else
    let d := { d with ain := d.ain.set i { x with ins := 0, outs := min 8 (x.outs + 1) } }
    if 7 ≤ x.outs && d.ust u != .fault && d.ust u != .fenced then d.report u 0x0B11 (some .fault) else d

/-- LIMIT_SAFE acts on a loop (R501): FAULT with SAFE_OUT, which outweighs the held output of a loop in FAULT (R516). -/
def Dev.limitLoop (i : Nat) (d : Dev) : Dev :=
  let u := uid cLOOP i
  if d.ust u = .run ∨ d.ust u = .hold then d.loopFault i 0x0B10 true
  else if d.ust u = .fault ∧ (d.loop.at i).out ≠ d.cfg .loop i .SAFE_OUT then ((d.report u 0x0B10).loopSafe i).drive i
  else d

/-- The limits of a scaled value (R501): an excursion is reported once; LIMIT_SAFE holds as long as it lasts. -/
def Dev.ainLimits (i : Nat) (d : Dev) : Dev :=
  let u := uid cAIN i
  let v := d.ainScaled i
  let out : Bool := v < d.cfg .ain i .LIMIT_LO || d.cfg .ain i .LIMIT_HI < v
  let was := (d.ain.at i).beyond
  let d := { d with ain := d.ain.upd i (fun x => { x with beyond := out }) }
  if !out then d
  else
    let d := if was then d else (d.bump u .LIMIT_EVENTS 1).report u 0x0B10
    if d.cfgB .ain i .LIMIT_SAFE then (d.loopsOfAin i).foldl (fun d k => d.limitLoop k) d else d

/-- A coefficient's product, shifted (R505). -/
def Dev.term (d : Dev) (i : Nat) (k sh : F) (x : Int) : Int := shrR (d.cfg .loop i k * x) (d.cfgN .loop i sh)

/-- r moved toward a target, both with 16 fraction bits, by at most RAMP_RATE x DIV / 1,000,000 (R510). -/
def Dev.rampStep (d : Dev) (i : Nat) (r target : Int) : Int :=
  let step := rdiv ((d.cfgN .loop i .RAMP_RATE * d.cfgN .loop i .DIV : Nat) * 65536) 1000000
  clampI (r - step) (r + step) target

/-- One execution of the law of R505 on a measurement: the loop after it. -/
def Dev.loopLaw (d : Dev) (i : Nat) (y : Int) (x : Loop) : Loop :=
  let lo := d.cfg .loop i .OUT_MIN
  let hi := d.cfg .loop i .OUT_MAX
  let r := d.rampStep i x.r (65536 * x.target)
  let ri := rdiv r 65536
  let e := sat32 (ri - y)
  let p := d.term i .KP .KP_SH e
  let ii := d.term i .KI .KI_SH e
  let acc := if (x.satHi && 0 < ii) || (x.satLo && ii < 0) then x.iAcc else clampI lo hi (x.iAcc + ii)
  let dr := d.term i .KD .KD_SH (x.yPrev - y)
  let dd := x.dAcc + shrR (dr - x.dAcc) (d.cfgN .loop i .DF_SH)
  let u := sat32 (p + acc + dd + d.term i .KFF .KFF_SH ri)
  let v :=
    if d.cfgB .loop i .BQ_EN then
      sat32 (d.term i .B0 .B0_SH u + d.term i .B1 .B1_SH x.u1 + d.term i .B2 .B2_SH x.u2
        - d.term i .A1 .A1_SH x.v1 - d.term i .A2 .A2_SH x.v2)
    else u
  { x with
    r := r, iAcc := acc, dAcc := dd, u1 := u, u2 := x.u1, v1 := v, v2 := x.v1, yPrev := y, y := y
    out := clampI lo hi v, satHi := hi < v, satLo := v < lo }

/-- The saturation of an execution is noted (R514). -/
def Dev.noteSat (d : Dev) (i : Nat) (x : Loop) : Loop :=
  let win := x.satWin.filter (fun a => d.clk.now < a + msq (d.cfgN .loop i .SAT_WIN_MS))
  if x.satHi || x.satLo then
    { x with satAt := some (x.satAt.getD d.clk.now), satWin := d.clk.now :: win }
  else { x with satAt := none, satWin := win, satFlagged := false }

/-- The band condition of an execution (R512): r equals the target and |r - y| is within BAND. -/
def Dev.withinBand (d : Dev) (i : Nat) (x : Loop) : Bool :=
  absI (x.r - 65536 * x.y) ≤ 65536 * (d.cfgN .loop i .BAND : Nat)

/-- A loop enters or leaves band after an execution (R512). -/
def Dev.bandStep (i : Nat) (d : Dev) : Dev :=
  let x := d.loop.at i
  if !d.withinBand i x then (d.updLoop i (fun x => { x with bandRun := 0 })).leaveBand i
  else if x.r ≠ 65536 * x.target then d.updLoop i (fun x => { x with bandRun := 0 })
  else
    let d := d.updLoop i (fun x => { x with bandRun := min 255 (x.bandRun + 1) })
    if !x.inBand ∧ d.cfgN .loop i .BAND_SAMPLES ≤ x.bandRun + 1 then
      (d.updLoop i (fun x => { x with inBand := true })).report (uid cLOOP i) 0x0B0A
    else d

/-- A new target (R511, R512): beyond r it turns the ramp round; any change leaves band. -/
def Dev.newTarget (i : Nat) (target : Int) (d : Dev) : Dev :=
  let x := d.loop.at i
  if target = x.target then d
  else
    let turns : Bool := sgnI (65536 * x.target - x.r) * sgnI (65536 * target - x.r) < 0
    let d := (d.updLoop i (fun x => { x with target := target })).leaveBand i
    if turns then (d.bump (uid cLOOP i) .RAMP_TURNS 1).report (uid cLOOP i) 0x0B0B else d

/-- The ramp's target of an execution (R508). -/
def Dev.stepTarget (i : Nat) (d : Dev) : Dev :=
  match d.loopTarget i with
  | some v => (d.updLoop i (fun x => { x with spHeld := false })).newTarget i v
  | none =>
    if (d.loop.at i).spHeld then d
    else (d.updLoop i (fun x => { x with spHeld := true })).report (uid cLOOP i) 0x0B07

/-- The page whose charge a loop books now (R518): the lattice lies from the target of line 0 to 256 pu after that of the
last line. -/
def Dev.chargePage (d : Dev) (i : Nat) : Option Page :=
  let n := d.cfgN .loop i .CHARGE_STN
  let pos := d.mapTau n d.qns
  (d.stnPages n).find? (fun p =>
    (p.state == .marking || p.state == .marked) &&
      (match (p.stn.at n).le with
        | some le => d.targetS n le 0 ≤ pos && pos ≤ d.targetS n le ((p.lines : Int) - 1) + 65536
        | none => false))

/-- The open charge entry joins the ring of 64 (R519). -/
def Dev.closeCharge (i : Nat) (d : Dev) : Dev :=
  match (d.loop.at i).charge with
  | none => d
  | some c =>
    let aborted := match d.pageJ c.job c.page with | some p => bit p.flags fABORTED | none => c.aborted
    let c := { c with stamp := d.stamp, aborted := aborted }
    let lost := (d.loop.at i).ringNew == 64
    let d := d.updLoop i (fun x =>
      { x with
        charge := none, ring := (c :: x.ring).take 64, ringNew := if lost then 64 else x.ringNew + 1
        closed := x.closed + c.charge })
    d.reportIf lost (uid cLOOP i) 0x0B13

/-- The charge entry of a page whose last line has been reached is closed, whatever state the loop is in (R519). -/
def Dev.closePast (i : Nat) (d : Dev) : Dev :=
  match (d.loop.at i).charge with
  | none => d
  | some c =>
    if (match d.chargePage i with | some p => c.job == p.job && c.page == p.id | none => false) then d else d.closeCharge i

/-- y x DIV is added to CHARGE_TOTAL and booked to the page in MARKING or to CHARGE_BRIM (R518). -/
def Dev.bookCharge (i : Nat) (d : Dev) : Dev :=
  if !d.cfgB .loop i .CHARGE_EN then d
  else
    let q := (d.loop.at i).y * (d.cfgN .loop i .DIV : Nat)
    match d.chargePage i with
    | none => d.updLoop i (fun x => { x with total := x.total + q, brim := x.brim + q })
    | some p =>
      d.updLoop i (fun x =>
        let c := x.charge.getD { job := p.job, page := p.id, stn := d.cfgN .loop i .CHARGE_STN }
        { x with total := x.total + q, charge := some { c with charge := c.charge + q, samples := c.samples + 1 } })

/-- A loop whose source is not available enters HOLD with 0x0B07 (R513). -/
def Dev.loopHold (i : Nat) (d : Dev) : Dev :=
  let d := d.updLoop i (fun x => { x with holdAt := some d.clk.now })
  ((d.bump (uid cLOOP i) .SRC_HOLDS 1).report (uid cLOOP i) 0x0B07 (some .hold)).loopTo i .hold

/-- A loop is due at its grid instant, once: (t_us - PHASE_US) mod DIV is 0, t_us device time in whole microseconds
(R503). -/
def Dev.loopDue (d : Dev) (i : Nat) : Bool :=
  let us := d.qns / 4000
  let div := d.cfgN .loop i .DIV
  decide ((us + div - d.cfgN .loop i .PHASE_US) % div = 0 ∧ (d.loop.at i).ranAt ≠ some us)

/-- Loops due at the same instant execute in ascending index order (R504): a loop has its turn once every lower one that is due
has run. -/
def Dev.loopTurn (d : Dev) (i : Nat) : Bool :=
  (upTo i).all (fun k => !(d.has .loop k && (d.ust (uid cLOOP k) == .run || d.ust (uid cLOOP k) == .hold) && d.loopDue k))

/-- The axis or stepper that a loop drives has taken its safe state in a stop: the loop stays at SAFE_OUT (R104 step 3). -/
def Dev.loopRested (d : Dev) (i : Nat) : Bool :=
  let x := d.cfgN .loop i .DST_IDX
  d.eng.st == .disengaging && d.eng.rundownAt.isSome
    && ((d.cfgN .loop i .DST_KIND == 3 && (d.axis.at x).safe) || (d.cfgN .loop i .DST_KIND == 5 && (d.step.at x).safe))

/-- The count of the quadrature encoder that a loop reads (R241, R506). -/
def Dev.loopCount (i : Nat) (count : Int) (d : Dev) : Dev :=
  let e := d.cfgN .loop i .SRC_IDX
  if d.cfgN .loop i .SRC_KIND = 1 ∧ d.cfgN .enc e .MODE ≠ 1 ∧ d.bankUp .encoders then d.setCount e count else d

/-- An execution on a measurement: the start of R509, the target, the law, saturation, band, charge and destination. -/
def Dev.loopRun (i : Nat) (y : Int) (d : Dev) : Dev :=
  let d := d.updLoop i (fun x =>
    if x.fresh then
      { x with
        fresh := false, r := 65536 * y, iAcc := 0, dAcc := 0, u1 := 0, u2 := 0, v1 := 0, v2 := 0
        target := (d.loopTarget i).getD x.target }
    else x)
  let d := d.stepTarget i
  let d := d.updLoop i (fun x => d.noteSat i (d.loopLaw i y x))
  let d := d.bump (uid cLOOP i) .EXECUTIONS 1
  let x := d.loop.at i
  let d := if x.satHi || x.satLo then d.bump (uid cLOOP i) .SAT_US (d.cfgN .loop i .DIV) else d
  let d := ((d.bandStep i).bookCharge i).drive i
  d.delta (d.loopEntry i)

/-- LOOP_EXECUTION: the execution of a loop at a grid instant, in its turn (R503 to R513, R518). A loop in neither RUN nor
HOLD does not execute, nor one that is not due or has gone to SAFE_OUT in a stop (R104); a charge entry closes all the same
(R519). -/
def actLoopExecution (t i : Nat) (count : Int) (d : Dev) : Dev :=
  let d := d.enter t 7
  let u := uid cLOOP i
  if !d.has .loop i ∨ !d.loopDue i ∨ !d.loopTurn i then d
  else
    let d := ((d.updLoop i (fun x => { x with ranAt := some (d.qns / 4000) })).loopCount i count).closePast i
    if d.loopRested i then d
    else
    match d.source i, (d.loop.at i).holdAt with
    | none, _ => if d.ust u = .run then d.loopHold i else d
    | some y, none => if d.ust u = .run then d.loopRun i y else d
    | some y, some a =>
      if d.ust u ≠ .hold then d
      else if a + msq (d.cfgN .loop i .SRC_HOLD_MS) < d.clk.now then d.loopFault i 0x0B08 true
      else
        let d := d.updLoop i (fun x => { x with holdAt := none, yPrev := y })
        ((d.setSt u .run).loopTo i .run).loopRun i y

/-- LOOP_EXECUTION (R505). -/
def execLoopExecution (t : Nat) (lp : LoopSample) (s : State) : Host.Outcome State Fault Refusal :=
  .next { s with dev := actLoopExecution t lp.lp.val lp.count s.dev }

/-- SOURCE_HOLD_TIMEOUT: the source has not returned within SRC_HOLD_MS (R513). -/
def actSourceHoldTimeout (t i : Nat) (d : Dev) : Dev :=
  let d := d.enter t 7
  let ended : Bool := match (d.loop.at i).holdAt with
    | some a => a + msq (d.cfgN .loop i .SRC_HOLD_MS) ≤ d.clk.now
    | none => false
  if d.has .loop i ∧ d.ust (uid cLOOP i) = .hold ∧ ended then d.loopFault i 0x0B08 true else d

/-- SOURCE_HOLD_TIMEOUT (R513). -/
def execSourceHoldTimeout (t : Nat) (lp : Fin 64) (s : State) : Host.Outcome State Fault Refusal :=
  .next { s with dev := actSourceHoldTimeout t lp.val s.dev }

/-- The output has been saturated for longer than T_SAT_MS, or over more than SAT_FRAC of SAT_WIN_MS (R514); of a loop in
FAULT, up to its latest saturated execution. -/
def Dev.satFound (d : Dev) (i : Nat) : Bool :=
  let x := d.loop.at i
  let win := d.cfgN .loop i .SAT_WIN_MS
  let now := if d.ust (uid cLOOP i) = .fault then x.satWin.headD 0 else d.clk.now
  let count := (x.satWin.filter (fun a => now < a + msq win)).length
  (match x.satAt with
    | some a => a + msq (d.cfgN .loop i .T_SAT_MS) < now
    | none => false)
    || d.cfgN .loop i .SAT_FRAC * win * 1000 < 256 * count * d.cfgN .loop i .DIV

/-- SATURATION_FINDING: the response of SAT_ACTION, once per saturation (R514, R515). Beside another finding that has put the
loop in FAULT it is counted and reported, and SAFE_OUT outweighs a held output (R516). -/
def actSaturationFinding (t i : Nat) (d : Dev) : Dev :=
  let d := d.enter t 7
  let u := uid cLOOP i
  if !d.has .loop i ∨ (d.ust u ≠ .run ∧ d.ust u ≠ .fault) ∨ !d.satFound i ∨ (d.loop.at i).satFlagged then d
  else
    let d := (d.bump u .SAT_FINDINGS 1).updLoop i (fun x => { x with satFlagged := true })
    let a := d.cfgN .loop i .SAT_ACTION
    if a = 0 then d.reportAs 2 false u 0x0B06 none 0
    else if d.ust u = .fault then
      let d := d.report u 0x0B06
      if a = 2 then (d.loopSafe i).drive i else d
    else d.loopFault i 0x0B06 (a == 2)

/-- SATURATION_FINDING (R514). -/
def execSaturationFinding (t : Nat) (lp : Fin 64) (s : State) : Host.Outcome State Fault Refusal :=
  .next { s with dev := actSaturationFinding t lp.val s.dev }

/-- A lamp's output is on: it is in use, engaged or stopping, and no finding has turned it off. -/
def Dev.lampLive (d : Dev) (i : Nat) : Bool :=
  let st := d.ust (uid cLAMP i)
  d.has .lamp i && !(d.lamp.at i).failed && (st == .run || st == .hold || st == .fault || st == .stopping)
    && (d.eng.st == .engaged || d.eng.st == .disengaging)

/-- A lamp in FAULT with its output off (R528). -/
def Dev.lampFault (i code : Nat) (d : Dev) : Dev :=
  ({ d with lamp := d.lamp.upd i (fun m => { m with failed := true, duty := 0, on := 0, diag := false, sample := none }) }).report
    (uid cLAMP i) code (some .fault)

/-- The present lies in the diagnostic pulse of a lamp or at its end (R526). -/
def Dev.inDiag (d : Dev) (i : Nat) : Bool :=
  let T := 10 * d.cfgN .lamp i .PERIOD_T
  (d.lamp.at i).diag && 8 * (2 * ((d.qns % T : Nat) : Int) - T).natAbs ≤ 5 * (d.lamp.at i).on

/-- A conversion of SENSE_AIN in a diagnostic pulse: the one that ends with the pulse is its sample (R526). -/
def Dev.lampTake (i : Nat) (v : Int) (d : Dev) : Dev :=
  if d.inDiag i then { d with lamp := d.lamp.upd i (fun m => { m with sample := some v }) } else d

/-- A conversion of SENSE_AIN above OC_MA turns the output off, with FAULT and 0x0B0D (R528); it is off already after a
finding. -/
def Dev.lampOver (i : Nat) (v : Int) (d : Dev) : Dev :=
  if d.has .lamp i ∧ d.cfg .lamp i .OC_MA < v ∧ d.ust (uid cLAMP i) ≠ .fenced ∧ !(d.lamp.at i).failed then d.lampFault i 0x0B0D
  else d

/-- The sample of a diagnostic pulse that has ended is judged (R528). -/
def Dev.lampSample (i : Nat) (v : Int) (d : Dev) : Dev :=
  let d := { d with lamp := d.lamp.upd i (fun m => { m with current := v.toNat, diag := false, sample := none }) }
  if v < d.cfg .lamp i .OPEN_MA then
    let d := d.bump (uid cLAMP i) .OPEN_FINDINGS 1
    let d := { d with lamp := d.lamp.upd i (fun m => { m with opens := m.opens + 1 }) }
    if below (d.lamp.at i).opens (d.cfgN .lamp i .OPEN_COUNT) then d else d.lampFault i 0x0B0C
  else { d with lamp := d.lamp.upd i (fun m => { m with opens := 0 }) }

/-- T_DIAG_NS in 156.25 ps. -/
def Dev.lampDiag (d : Dev) (i : Nat) : Nat := (rdiv ((32 * d.cfgN .lamp i .T_DIAG_NS : Nat) : Int) 5).toNat

/-- The period of R526: a diagnostic pulse, or the requested on-time less what is owed. -/
def Lamp.shape (n tau diag : Nat) (m : Lamp) : Lamp :=
  let k := m.k + 1
  if n ≤ k ∧ m.debt = 0 then
    let on := max tau diag
    { m with k := 0, on := on, debt := m.debt + (on - tau), diag := true }
  else
    let on := tau - m.debt
    { m with k := k, on := on, debt := m.debt - (tau - on), diag := false }

/-- The period of R527: diagnosis waits for the brims of LAMP_STN. -/
def Lamp.deferredShape (n tau diag : Nat) (brim : Bool) (m : Lamp) : Lamp :=
  if !brim then { m with on := tau, brimK := none, diag := false }
  else
    let k := match m.brimK with | none => 0 | some x => x + 1
    let fire := k % n == 0
    { m with on := if fire then max tau diag else tau, brimK := some k, diag := fire }

/-- The on-time of the period that begins (R525 to R527). -/
def Dev.lampShape (i : Nat) (d : Dev) : Dev :=
  let u := uid cLAMP i
  let n := d.cfgN .lamp i .N_DIAG
  let tau := d.lampTau i
  let diag := d.lampDiag i
  let m := d.lamp.at i
  let upd (f : Lamp → Lamp) (d : Dev) : Dev := { d with lamp := d.lamp.upd i f }
  if !d.cfgB .lamp i .DIAG_EN then upd (fun m => { m with on := tau, diag := false }) d
  else if d.cfgN .lamp i .T_DIAG_NS * 32 ≤ n * tau * 5 then
    let d := if m.deferred then (upd (fun m => { m with deferred := false, brimK := none }) d).report u 0x0B0F else d
    let d := upd (Lamp.shape n tau diag) d
    if (d.lamp.at i).diag then d.bump u .DIAG_PULSES 1 else d
  else
    let d := if m.deferred then d else (upd (fun m => { m with deferred := true }) d).report u 0x0B0E
    let d := upd (Lamp.deferredShape n tau diag (d.inBrim (d.cfgN .lamp i .LAMP_STN))) d
    if (d.lamp.at i).diag then d.bump u .BRIM_PULSES 1 else d

/-- The number of the period of a lamp that contains the present; periods begin where device time is a multiple of
PERIOD_T x 2.5 ns (R522, R525). -/
def Dev.lampPeriod (d : Dev) (i : Nat) : Nat := d.qns / (10 * d.cfgN .lamp i .PERIOD_T)

/-- LAMP_PERIOD: the diagnostic pulse of the period that ends is judged, and the on-time of the one that begins is
shaped, once a period (R525 to R528). A standby twin's on-times are the active's (R530). -/
def actLampPeriod (t i : Nat) (d : Dev) : Dev :=
  let d := d.enter t 7
  if !d.lampLive i ∨ !d.isActive ∨ (d.lamp.at i).period = some (d.lampPeriod i) then d
  else
    let d := { d with lamp := d.lamp.upd i (fun m => { m with period := some (d.lampPeriod i) }) }
    let d := match (d.lamp.at i).sample with | some v => d.lampSample i v | none => d
    if (d.lamp.at i).failed then d
    else
      let d := d.lampShape i
      let d := { d with lamp := d.lamp.upd i (fun m => { m with onTotal := m.onTotal + m.on }) }
      d.delta (d.lampEntry i)

/-- LAMP_PERIOD (R526). -/
def execLampPeriod (t : Nat) (lm : Fin 16) (s : State) : Host.Outcome State Fault Refusal :=
  .next { s with dev := actLampPeriod t lm.val s.dev }

/-- LAMP_OVERCURRENT: a conversion of SENSE_AIN, compared with OC_MA after R549 and R499 (R528). -/
def actLampOvercurrent (t i raw : Nat) (d : Dev) : Dev :=
  let d := d.enter t 7
  d.lampOver i (d.scale (d.cfgN .lamp i .SENSE_AIN) (d.compensated raw))

/-- LAMP_OVERCURRENT (R528). -/
def execLampOvercurrent (t : Nat) (lm : LampSense) (s : State) : Host.Outcome State Fault Refusal :=
  .next { s with dev := actLampOvercurrent t lm.lm.val lm.raw.toNat s.dev }

/-- A KIND 1 output is active while its loop is in RUN or HOLD (R523). -/
def Dev.actActive (d : Dev) (i : Nat) : Bool :=
  let st := d.ust (uid cLOOP (d.cfgN .act i .ENABLE_LOOP))
  d.cfgB .act i .KIND && (st == .run || st == .hold)

/-- CHARGE_TOTAL equals CHARGE_BRIM, the closed entries and the open entry (R520). -/
def Loop.chargeOk (x : Loop) : Bool :=
  x.total == x.brim + x.closed + (match x.charge with | some c => c.charge | none => 0)

/-- The audit of R520 at a brim of a station: a mismatch is a conservation fault with 0x0B12 that the pages settling at
that brim carry. -/
def Dev.chargeAudit (n : Nat) (d : Dev) : Dev :=
  ((upTo 64).filter (fun i =>
      d.has .loop i && d.cfgB .loop i .CHARGE_EN && d.cfgN .loop i .CHARGE_STN == n && !(d.loop.at i).chargeOk)).foldl
    (fun d i =>
      let d := d.report (uid cLOOP i) 0x0B12
      { d with plane := { d.plane with conserve := n :: d.plane.conserve } }) d

/-- A loop drives this actuator or lamp (R507). -/
def Dev.loopDriven (d : Dev) (u : Nat) : Bool := (upTo 64).any (fun i => d.has .loop i && d.loopUnit i == some u)

/-- Actuators and lamps that no loop drives take SP_VALUE (R522, R525); a lamp that a finding keeps in FAULT stays off
(R528). -/
def Dev.driveFree (d : Dev) : Dev :=
  let d := ((upTo 32).filter (fun i => d.has .act i && !d.loopDriven (uid cACT i))).foldl
    (fun d i => d.actTo i (d.cfgN .act i .SP_VALUE)) d
  ((upTo 16).filter (fun i => d.has .lamp i && !d.loopDriven (uid cLAMP i) && !(d.lamp.at i).failed)).foldl
    (fun d i => { d with lamp := d.lamp.upd i (fun m =>
      { m with duty := min (d.cfgN .lamp i .SP_VALUE) (d.cfgN .lamp i .DUTY_MAX) }) }) d

/-- A loop, an actuator and a lamp at engagement (R100, R509, R520, R522): ramps start anew, charge and lamps at 0. An
entry left open by the engagement before is closed into its ring (R519). -/
def Dev.processEngage (d : Dev) : Dev :=
  let d := ((upTo 64).filter (d.has .loop)).foldl
    (fun d i => (d.closeCharge i).updLoop i (fun x =>
      { x with
        ranAt := none, fresh := true, inBand := false, bandRun := 0, holdAt := none, satAt := none, satWin := [], satFlagged := false
        satHi := false, satLo := false, charge := none, total := 0, brim := 0, closed := 0, spHeld := false })) d
  (((upTo 16).filter (fun i => d.has .lamp i && !d.staysFault (uid cLAMP i))).foldl
    (fun d i => { d with lamp := d.lamp.set i {} }) d).driveFree

end Sys2Proof.Machine
end

