-- ==== Sys2Proof/Machine/Trig.lean ====
section
/-! DEFINITION. The sine of a quarter turn in fixed point, for the sine table of R449 and the default microstep table of
R479, both to the nearest value. -/

namespace Sys2Proof.Machine

/-- The terms of the sine's power series from `t` on, with 60 fraction bits; `x2` is the square of the angle. -/
def sinTerms (x2 : Nat) : Nat → Nat → Nat → Int
  | 0, _, _ => 0
  | fuel + 1, k, t => (t : Int) - sinTerms x2 fuel (k + 1) (t * x2 / 2 ^ 60 / ((2 * k + 2) * (2 * k + 3)))

/-- sin of a / b quarter turns as a whole number of 1 / m, to nearest. -/
def sinQuarter (m a b : Nat) : Int :=
  let x := 1811004864519280711 * a / b
  rdiv (m * sinTerms (x * x / 2 ^ 60) 14 0 x) ((2 ^ 60 : Nat) : Int)

/-- Entry `i` of the sine table of 4,096 entries, S16>>15 (R449). -/
def sineTable (i : Nat) : Int :=
  let j := i % 1024
  let q := i / 1024 % 4
  clampI (-32768) 32767
    (if q = 0 then sinQuarter 32768 j 1024
     else if q = 1 then sinQuarter 32768 (1024 - j) 1024
     else if q = 2 then -sinQuarter 32768 j 1024
     else -sinQuarter 32768 (1024 - j) 1024)

/-- sin of an angle in 1/65,536 turn, S16>>15, between table entries by linear interpolation (R449). -/
def sinOf (angle : Int) : Int :=
  let a := (angle % 65536).toNat
  let lo := sineTable (a / 16)
  lo + rdiv ((sineTable ((a / 16 + 1) % 4096) - lo) * (a % 16 : Nat)) 16

/-- cos of an angle in 1/65,536 turn (R449). -/
def cosOf (angle : Int) : Int := sinOf (angle + 16384)

/-- T[i] of the default microstep table, round(65,536 x sin(i x 90/256 degrees)) (R479). -/
def microDefault (i : Nat) : Nat := (sinQuarter 65536 i 256).toNat

end Sys2Proof.Machine
end

