-- ==== Sys2Proof/Machine/Drives.lean ====
section
/-! DEFINITION. Brushless axes (R428 to R465): current sensing and its cross-check, angle and speed, the current and
speed loops, modes and references, blower curves, trips. Currents are in mA, voltages in mV, speeds in 0.01 rpm. -/

namespace Sys2Proof.Machine

/-- A page's interlock on an axis is left when the axis leaves its speed window (R149, R456). -/
def Dev.watchAxis (a : Nat) (f : Dev → Dev) (d : Dev) : Dev :=
  let e := f d
  if d.axisInWindow a && !e.axisInWindow a then e.interlockLeft (uid cAXIS a) (fun p => bit p.axisMask a) else e

/-- A trip: every gate off, FAULT, counted (R441). Against a command to the safe state in the same CTL cycle the commanded
state stands (R442, log entry 118). -/
def Dev.axisTrip (a code : Nat) (d : Dev) : Dev :=
  let u := uid cAXIS a
  let was := (d.axis.at a).safeAt
  let d := (d.axisSafe a).updAxis a (fun x => { x with trip := true, safeAt := was, tripAt := some d.ctlCycle })
  (d.bump u .OC_TRIPS 1).report u code (if d.ust u = .fenced ∨ was = some d.ctlCycle then none else some .fault)

/-- An axis is in use in this engagement and has not tripped. -/
def Dev.axisLive (d : Dev) (a : Nat) : Bool :=
  d.has .axis a && !(d.axis.at a).trip && ((d.axis.at a).on || d.ust (uid cAXIS a) == .run)

/-- The action of ACTION on 0x0909 and 0x090B (R463). -/
def Dev.axisAction (a code : Nat) (d : Dev) : Dev :=
  let u := uid cAXIS a
  let act := d.cfgN .axis a .ACTION
  if act = 2 then d.axisTrip a code
  else if act = 1 then
    (d.report u code (some .stopping)).updAxis a (fun x => { x with ramp := true, rampFault := true })
  else d.report u code

/-- Tap j of a sinc3 filter of decimation n: its impulse response is that of three moving sums of n bits, 3n - 2 taps long and
n^3 in sum (R435). -/
def sinc3Tap (n j : Nat) : Nat :=
  let tri (x : Nat) : Nat := x * (x + 1) / 2
  tri (j + 1) + 3 * tri (j + 1 - 2 * n) - 3 * tri (j + 1 - n)

/-- The output of a sinc3 filter of decimation n on the latest bits of a bitstream, missing ones taken
as 0: the ones density times n^3 (R435, log entry 116). -/
def sinc3 (n : Nat) (stream : List Bool) : Nat :=
  ((stream.take (3 * n - 2)).foldl (fun (x : Nat × Nat) b => (x.1 + 1, x.2 + if b then sinc3Tap n x.1 else 0)) (0, 0)).2

/-- A current of an SDM unit through its filter of decimation n, in mA; the unit converts to 10 mA (R435). -/
def Dev.sdmCurrent (d : Dev) (s n : Nat) (stream : List Bool) : Int :=
  let full : Int := (n * n * n : Nat)
  10 * (rdiv ((2 * (sinc3 n stream : Int) - full) * d.cfg .sdm s .FS) full + d.cfg .sdm s .OFFSET)

/-- T_pwm in steps of 2.5 ns (R429). -/
def Dev.pwmT (d : Dev) (a : Nat) : Nat := 2 * d.cfgN .axis a .PWM_HALF

/-- The number of the PWM period of an axis that contains the present: a period begins at each instant at which
(t - PWM_PHASE x 2.5 ns) mod T_pwm is 0, t the device time (R430). -/
def Dev.pwmPeriod (d : Dev) (a : Nat) : Nat :=
  (d.qns + 10 * d.pwmT a - 10 * d.cfgN .axis a .PWM_PHASE) / (10 * d.pwmT a)

/-- The boundary at which the next PWM period of an axis begins, in qns (R430, R432, log entry 89). -/
def Dev.pwmBoundary (d : Dev) (a : Nat) : Nat :=
  10 * d.cfgN .axis a .PWM_PHASE + 10 * d.pwmT a * d.pwmPeriod a

/-- The current loop is due: it has not run in this PWM period, nor in the LOOP_DIV - 1 before it (R430, R449). -/
def Dev.loopPeriodDue (d : Dev) (a : Nat) : Bool :=
  match (d.axis.at a).period with
  | some k => k + d.cfgN .axis a .LOOP_DIV_M1 + 1 ≤ d.pwmPeriod a
  | none => true

/-- T_pwm in compare steps of 156.25 ps (R429). -/
def Dev.pwmSteps (d : Dev) (a : Nat) : Nat := 16 * d.pwmT a

/-- A leg's low-side on-time in compare steps (R431). -/
def Dev.lowTime (d : Dev) (a duty : Nat) : Nat := d.pwmSteps a - duty - 32 * d.cfgN .axis a .DEADTIME

/-- A leg's shunt is converted at the valley: its low side is on for SHUNT_WIN_NS (R438). -/
def Dev.shuntTaken (d : Dev) (a duty : Nat) : Bool := 32 * d.cfgN .axis a .SHUNT_WIN_NS ≤ 5 * d.lowTime a duty

/-- A duty whose high-side or low-side pulse would be too short is rounded to 0 or 1 (R432). -/
def Dev.dutyRound (d : Dev) (a : Nat) (duty : Nat) : Nat :=
  let short := 32 * d.cfgN .axis a .DEADTIME
  if duty < short ∨ d.lowTime a duty < short then (if 2 * duty < d.pwmSteps a then 0 else d.pwmSteps a) else duty

/-- The duties of U, V and W in the period in effect: new ones wait for their boundary (R432). -/
def Dev.axisDuties (d : Dev) (a : Nat) : Nat × Nat × Nat :=
  let x := d.axis.at a
  if d.qns < x.dutyAt then (x.wu, x.wv, x.ww) else (x.du, x.dv, x.dw)

/-- New duties take effect at the next period boundary (R432). -/
def Dev.newDuties (a u v w : Nat) (d : Dev) : Dev :=
  let was := d.axisDuties a
  d.updAxis a (fun x =>
    { x with wu := was.1, wv := was.2.1, ww := was.2.2, du := u, dv := v, dw := w, dutyAt := d.pwmBoundary a })

/-- A lined standby drives the gates as the active does, from the next boundary on (R465). -/
def Dev.mirrorAxis (a : Nat) (y : AxisLine) (d : Dev) : Dev :=
  (d.newDuties a y.du y.dv y.dw).updAxis a (fun x =>
    { x with
      on := y.on, safe := y.safe, trip := y.trip
      onFrom := if y.on && !x.on then d.pwmBoundary a else x.onFrom })

/-- The cross-check of a sample (R439): none where no check applies. -/
def crossCheck (sum agree : Int) (su sv : Int) (u v w : Option Int) : Option Bool :=
  let near (x y : Int) : Bool := absI (x - y) ≤ agree
  match u, v, w with
  | some a, some b, some c => some (absI (a + b + c) ≤ sum && near a su && near b sv)
  | some a, some b, none => some (near a su && near b sv)
  | some a, none, some c => some (near a su && near (-(a + c)) sv)
  | none, some b, some c => some (near (-(b + c)) su && near b sv)
  | some a, none, none => some (near a su)
  | none, some b, none => some (near b sv)
  | none, none, some _ => none
  | none, none, none => none

/-- The shunt samples of the valley and the check of R439. -/
def Dev.axisCheck (a : Nat) (su sv : Int) (d : Dev) : Dev :=
  let u := uid cAXIS a
  let x := d.axisDuties a
  let leg (duty : Nat) (f : F) : Option Int := if d.shuntTaken a duty then some (d.ainNow (d.cfgN .axis a f)) else none
  let lu := leg x.1 .SHUNT_U_AIN
  let lv := leg x.2.1 .SHUNT_V_AIN
  let lw := leg x.2.2 .SHUNT_W_AIN
  let skips := ([lu, lv, lw].filter (·.isNone)).length * (d.cfgN .axis a .LOOP_DIV_M1 + 1)
  let d := (List.replicate skips ()).foldl (fun d _ => (d.bump u .SHUNT_SKIPS 1).report u 0x090A) d
  match crossCheck (10 * d.cfg .axis a .XCHK_SUM) (10 * d.cfg .axis a .XCHK_AGREE) su sv lu lv lw with
  | none => d.bump u .UNCHECKED 1
  | some true => d.updAxis a (fun x => { x with xfail := 0 })
  | some false =>
    let d := (d.bump u .XCHK_FAILS 1).updAxis a (fun x => { x with xfail := x.xfail + 1 })
    if d.cfgN .axis a .XCHK_COUNT ≤ (d.axis.at a).xfail then
      (d.updAxis a (fun x => { x with xfail := 0 })).axisAction a 0x0909
    else d

/-- The sector of a Hall code (R445). -/
def hallSector (h : BitVec 3) : Option Nat :=
  if h = 1 then some 0 else if h = 3 then some 1 else if h = 2 then some 2
  else if h = 6 then some 3 else if h = 4 then some 4 else if h = 5 then some 5 else none

/-- The Hall angle: from the sector's edge at the speed of the last sector, held at the sector's end, rounded once (R6,
R445); an invalid code holds it (R447). -/
def Dev.hallAngle (d : Dev) (a : Nat) : Int :=
  let x := d.axis.at a
  match x.hallHeld, hallSector x.hall with
  | some v, _ => v
  | none, none => 0
  | none, some s =>
    let dur := max 1 x.hallDur
    let run := if x.hallDur = 0 then 0 else min x.hallDur (d.clk.now - x.hallAt)
    let at_ : Nat := if x.w < 0 then (s + 1) * dur - run else s * dur + run
    rdiv (65536 * at_ : Nat) (6 * dur : Nat) + 256 * d.cfg .axis a .HALL_OFFSET

/-- The axis takes its angle from Hall sensors alone (R445 to R447). -/
def Dev.hallOnly (d : Dev) (a : Nat) : Bool :=
  d.cfgN .axis a .ANGLE_SRC == 1 || (d.cfgN .axis a .ANGLE_SRC == 2 && (d.axis.at a).onHall)

/-- theta_e in 1/65,536 turn (R444 to R446). -/
def Dev.angle (d : Dev) (a : Nat) : Int :=
  let x := d.axis.at a
  let e := d.enc.at (d.cfgN .axis a .ENC)
  let turn (k : Int) : Int := rdiv (k * d.cfg .axis a .POLE_PAIRS * 65536) (max 1 (d.cfg .axis a .COUNTS_PER_REV))
  let src := d.cfgN .axis a .ANGLE_SRC
  if x.alignAt.isSome then 0
  else if src = 0 then turn (e.count - x.zero.getD 0) % 65536
  else
    match e.z with
    | some z =>
      if src = 1 || x.onHall then d.hallAngle a % 65536
      else (turn (e.count - z) + d.cfg .axis a .ANGLE_OFFSET) % 65536
    | none => d.hallAngle a % 65536

/-- The encoder in FAULT loses the angle: Hall for ANGLE_SRC 2, a trip for ANGLE_SRC 0 (R447). -/
def Dev.encAngle (a : Nat) (d : Dev) : Dev :=
  let src := d.cfgN .axis a .ANGLE_SRC
  if src = 1 ∨ d.ust (uid cENC (d.cfgN .axis a .ENC)) ≠ .fault then d
  else if src = 2 then
    if (d.axis.at a).onHall then d else (d.updAxis a (fun x => { x with onHall := true })).report (uid cAXIS a) 0x090D
  else if (d.axis.at a).trip then d
  else d.axisTrip a 0x090C

/-- Speed from a count change in 0.01 rpm (R448); `q` quarter-nanoseconds. -/
def Dev.countSpeed (d : Dev) (a : Nat) (dc : Int) (q : Nat) : Int :=
  rdiv (dc * 24000000000000) (d.cfg .axis a .COUNTS_PER_REV * (q : Int))

/-- Speed from the last sector's duration, in 0.01 rpm, with its direction (R448). -/
def Dev.sectorSpeed (d : Dev) (a : Nat) (dir : Int) (q : Nat) : Int :=
  rdiv (dir * 4000000000000) (d.cfg .axis a .POLE_PAIRS * (q : Int))

/-- The period of the speed loop in quarter-nanoseconds (R429, R449, R450). -/
def Dev.speedPeriod (d : Dev) (a : Nat) : Nat :=
  20 * d.cfgN .axis a .PWM_HALF * (d.cfgN .axis a .LOOP_DIV_M1 + 1) * (d.cfgN .axis a .SPEED_DIV_M1 + 1)

/-- omega_r after one step of the ramp toward a target, all with 16 fraction bits (R454). -/
def rampSpeed (acc dec wr target : Int) : Int :=
  if wr = target then wr
  else if 0 < wr then
    if target < wr then max (wr - dec) (max target 0) else min (wr + acc) target
  else if wr < 0 then
    if wr < target then min (wr + dec) (min target 0) else max (wr - acc) target
  else if 0 < target then min acc target else max (-acc) target

/-- The source of a reference (R453): none where it is not available. -/
def Dev.axisSource (d : Dev) (a : Nat) : Option Int :=
  let i := d.cfgN .axis a .REF_IDX
  let k := d.cfgN .axis a .REF_SRC
  if k = 0 then some (d.cfg .axis a .REF_VALUE)
  else if k = 1 then d.loopSrc i
  else if k = 2 then d.ainSrc i
  else some (sat32 (rdiv ((d.speedRatio i).1 * d.cfg .axis a .REF_VALUE) ((d.speedRatio i).2 * 65536)))

/-- The reference of a TORQUE or SPEED axis (R453): held with 0x0914 while its source is not available. -/
def Dev.axisRef (a : Nat) (d : Dev) : Dev :=
  let u := uid cAXIS a
  let x := d.axis.at a
  if 1 < d.cfgN .axis a .MODE ∨ x.ramp then d
  else
    match d.axisSource a with
    | some v =>
      let d := d.updAxis a (fun x => { x with ref := v, refHeld := false })
      if x.refHeld ∧ d.ust u = .hold then d.setSt u .run else d
    | none =>
      if x.refHeld then d
      else (d.updAxis a (fun x => { x with refHeld := true })).report u 0x0914 (if d.ust u = .run then some .hold else none)

/-- omega_ff of PHASE mode (R457). -/
def Dev.phaseSpeed (d : Dev) (a : Nat) : Int :=
  let n := d.cfgN .axis a .PHASE_STN
  let f := d.lineRateNow n
  rdiv (f.1 * 6000) (f.2 * (d.beams n * d.facets n : Nat))

/-- The speed target of a SPEED, PHASE or CURVE axis (R452, R459). -/
def Dev.wantSpeed (d : Dev) (a : Nat) : Int :=
  let m := d.cfgN .axis a .MODE
  if m = 1 then (d.axis.at a).ref else if m = 3 then d.phaseSpeed a else (d.axis.at a).target

/-- A target beyond W_MAX is clamped, flagged once with 0x0901 (R454). -/
def Dev.clampTarget (a : Nat) (v : Int) (d : Dev) : Dev :=
  let lim := 100 * d.cfg .axis a .W_MAX
  let past : Bool := v < -lim || lim < v
  let was := (d.axis.at a).clamped
  let d := d.updAxis a (fun x => { x with target := clampI (-lim) lim v, clamped := past })
  if past && !was then d.reportAs 2 false (uid cAXIS a) 0x0901 none 0 else d

/-- One step of the speed ramp (R454); a crossing of zero is counted. -/
def Dev.axisRamp (a : Nat) (target : Int) (d : Dev) : Dev :=
  let x := d.axis.at a
  let q := d.speedPeriod a
  let step (f : F) : Int := rdiv (d.cfg .axis a f * 100 * 65536 * (q : Int)) 4000000000
  let wr := rampSpeed (step .ACC_RPM_S) (step .DEC_RPM_S) x.wR (65536 * target)
  let d := d.updAxis a (fun x => { x with wR := wr })
  if x.wR * target < 0 ∧ wr = 0 then d.bump (uid cAXIS a) .REVERSALS 1 else d

/-- omega_r of POSITION mode (R451, R486). -/
def Dev.positionSpeed (d : Dev) (a : Nat) : Int :=
  let p := d.prof.at (uid cAXIS a)
  let ff := rdiv (p.v * 6000) (4294967296 * d.cfg .axis a .COUNTS_PER_REV)
  let ep := rdiv p.p 4294967296 - (d.enc.at (d.cfgN .axis a .ENC)).count
  let lim := 100 * d.cfg .axis a .W_MAX
  clampI (-lim) lim (shrR (d.cfg .axis a .KP_P * ep) 16 + ff)

/-- omega_r of this execution by mode and by a run-down in progress (R104, R451, R454, R463). -/
def Dev.axisOmegaR (a : Nat) (d : Dev) : Dev :=
  let m := d.cfgN .axis a .MODE
  let x := d.axis.at a
  if m = 0 then d.updAxis a (fun x => { x with target := if x.ramp then 0 else x.w, wR := 65536 * x.w })
  else if m = 2 ∧ !(x.ramp && x.rampFault) then
    let v := d.positionSpeed a
    d.updAxis a (fun x => { x with wR := 65536 * v, target := v })
  else if x.ramp then (d.updAxis a (fun x => { x with target := 0 })).axisRamp a 0
  else
    let d := d.clampTarget a (d.wantSpeed a)
    d.axisRamp a (d.axis.at a).target

/-- How long omega has been away from omega_r, and near rest (R104, R456). -/
def Dev.axisFollow (a : Nat) (d : Dev) : Dev :=
  d.updAxis a (fun x =>
    { x with
      follow := if 100 * d.cfg .axis a .FOLLOW_RPM < absI (x.w - rdiv x.wR 65536) then some (x.follow.getD d.clk.now)
        else none
      restAt := if absI x.w ≤ 100 * d.cfg .axis a .SPEED_TOL_RPM then some (x.restAt.getD d.clk.now) else none })

/-- iq_ref of the speed loop (R450), or of TORQUE mode (R452). -/
def Dev.axisIq (a : Nat) (d : Dev) : Dev :=
  let lim := 10 * d.cfg .axis a .IQ_MAX
  d.updAxis a (fun x =>
    if d.cfgN .axis a .MODE = 0 then { x with iqRef := if x.ramp then 0 else clampI (-lim) lim x.ref }
    else
      let c := if d.cfgN .axis a .MODE = 3 then x.c else 0
      let e := rdiv x.wR 65536 + c - x.w
      let iq := shrR (d.cfg .axis a .KP_W * e) 16 + x.iW
      if iq < -lim ∨ lim < iq then { x with iqRef := clampI (-lim) lim iq }
      else { x with iqRef := iq, iW := x.iW + shrR (d.cfg .axis a .KI_W * e) 16 })

/-- A run-down of R463 is over: the safe state, in FAULT. A CURVE axis that is OFF at rest turns its gates off (R461). -/
def Dev.axisSettle (a : Nat) (d : Dev) : Dev :=
  let x := d.axis.at a
  let slow : Bool := absI x.w ≤ 100 * d.cfg .axis a .SPEED_TOL_RPM
  if x.ramp && x.rampFault && (x.wR == 0 || (d.cfgN .axis a .MODE == 0 && slow)) then
    (d.axisSafe a).setSt (uid cAXIS a) .fault
  else if d.cfgN .axis a .MODE = 4 ∧ !x.curveOn ∧ !x.ramp ∧ x.wR = 0 ∧ slow then
    d.updAxis a (fun x => { x with on := false, du := 0, dv := 0, dw := 0 })
  else d

/-- The speed loop (R448, R450, R454, R456). -/
def Dev.speedLoop (a : Nat) (d : Dev) : Dev :=
  let x := d.axis.at a
  let cnt := (d.enc.at (d.cfgN .axis a .ENC)).count
  let w := if d.hallOnly a ∨ d.qns ≤ x.cntAt then x.w else d.countSpeed a (cnt - x.cnt) (d.qns - x.cntAt)
  let d := d.updAxis a (fun x => { x with w := w, cnt := cnt, cntAt := d.qns, sdiv := 0 })
  if d.axisLive a && 900 * d.cfg .axis a .W_MAX < 8 * absI w then d.axisTrip a 0x0918
  else if !x.on ∨ x.trip then d.axisFollow a
  else if x.alignAt.isSome then d.updAxis a (fun x => { x with iqRef := 0 })
  else ((((d.axisRef a).axisOmegaR a).axisFollow a).axisIq a).axisSettle a

/-- What one execution of the current loop gives (R449). -/
structure CurrentOut where
  intD : Int
  intQ : Int
  iq : Int
  sat : Bool
  duty : Nat × Nat × Nat
  deriving DecidableEq, Repr

/-- The current loop on phase currents, references and bus voltage, with the duties in compare steps of a period of `T`
steps (R429, R449); each result is rounded once (R6). -/
def currentLaw (T kp ki modMax vbus iu iv sin cos idRef iqRef intD intQ : Int) : CurrentOut :=
  let ib := shrR ((iu + 2 * iv) * 37837) 16
  let id := shrR (iu * cos + ib * sin) 15
  let iq := shrR (-iu * sin + ib * cos) 15
  let ed := idRef - id
  let eq := iqRef - iq
  let vd := shrR (kp * ed) 16 + intD
  let vq := shrR (kp * eq) 16 + intQ
  let vlim := shrR (shrR (vbus * modMax) 8 * 37837) 16
  let vdc := clampI (-vlim) vlim vd
  let rest : Int := isqrt (vlim * vlim - vdc * vdc).toNat
  let vqc := clampI (-rest) rest vq
  let va := shrR (vdc * cos - vqc * sin) 15
  let vb := shrR (vdc * sin + vqc * cos) 15
  let vu := va
  let vv := shrR (56756 * vb - 32768 * va) 16
  let vw := shrR (-56756 * vb - 32768 * va) 16
  let off := rdiv (-(max vu (max vv vw) + min vu (min vv vw))) 2
  let leg (v : Int) : Nat := (clampI 0 T (rdiv (T * (vbus + 2 * (v + off))) (2 * vbus))).toNat
  { intD := if vdc = vd then intD + shrR (ki * ed) 16 else intD
    intQ := if vqc = vq then intQ + shrR (ki * eq) 16 else intQ
    iq := iq, sat := vdc != vd || vqc != vq, duty := (leg vu, leg vv, leg vw) }

/-- An execution of the current loop; new duties take effect at the next period boundary (R432, R449). A standby twin's
duties are the active's (R465). -/
def Dev.currentLoop (a : Nat) (iu iv : Int) (d : Dev) : Dev :=
  let x := d.axis.at a
  let th := d.angle a
  let align : Bool := x.alignAt.isSome
  let r := currentLaw (d.pwmSteps a : Nat) (d.cfg .axis a .KP_I) (d.cfg .axis a .KI_I) (d.cfg .axis a .MOD_MAX) x.vbus iu iv (sinOf th)
    (cosOf th) (10 * (if align then d.cfg .axis a .ALIGN_I else d.cfg .axis a .ID_REF)) (if align then 0 else x.iqRef)
    x.intD x.intQ
  if !x.on then
    let d := d.updAxis a (fun x => { x with iq := r.iq })
    if d.isActive then d.delta (d.axisEntry a) else d
  else
    let d := d.updAxis a (fun x => { x with intD := r.intD, intQ := r.intQ, iq := r.iq })
    let d := if r.sat then (d.bump (uid cAXIS a) .SAT_SAMPLES 1).report (uid cAXIS a) 0x0910 else d
    if d.isActive then
      let d := d.newDuties a (d.dutyRound a r.duty.1) (d.dutyRound a r.duty.2.1) (d.dutyRound a r.duty.2.2)
      d.delta (d.axisEntry a)
    else d

/-- A bus voltage outside VBUS_MIN_V to VBUS_MAX_V trips an axis in use (R463). -/
def Dev.busWatch (a : Nat) (d : Dev) : Dev :=
  let mv := d.ainScaled (d.cfgN .axis a .VBUS_AIN)
  if d.axisLive a && (mv < 1000 * d.cfg .axis a .VBUS_MIN_V || 1000 * d.cfg .axis a .VBUS_MAX_V < mv) then
    d.axisTrip a 0x090F
  else d

/-- The reference of a TORQUE axis is the current loop's own (R452). -/
def Dev.torqueRef (a : Nat) (d : Dev) : Dev :=
  if d.cfgN .axis a .MODE = 0 ∧ (d.axis.at a).on ∧ (d.axis.at a).alignAt.isNone then (d.axisRef a).axisIq a else d

/-- CURRENT_LOOP: at a valley, every LOOP_DIV periods, the shunt samples and their check, the bus voltage, the angle, every
SPEED_DIV-th time the speed loop, and the current loop, whose duties take effect at the next boundary (R430, R432, R435,
R438, R439, R448 to R451, R463). -/
def actCurrentLoop (t a : Nat) (x : CurrentSample) (d : Dev) : Dev :=
  let d := d.enter t 7
  if !d.has .axis a ∨ !d.bankUp .sigmaDelta ∨ !d.loopPeriodDue a then d
  else
    let iu := d.sdmCurrent (2 * a) (d.cfgN .sdm (2 * a) .OSR) x.streamU
    let iv := d.sdmCurrent (2 * a + 1) (d.cfgN .sdm (2 * a + 1) .OSR) x.streamV
    d.watchAxis a (fun d =>
      let d := if d.cfgN .axis a .ANGLE_SRC = 1 ∨ !d.bankUp .encoders then d else d.setCount (d.cfgN .axis a .ENC) x.count
      let d := d.updAxis a (fun y => { y with
        vbus := d.ainScaled (d.cfgN .axis a .VBUS_AIN), sdiv := y.sdiv + 1, period := some (d.pwmPeriod a) })
      let on := (d.axis.at a).on
      let d := if on then (d.axisCheck a iu iv).encAngle a else d
      let d := d.busWatch a
      let d := if d.cfgN .axis a .SPEED_DIV_M1 < (d.axis.at a).sdiv then d.speedLoop a else d
      (d.torqueRef a).currentLoop a iu iv)

/-- CURRENT_LOOP (R449). -/
def execCurrentLoop (t : Nat) (ax : Fin 24) (x : CurrentSample) (s : State) : Host.Outcome State Fault Refusal :=
  .next { s with dev := actCurrentLoop t ax.val x s.dev }

/-- An over-current trips an axis with 0x0908 (R441); its gates are off already after a trip. -/
def Dev.overCurrent (a : Nat) (d : Dev) : Dev :=
  if d.has .axis a ∧ !(d.axis.at a).trip then d.watchAxis a (fun d => d.axisTrip a 0x0908) else d

/-- OC_LIMIT of an axis in mA is exceeded by a current of either sign (R440). -/
def Dev.beyondOc (d : Dev) (a : Nat) (i : Int) : Bool := 10 * d.cfg .axis a .OC_LIMIT < absI i

/-- AXIS_OVERCURRENT: an output of the over-current filters of an axis; |i_u|, |i_v| or |i_u + i_v| beyond OC_LIMIT trips it
(R440 to R442). A shunt's conversion is an ADC_CONVERSION. -/
def actAxisOvercurrent (t a : Nat) (su sv : List Bool) (d : Dev) : Dev :=
  let d := d.enter t 7
  if !d.has .axis a ∨ !d.bankUp .sigmaDelta then d
  else
    let iu := d.sdmCurrent (2 * a) (d.cfgN .sdm (2 * a) .FAST_OSR) su
    let iv := d.sdmCurrent (2 * a + 1) (d.cfgN .sdm (2 * a + 1) .FAST_OSR) sv
    if d.beyondOc a iu || d.beyondOc a iv || d.beyondOc a (iu + iv) then d.overCurrent a else d

/-- AXIS_OVERCURRENT (R441). -/
def execAxisOvercurrent (t : Nat) (ax : FastSample) (s : State) : Host.Outcome State Fault Refusal :=
  .next { s with dev := actAxisOvercurrent t ax.ax.val ax.streamU ax.streamV s.dev }

/-- SDM_LOST: the SDM unit is in FAULT with 0x090E and its axis trips (R443). -/
def actSdmLost (t k : Nat) (d : Dev) : Dev :=
  let d := d.enter t 7
  if !d.has .sdm k ∨ !d.bankUp .sigmaDelta then d
  else
    let d := (d.bump (uid cSDM k) .LOST 1).report (uid cSDM k) 0x090E (some .fault)
    if d.has .axis (k / 2) then d.watchAxis (k / 2) (fun d => d.axisTrip (k / 2) 0x090E) else d

/-- SDM_LOST (R443). -/
def execSdmLost (t : Nat) (sdm : Fin 48) (s : State) : Host.Outcome State Fault Refusal :=
  .next { s with dev := actSdmLost t sdm.val s.dev }

/-- ALIGN_DONE: after ALIGN_MS of alignment the present count is electrical zero, with 0x0907 (R444). -/
def actAlignDone (t a : Nat) (d : Dev) : Dev :=
  let d := d.enter t 7
  match (d.axis.at a).alignAt with
  | none => d
  | some since =>
    if !d.has .axis a ∨ !(d.axis.at a).on ∨ d.clk.now < since + msq (d.cfgN .axis a .ALIGN_MS) then d
    else
      (d.updAxis a (fun x =>
        { x with alignAt := none, zero := some (d.enc.at (d.cfgN .axis a .ENC)).count })).report (uid cAXIS a) 0x0907

/-- ALIGN_DONE (R444). -/
def execAlignDone (t : Nat) (ax : Fin 24) (s : State) : Host.Outcome State Fault Refusal :=
  .next { s with dev := actAlignDone t ax.val s.dev }

/-- An encoder is lost: for its stations (R234), and for each axis in use that takes its angle from it (R447). -/
def Dev.encDown (e : Nat) (d : Dev) : Dev :=
  ((upTo 24).filter (fun a => d.axisLive a && d.cfgN .axis a .ENC == e)).foldl
    (fun d a => d.watchAxis a (fun d => d.encAngle a)) (d.encLost e)

/-- SSI_WORD: an absolute position word, which the place PLL of each station on the encoder takes as a phase sample of the
count scale, or a failed frame; three failed frames in a row are a loss (R204, R234, R447). -/
def actSsiWord (t e : Nat) (w : Option (BitVec 31)) (d : Dev) : Dev :=
  let d := d.enter t 7
  if !d.bankUp .encoders ∨ !d.has .enc e ∨ d.cfgN .enc e .MODE ≠ 1 then d
  else
    match w with
    | none =>
      let d := { d with enc := d.enc.upd e (fun x => { x with ssiFails := x.ssiFails + 1 }) }
      if (d.enc.at e).ssiFails == 3 then d.encDown e else d
    | some v =>
      let k := d.cfgN .enc e .SSI_BITS
      let x := d.enc.at e
      let word := v.toNat % 2 ^ k
      let step : Int := match x.ssiLast with
        | some o => sx k (word + 2 ^ k - o)
        | none => 0
      let step := if d.cfgB .enc e .DIR_INVERT then -step else step
      let d := ({ d with enc := d.enc.set e { x with ssiFails := 0, ssiLast := some word } }).setCount e (x.count + step)
      let d := (d.stnsOfEnc e).foldl (fun d n => d.updPll (n + 2) (fun p =>
        { p with sample := some (x.count + step, d.qns) })) d
      (d.stations.filter (fun n => d.binding n && (d.cfgN .stnPlace n .PRI_ENC == e || d.cfgN .stnPlace n .SEC_ENC == e))).foldl
        (fun d n => d.xchk n) d

/-- SSI_WORD (R204). -/
def execSsiWord (t : Nat) (enc : Fin 48) (word : Option (BitVec 31)) (s : State) : Host.Outcome State Fault Refusal :=
  .next { s with dev := actSsiWord t enc.val word s.dev }

/-- ENC_FAULT: an encoder input opens or shorts (R234, R447). -/
def actEncFault (t e : Nat) (d : Dev) : Dev :=
  let d := d.enter t 7
  if d.bankUp .encoders ∧ d.has .enc e then d.encDown e else d

/-- ENC_FAULT: an encoder input opens or shorts (R234, R447). -/
def execEncFault (t : Nat) (enc : Fin 48) (s : State) : Host.Outcome State Fault Refusal :=
  .next { s with dev := actEncFault t enc.val s.dev }

/-- A Hall code outside the sectors: the angle holds; the third in a row loses it (R447). -/
def Dev.hallInvalid (a : Nat) (d : Dev) : Dev :=
  let u := uid cAXIS a
  let d := (d.bump u .HALL_ERRORS 1).report u 0x0917
  let d := d.updAxis a (fun x => { x with hallBad := x.hallBad + 1, hallHeld := some (d.hallAngle a) })
  if (d.axis.at a).hallBad ≠ 3 then d
  else if d.cfgN .axis a .ANGLE_SRC = 2 then (d.updAxis a (fun x => { x with onHall := true })).report u 0x090D
  else d.axisTrip a 0x090C

/-- A Hall code gives a new sector, the last one's duration and, on Hall alone, the speed (R445, R448). -/
def Dev.hallSet (a : Nat) (code : BitVec 3) (s : Nat) (d : Dev) : Dev :=
  let x := d.axis.at a
  let was := hallSector x.hall
  let dur := d.clk.now - x.hallAt
  let dir : Int := match was with
    | some o => if s = (o + 1) % 6 then 1 else if o = (s + 1) % 6 then -1 else sgnI x.w
    | none => 0
  let only := d.hallOnly a
  d.updAxis a (fun x =>
    { x with
      hall := code, hallAt := d.clk.now, hallDur := if was.isSome then dur else 0, hallBad := 0, hallHeld := none
      w := if only && was.isSome && dur != 0 then d.sectorSpeed a dir dur else x.w })

/-- HALL_EDGE: the Hall code of an axis changes (R445, R447, R448). -/
def actHallEdge (t a : Nat) (code : BitVec 3) (d : Dev) : Dev :=
  let d := d.enter t 7
  if !d.has .axis a ∨ !d.bankUp .encoders ∨ d.cfgN .axis a .ANGLE_SRC = 0 then d
  else
    d.watchAxis a (fun d => match hallSector code with
      | none => d.hallInvalid a
      | some s => d.hallSet a code s)

/-- HALL_EDGE (R445). -/
def execHallEdge (t : Nat) (ax : Fin 24) (code : BitVec 3) (s : State) : Host.Outcome State Fault Refusal :=
  .next { s with dev := actHallEdge t ax.val code s.dev }

/-- ENC_Z_EDGE: the count at the first Z edge is count_Z (R446). -/
def actEncZEdge (t e : Nat) (count : Int) (d : Dev) : Dev :=
  let d := d.enter t 7
  if !d.has .enc e ∨ !d.bankUp .encoders then d
  else
    let d := d.setCount e count
    { d with enc := d.enc.upd e (fun x => { x with z := some (x.z.getD count) }) }

/-- ENC_Z_EDGE (R446). -/
def execEncZEdge (t : Nat) (enc : Fin 48) (count : Int) (s : State) : Host.Outcome State Fault Refusal :=
  .next { s with dev := actEncZEdge t enc.val count s.dev }

/-- FOLLOWING_ERROR: omega has stayed away from omega_r for FOLLOW_MS (R456). -/
def actFollowingError (t a : Nat) (d : Dev) : Dev :=
  let d := d.enter t 7
  let ended : Bool := match (d.axis.at a).follow with
    | some since => since + msq (d.cfgN .axis a .FOLLOW_MS) ≤ d.clk.now
    | none => false
  if !d.has .axis a ∨ !ended ∨ !(d.axis.at a).on then d
  else d.watchAxis a (fun d => (d.updAxis a (fun x => { x with follow := none })).axisAction a 0x090B)

/-- FOLLOWING_ERROR (R456). -/
def execFollowingError (t : Nat) (ax : Fin 24) (s : State) : Host.Outcome State Fault Refusal :=
  .next { s with dev := actFollowingError t ax.val s.dev }

/-- An axis energises its gates: omega_r starts from omega, and the first energisation of an ANGLE_SRC 0 axis aligns
(R444, R455). -/
def Dev.energise (a : Nat) (d : Dev) : Dev :=
  let e := (d.enc.at (d.cfgN .axis a .ENC)).count
  d.updAxis a (fun x =>
    { x with
      on := true, safe := false, onFrom := 0, wR := 65536 * x.w, intD := 0, intQ := 0, iW := 0, sdiv := 0, cnt := e, cntAt := d.qns
      alignAt := if d.cfgN .axis a .ANGLE_SRC = 0 ∧ x.zero.isNone then some d.clk.now else none })

/-- The input of a blower curve (R459): `none` holds x_f; the flag says that the hold is reported (R462). -/
def Dev.curveInput (d : Dev) (a : Nat) : Option Int × Bool :=
  let i := d.cfgN .blowerCurve a .IN_IDX
  let k := d.cfgN .blowerCurve a .IN_SRC
  if k = 0 then (d.ainSrc i, true)
  else if k = 1 then (d.loopSrc i, true)
  else if k = 2 then (some (d.speedMmS i), false)
  else if (d.stn.at i).width = 0 then (none, false)
  else (some ((d.stn.at i).width : Nat), false)

/-- The curve at x_f (R461). -/
def Dev.curveAt (d : Dev) (a : Nat) (x : Int) : Int :=
  interp ((upTo (d.cfgN .blowerCurve a .POINTS)).map (fun j =>
    let w := bodyDWord (d.body .blowerCurve a) 16 j
    (sx 32 (bits w 63 32), ((bits w 31 0 : Nat) : Int)))) x

/-- ON and OFF of a blower by x_f, and its target (R460, R461). -/
def Dev.curveState (a : Nat) (xf : Int) (d : Dev) : Dev :=
  let u := uid cAXIS a
  let x := d.axis.at a
  let d :=
    if !x.curveOn ∧ d.cfg .blowerCurve a .T_ON ≤ xf then
      let d := ((d.updAxis a (fun x => { x with curveOn := true })).bump u .CURVE_ONS 1).report u 0x0911
      if x.on then d else d.energise a
    else if x.curveOn ∧ xf ≤ d.cfg .blowerCurve a .T_OFF then
      (d.updAxis a (fun x => { x with curveOn := false })).report u 0x0912
    else d
  d.updAxis a (fun x => { x with target := if x.curveOn then d.curveAt a xf else 0 })

/-- The 100 us slot of device time that contains the present (R459). -/
def Dev.curveSlot (d : Dev) : Nat := d.qns / 400000

/-- CURVE_SAMPLE: every 100 us a CURVE axis samples and filters its input, and updates its state and target (R459 to R462). -/
def actCurveSample (t a : Nat) (d : Dev) : Dev :=
  let d := d.enter t 7
  let u := uid cAXIS a
  if !d.has .axis a ∨ d.cfgN .axis a .MODE ≠ 4 ∨ d.ust u ≠ .run ∨ (d.axis.at a).ramp
      ∨ (d.eng.st ≠ .engaged ∧ d.eng.st ≠ .disengaging) ∨ (d.axis.at a).sampled = some d.curveSlot then d
  else
    (d.updAxis a (fun x => { x with sampled := some d.curveSlot })).watchAxis a (fun d =>
      match d.curveInput a with
      | (some v, _) =>
        let xf := match (d.axis.at a).xf with
          | none => v
          | some f => f + shrR (v - f) (d.cfgN .blowerCurve a .IN_FILT)
        (d.updAxis a (fun x => { x with xf := some xf, curveHeld := false })).curveState a xf
      | (none, true) =>
        if (d.axis.at a).curveHeld then d
        else (d.updAxis a (fun x => { x with curveHeld := true })).report u 0x0913
      | (none, false) => d)

/-- CURVE_SAMPLE (R459). -/
def execCurveSample (t : Nat) (ax : Fin 24) (s : State) : Host.Outcome State Fault Refusal :=
  .next { s with dev := actCurveSample t ax.val s.dev }

/-- An axis at engagement (R100, R444, R455, R460): a CURVE axis stays OFF, any other energises. -/
def Dev.axisEngage (a : Nat) (d : Dev) : Dev :=
  let d := d.updAxis a (fun x =>
    { x with
      trip := false, safeAt := none, tripAt := none, ramp := false, rampFault := false, zero := none, alignAt := none, onHall := false, hallHeld := none, xfail := 0
      hallBad := 0, follow := none, restAt := none, period := none, sampled := none, ref := 0, refHeld := false, clamped := false, target := 0, iqRef := 0
      iPh := 0, c := 0, xf := none, curveOn := false, curveHeld := false, safe := false, on := false })
  let e := (d.enc.at (d.cfgN .axis a .ENC)).count
  let d := { d with prof := d.prof.set (uid cAXIS a) { p := 4294967296 * e, on := d.cfgN .axis a .MODE == 2, tgt := 4294967296 * e } }
  if d.cfgN .axis a .MODE == 4 then d else d.energise a

end Sys2Proof.Machine
end

