-- ==== Sys2Proof/Machine/Motion.lean ====
section
/-! DEFINITION. Steppers (R471 to R485) and motion profiles (R486 to R490). Currents are in mA; positions and speeds of a
profile carry 32 fraction bits. -/

namespace Sys2Proof.Machine

/-- One unit of position with 32 fraction bits. -/
abbrev one32 : Int := 4294967296

/-- floor(p) of a stepper (R478). -/
def Dev.stepPos (d : Dev) (i : Nat) : Int := (d.prof.at (uid cSTEP i)).p / one32

/-- T[j] of a stepper's microstep table; T[256] is 65,536 (R478, R479). -/
def Dev.microT (d : Dev) (i j : Nat) : Nat :=
  if 256 ≤ j then 65536
  else if d.has .microstepTable i then bits (d.body .microstepTable i) (16 * j + 15) (16 * j)
  else microDefault j

/-- i_ref of phases A and B at a commanded position (R478). -/
def Dev.phaseRefs (d : Dev) (i : Nat) (pos irun : Int) : Int × Int :=
  let e := (pos * 256 / (2 ^ d.cfgN .step i .USTEP_LOG2 : Nat) % 1024).toNat
  let q0 := e / 256
  let j := if q0 % 2 = 0 then e % 256 else 256 - e % 256
  let q := if d.cfgB .step i .DIR_INVERT ∧ q0 % 2 = 1 then 4 - q0 else q0
  let a := rdiv (irun * (d.microT i (256 - j) : Nat)) 65536
  let b := rdiv (irun * (d.microT i j : Nat)) 65536
  (if q = 1 ∨ q = 2 then -a else a, if 2 ≤ q then -b else b)

/-- IRUN_eff: IRUN while the microstep changes, and IHOLD within 1 ms of the hold delay (R480). -/
def Dev.irunEff (d : Dev) (i : Nat) : Int :=
  let run := 10 * d.cfg .step i .IRUN
  match (d.step.at i).held with
  | none => run
  | some t => run + rdiv ((10 * d.cfg .step i .IHOLD - run) * (min (d.clk.now - t) (msq 1) : Nat)) 4000000

/-- The duty, I_c, sign, fast decay and open-winding timer of one phase for the next period (R472 to R474, R476). -/
def Dev.phaseStep1 (d : Dev) (i : Nat) (ref mag ic sg : Int) (full : Option Nat) :
    Nat × Int × Int × Bool × Option Nat :=
  let sgn := if ref = 0 then sg else sgnI ref
  let turned : Bool := sg != 0 && sgn != sg
  let ic := if turned then 0 else ic
  let fast : Bool := turned || d.cfgN .step i .DECAY == 1
  if ref = 0 then (0, ic, sgn, fast, none)
  else
    let dmax : Int := 256 * d.cfg .step i .DMAX
    let e := absI ref - mag
    let raw := shrR (d.cfg .step i .KP_C * e) 16 + ic
    let duty := clampI 0 dmax raw
    let ic := if duty = raw then ic + shrR (d.cfg .step i .KI_C * e) 16 else ic
    let least := ceilDiv (65536 * ceilDiv (32 * d.cfgN .step i .SENSE_WIN_NS) 5) (32 * d.cfgN .step i .CHOP_HALF)
    let full := if duty = dmax ∧ 2 * mag < absI ref then some (full.getD d.clk.now) else none
    (max duty.toNat least, ic, sgn, fast, full)

/-- A stepper's outputs go inactive with FAULT (R475, R476); against a command to the safe state the commanded state
stands. -/
def Dev.stepTrip (i code : Nat) (d : Dev) : Dev :=
  let u := uid cSTEP i
  let d := (d.stepSafe i).updStep i (fun x => { x with trip := true, fullA := none, fullB := none })
  (d.bump u .OC_TRIPS 1).report u code (if d.ust u = .fenced then none else some .fault)

/-- Microsteps of a number of encoder counts (R482). -/
def Dev.countSteps (d : Dev) (i : Nat) (c : Int) : Int := shrR (c * d.cfg .step i .STEP_PER_COUNT) 16

/-- The encoder count of a stepper. -/
def Dev.stepCount (d : Dev) (i : Nat) : Int := (d.enc.at (d.cfgN .step i .ENC)).count

/-- The count_0 for which the deviation at the present position is 0 (R483, R485). -/
def Dev.newZero (d : Dev) (i : Nat) : Int :=
  d.stepCount i - rdiv (d.stepPos i * 65536) (d.cfg .step i .STEP_PER_COUNT)

/-- Stall detection in one period (R482, R485). -/
def Dev.stallWatch (i : Nat) (d : Dev) : Dev :=
  let x := d.step.at i
  let still : Bool := x.stepAt + msq (d.cfgN .step i .STALL_MS) ≤ d.clk.now
  if d.cfgN .step i .STEP_PER_COUNT = 0 ∨ x.stallHold then d
  else if d.ust (uid cENC (d.cfgN .step i .ENC)) = .fault then
    if x.suspended then d
    else (d.updStep i (fun x => { x with suspended := true, devAt := none })).report (uid cSTEP i) 0x0A0C
  else if x.suspended then
    if still then d.updStep i (fun x => { x with suspended := false, count0 := some (d.newZero i) }) else d
  else
    match x.count0 with
    | none => d
    | some c =>
      let dev := absI (d.countSteps i (d.stepCount i - c) - d.stepPos i)
      let d := d.peakCtr (uid cSTEP i) .DEV_PEAK dev.toNat
      d.updStep i (fun x =>
        { x with devAt := if d.cfg .step i .STALL_W < dev then some (x.devAt.getD d.clk.now) else none })

/-- The commanded microstep and its current in this period (R480, R483). -/
def Dev.stepCurrent (i : Nat) (d : Dev) : Dev :=
  let p := d.stepPos i
  let x := d.step.at i
  let d := if p = x.lastStep then d
    else d.updStep i (fun x => { x with lastStep := p, stepAt := d.clk.now, held := none })
  d.updStep i (fun x => { x with irun := d.irunEff i })

/-- The number of the chopper period of a stepper that contains the present: T_chop is 2 x CHOP_HALF x 2.5 ns, and a
period begins where device time is a multiple of it, the alignment of R430 (R472, R492). -/
def Dev.chopPeriod (d : Dev) (i : Nat) : Nat := d.qns / (20 * d.cfgN .step i .CHOP_HALF)

/-- The phase loop is due: it has not run in this chopper period (R473). -/
def Dev.chopDue (d : Dev) (i : Nat) : Bool := decide ((d.step.at i).period ≠ some (d.chopPeriod i))

/-- The boundary at which the next chopper period of a stepper begins, in qns (R472). -/
def Dev.chopBoundary (d : Dev) (i : Nat) : Nat := 20 * d.cfgN .step i .CHOP_HALF * (d.chopPeriod i + 1)

/-- What both bridges do in the period in effect: what a phase loop gives waits for the next period (R473). -/
def Dev.bridges (d : Dev) (i : Nat) : Bridge × Bridge :=
  let x := d.step.at i
  if d.qns < x.dutyAt then (x.wasA, x.wasB)
  else ({ d := x.da, sg := x.sgA, fast := x.fastA }, { d := x.db, sg := x.sgB, fast := x.fastB })

/-- What both bridges do from the next period on (R473, R474). -/
def Dev.newBridges (i : Nat) (a b : Bridge) (d : Dev) : Dev :=
  let was := d.bridges i
  d.updStep i (fun x =>
    { x with
      wasA := was.1, wasB := was.2, dutyAt := d.chopBoundary i, da := a.d, sgA := a.sg, fastA := a.fast, db := b.d, sgB := b.sg
      fastB := b.fast })

/-- A lined standby drives the bridges as the active does, from the next period on, and a stall HOLD is its unit's state too
(R492). -/
def Dev.mirrorStep (i : Nat) (y : StepLine) (d : Dev) : Dev :=
  let u := uid cSTEP i
  let d := d.newBridges i { d := y.da, sg := y.sgA, fast := y.fastA } { d := y.db, sg := y.sgB, fast := y.fastB }
  let d := d.updStep i (fun x =>
    { x with on := y.on, safe := !y.on, onFrom := if y.on && !x.on then d.chopBoundary i else x.onFrom })
  if y.stallHold then d.setSt u .hold else if d.ust u = .hold then d.setSt u .run else d

/-- A sense current beyond OC_LIMIT trips a stepper with 0x0A09 (R475); its outputs are inactive already after a trip. -/
def Dev.stepOver (i : Nat) (v : Int) (d : Dev) : Dev :=
  if d.has .step i ∧ 10 * d.cfg .step i .OC_LIMIT < absI v ∧ !(d.step.at i).trip then d.stepTrip i 0x0A09 else d

/-- The current of a sense input of a stepper from a raw code (R473, R499, R549). -/
def Dev.senseCurrent (d : Dev) (i : Nat) (f : F) (raw : Nat) : Int := d.scale (d.cfgN .step i f) (d.compensated raw)

/-- The lining tells the standby of a stepper each period (R492, R648). -/
def Dev.lineStepOut (i : Nat) (d : Dev) : Dev := d.delta (d.stepEntry i)

/-- STEPPER_PHASE_LOOP: both phases are sampled at the midpoint, the duties of the next period and the deviation follow
(R473, R474, R478, R482), once in a chopper period (R472); both conversions are compared with OC_LIMIT, and a stall found in
a period that trips is counted beside the trip (R475, R484). A standby twin's duties are the active's (R492). -/
def actStepperPhaseLoop (t i : Nat) (s : PhaseSample) (d : Dev) : Dev :=
  let d := d.enter t 7
  if !d.has .step i ∨ !d.chopDue i then d
  else
    let d := if d.cfgN .step i .STEP_PER_COUNT = 0 ∨ !d.bankUp .encoders then d
      else d.setCount (d.cfgN .step i .ENC) s.count
    let d := d.updStep i (fun x => { x with period := some (d.chopPeriod i) })
    if !(d.step.at i).on then d.lineStepOut i
    else
      let d := d.stepCurrent i
      let x := d.step.at i
      let refs := d.phaseRefs i x.lastStep x.irun
      let ia := d.senseCurrent i .SENSE_A_AIN s.rawA.toNat
      let ib := d.senseCurrent i .SENSE_B_AIN s.rawB.toNat
      let a := d.phaseStep1 i refs.1 (absI ia) x.icA x.sgA x.fullA
      let b := d.phaseStep1 i refs.2 (absI ib) x.icB x.sgB x.fullB
      let d := if d.isActive then
          d.newBridges i { d := a.1, sg := a.2.2.1, fast := a.2.2.2.1 } { d := b.1, sg := b.2.2.1, fast := b.2.2.2.1 }
        else d
      let d := d.updStep i (fun x =>
        { x with icA := a.2.1, icB := b.2.1, fullA := a.2.2.2.2, fullB := b.2.2.2.2 })
      (((d.stallWatch i).stepOver i ia).stepOver i ib).lineStepOut i

/-- STEPPER_PHASE_LOOP (R473). -/
def execStepperPhaseLoop (t : Nat) (st : Fin 16) (x : PhaseSample) (s : State) : Host.Outcome State Fault Refusal :=
  .next { s with dev := actStepperPhaseLoop t st.val x s.dev }

/-- STEPPER_OVERCURRENT: a sense input converted while its phase drives; beyond OC_LIMIT all four outputs go inactive, FAULT
with 0x0A09 (R475). -/
def actStepperOvercurrent (t i : Nat) (phaseB : Bool) (raw : Nat) (d : Dev) : Dev :=
  let d := d.enter t 7
  d.stepOver i (d.senseCurrent i (if phaseB then .SENSE_B_AIN else .SENSE_A_AIN) raw)

/-- STEPPER_OVERCURRENT (R475). -/
def execStepperOvercurrent (t : Nat) (st : SenseSample) (s : State) : Host.Outcome State Fault Refusal :=
  .next { s with dev := actStepperOvercurrent t st.st.val st.phaseB st.raw.toNat s.dev }

/-- COIL_OPEN: a phase at DMAX with little current for 10 ms, handled as an over-current with 0x0A0D (R476). -/
def actCoilOpen (t i : Nat) (d : Dev) : Dev :=
  let d := d.enter t 7
  let x := d.step.at i
  let ended (f : Option Nat) : Bool := match f with
    | some since => since + msq 10 ≤ d.clk.now
    | none => false
  if d.has .step i ∧ x.on ∧ (ended x.fullA ∨ ended x.fullB) then d.stepTrip i 0x0A0D else d

/-- COIL_OPEN (R476). -/
def execCoilOpen (t : Nat) (st : Fin 16) (s : State) : Host.Outcome State Fault Refusal :=
  .next { s with dev := actCoilOpen t st.val s.dev }

/-- HOLD_CURRENT_DELAY: the microstep has not changed for HOLD_DELAY_MS, so the current moves to IHOLD (R480). -/
def actHoldCurrentDelay (t i : Nat) (d : Dev) : Dev :=
  let d := d.enter t 7
  let x := d.step.at i
  let wait := d.cfgN .step i .HOLD_DELAY_MS
  if !d.has .step i ∨ !x.on ∨ x.held.isSome ∨ x.stallHold ∨ wait = 0 ∨ d.stepPos i ≠ x.lastStep
      ∨ d.clk.now < x.stepAt + msq wait then d
  else (d.updStep i (fun x => { x with held := some d.clk.now })).bump (uid cSTEP i) .HOLD_ENTRIES 1

/-- HOLD_CURRENT_DELAY (R480). -/
def execHoldCurrentDelay (t : Nat) (st : Fin 16) (s : State) : Host.Outcome State Fault Refusal :=
  .next { s with dev := actHoldCurrentDelay t st.val s.dev }

/-- STEP_ZERO_CAPTURE: STALL_MS after the energisation the present count is the measured zero (R481). -/
def actStepZeroCapture (t i : Nat) (d : Dev) : Dev :=
  let d := d.enter t 7
  let x := d.step.at i
  if d.has .step i ∧ x.on ∧ x.count0.isNone ∧ x.onAt + msq (d.cfgN .step i .STALL_MS) ≤ d.clk.now then
    d.updStep i (fun x => { x with count0 := some (d.stepCount i) })
  else d

/-- STEP_ZERO_CAPTURE (R481). -/
def execStepZeroCapture (t : Nat) (st : Fin 16) (s : State) : Host.Outcome State Fault Refusal :=
  .next { s with dev := actStepZeroCapture t st.val s.dev }

/-- STOP of a stall: currents go to 0 at the next period boundary, outputs safe, FAULT (R483). -/
def Dev.stallStop (i : Nat) (d : Dev) : Dev :=
  (d.updStep i (fun x => { x with on := false, safe := true, offAt := d.chopBoundary i })).report (uid cSTEP i) 0x0A08
    (some .fault)

/-- STALL: a deviation beyond STALL_W has held for STALL_MS; the response of STALL_ACTION (R483). A unit that a trip or a
command put in its safe state keeps that state, and one in a stop the commanded state, with the stall counted (R484). -/
def actStall (t i : Nat) (d : Dev) : Dev :=
  let d := d.enter t 7
  let u := uid cSTEP i
  let ended : Bool := match (d.step.at i).devAt with
    | some since => since + msq (d.cfgN .step i .STALL_MS) ≤ d.clk.now
    | none => false
  if !d.has .step i ∨ !ended then d
  else
    let d := (d.bump u .STALLS 1).updStep i (fun x => { x with devAt := none })
    let act := d.cfgN .step i .STALL_ACTION
    if !(d.step.at i).on ∨ d.eng.st ≠ .engaged ∨ act = 0 then d.report u 0x0A08
    else if act = 1 then
      let d := { d with prof := d.prof.upd u (fun p => { p with v := 0, tgt := p.p, brake := false }) }
      (d.updStep i (fun x => { x with stallHold := true, held := none })).report u 0x0A08 (some .hold)
    else d.stallStop i

/-- STALL (R483). -/
def execStall (t : Nat) (st : Fin 16) (s : State) : Host.Outcome State Fault Refusal :=
  .next { s with dev := actStall t st.val s.dev }

/-- The acknowledgement of a stall HOLD: p takes the measured position, count_0 is renewed, targets are taken again
(R483). -/
def Dev.stallRelease (i : Nat) (d : Dev) : Dev :=
  if !(d.step.at i).stallHold then d
  else
    let u := uid cSTEP i
    let p := one32 * d.countSteps i (d.stepCount i - (d.step.at i).count0.getD 0)
    let d := { d with prof := d.prof.upd u (fun x => { x with p := p, tgt := p, v := 0 }) }
    let d := d.updStep i (fun x => { x with stallHold := false, count0 := some (d.newZero i) })
    if d.ust u == .hold then d.setSt u .run else d

/-- The source of a profile's target (R487): the raw target; `none` keeps the target, with a report where the flag is
set (R490). -/
def Dev.profRaw (d : Dev) (u : Nat) : Option Int × Bool :=
  let k := d.cfgU .profile u .TGT_SRC
  let i := (d.cfgU .profile u .TGT_IDX).toNat
  let raw (x : Int) : Int := sat64 (d.cfgU .profile u .TGT_OFFSET + shrR (d.cfgU .profile u .TGT_SCALE * x) 16)
  if k = 0 then (some (raw 0), false)
  else if k = 1 then ((d.loopSrc i).map raw, true)
  else if k = 2 then ((d.ainSrc i).map raw, true)
  else if (d.stn.at i).width = 0 then (none, false)
  else (some (raw ((d.stn.at i).width : Nat)), false)

/-- A profile changed. -/
def Dev.updProf (u : Nat) (f : Prof → Prof) (d : Dev) : Dev := { d with prof := d.prof.upd u f }

/-- A new target in effect; one behind the axis or inside its stopping distance is counted (R489). -/
def Dev.profTarget (u : Nat) (tgt : Int) (d : Dev) : Dev :=
  let x := d.prof.at u
  let dd := one32 * tgt - x.p
  let dec := d.cfgU .profile u .DEC
  let behind : Bool := dd * x.v < 0
  let near : Bool := x.v != 0 && absI dd * 2 * dec * one32 < x.v * x.v
  let d := d.updProf u (fun p => { p with tgt := one32 * tgt, brake := behind || near })
  if x.brake then d
  else if behind then (d.bump u .PROFILE_REVERSALS 1).report u 0x0A06
  else if near then (d.bump u .OVERSHOOTS 1).report u 0x0A07
  else d

/-- The target of a tick: sampled, clamped with 0x0A05, and compared with the dead band (R487, R490). -/
def Dev.profSample (u : Nat) (d : Dev) : Dev :=
  match d.profRaw u with
  | (none, true) =>
    if (d.prof.at u).held then d else (d.updProf u (fun p => { p with held := true })).report u 0x0A0B
  | (none, false) => d
  | (some raw, _) =>
    let c := clampI (d.cfgU .profile u .POS_MIN) (d.cfgU .profile u .POS_MAX) raw
    let was := (d.prof.at u).clamped
    let d := d.updProf u (fun p => { p with held := false, clamped := c != raw })
    let d := if c ≠ raw ∧ !was then (d.bump u .CLAMPS 1).report u 0x0A05 else d
    let gap := absI (one32 * c - (d.prof.at u).tgt)
    if gap = 0 ∨ gap < one32 * d.cfgU .profile u .TGT_DEADBAND then d else d.profTarget u c

/-- One tick of the pseudocode of R488; `acc` and `dec` are the changes of v in a tick. The flag says that a move has
ended. -/
def Prof.tick (acc dec decS vmax : Int) (x : Prof) : Prof × Bool :=
  let d := x.tgt - x.p
  let v :=
    if x.v ≠ 0 ∧ (sgnI x.v ≠ sgnI d ∨ absI d * 2 * decS * one32 ≤ x.v * x.v) then x.v - sgnI x.v * min (absI x.v) dec
    else if d ≠ 0 then clampI (-vmax) vmax (x.v + sgnI d * acc)
    else x.v
  let p := x.p + rdiv v 100000
  let moving : Bool := x.v != 0 || d != 0
  if absI (x.tgt - p) ≤ one32 ∧ absI v ≤ dec then ({ x with p := x.tgt, v := 0, brake := false }, moving)
  else ({ x with p := p, v := v, brake := x.brake && v != 0 }, false)

/-- A tick that only brakes, for the run-down of R104. -/
def Prof.brakeTick (dec : Int) (x : Prof) : Prof :=
  let v := x.v - sgnI x.v * min (absI x.v) dec
  { x with p := x.p + rdiv v 100000, v := v }

/-- The profile of a unit advances by one tick (R488); after step 2 of R104 it brakes to v = 0. -/
def Dev.profAdvance (u : Nat) (d : Dev) : Dev :=
  let per (f : F) : Int := rdiv (d.cfgU .profile u f * one32) 100000
  if d.eng.rundownAt.isSome then d.updProf u (Prof.brakeTick (per .DEC))
  else
    let r := (d.prof.at u).tick (per .ACC) (per .DEC) (d.cfgU .profile u .DEC) (d.cfgU .profile u .VMAX * one32)
    let d := d.updProf u (fun _ => r.1)
    if r.2 then d.bump u .MOVES_DONE 1 else d

/-- A unit has a profile that runs: a stepper or an axis in POSITION mode, energised, with no run-down of R463. -/
def Dev.profRuns (d : Dev) (u : Nat) : Bool :=
  let i := uindex u
  if uclass u = cSTEP then d.has .step i && (d.step.at i).on && !(d.step.at i).stallHold
  else
    uclass u == cAXIS && d.has .axis i && d.cfgN .axis i .MODE == 2 && (d.axis.at i).on && !(d.axis.at i).rampFault
      && (d.axis.at i).alignAt.isNone

/-- The 10 us tick of device time that contains the present (R486). -/
def Dev.profSlot (d : Dev) : Nat := d.qns / 40000

/-- PROFILE_TICK: every 10 us a profile samples its target and advances (R486 to R490). -/
def actProfileTick (t u : Nat) (d : Dev) : Dev :=
  let d := d.enter t 7
  if !d.profRuns u ∨ (d.prof.at u).slot = some d.profSlot then d
  else
    let d := d.updProf u (fun p => { p with slot := some d.profSlot })
    let d := if d.eng.rundownAt.isSome then d else d.profSample u
    d.profAdvance u

/-- PROFILE_TICK (R488). -/
def execProfileTick (t : Nat) (unit : Half) (s : State) : Host.Outcome State Fault Refusal :=
  .next { s with dev := actProfileTick t unit.toNat s.dev }

/-- The conversion of an input is scheduled for the present PWM or chopper period and ends more than 200 ns after its instant:
another one on the same converter was in its way (R438, R473, R498, log entry 122). -/
def Dev.lateConversion (d : Dev) (i : Nat) : Bool :=
  (upTo 24).any (fun a => d.has .axis a
      && (d.cfgN .axis a .SHUNT_U_AIN == i || d.cfgN .axis a .SHUNT_V_AIN == i || d.cfgN .axis a .SHUNT_W_AIN == i)
      && d.pwmBoundary a + usq 1 / 5 < d.qns + 10 * d.pwmT a)
    || (upTo 16).any (fun k => d.has .step k && (d.cfgN .step k .SENSE_A_AIN == i || d.cfgN .step k .SENSE_B_AIN == i)
      && d.chopBoundary k + usq 1 / 5 < d.qns + 10 * d.cfgN .step k .CHOP_HALF)

/-- What the drives and lamps that sense on an input make of its conversion: the over-current comparisons, the bus voltage, and
the sample of a diagnostic pulse (R440, R463, R475, R526, R528). -/
def Dev.sensed (i : Nat) (d : Dev) : Dev :=
  let v := d.ainNow i
  let axes (f : Dev → Nat → Dev) (on : Nat → Bool) (d : Dev) : Dev := ((upTo 24).filter (fun a => d.has .axis a && on a)).foldl f d
  let d := axes (fun d a => if d.beyondOc a v then d.overCurrent a else d)
    (fun a => d.cfgN .axis a .SHUNT_U_AIN == i || d.cfgN .axis a .SHUNT_V_AIN == i || d.cfgN .axis a .SHUNT_W_AIN == i) d
  let d := axes (fun d a => d.watchAxis a (fun d => d.busWatch a)) (fun a => d.cfgN .axis a .VBUS_AIN == i) d
  let d := ((upTo 16).filter (fun k => d.has .step k && (d.cfgN .step k .SENSE_A_AIN == i || d.cfgN .step k .SENSE_B_AIN == i))).foldl
    (fun d k => d.stepOver k v) d
  ((upTo 16).filter (fun k => d.has .lamp k && d.cfgN .lamp k .SENSE_AIN == i)).foldl
    (fun d k => (d.lampTake k v).lampOver k v) d

/-- ADC_CONVERSION: a conversion of an enabled input, compensated (R549), filtered and scaled (R499), checked (R500, R501), and
compared where a drive or lamp senses on it; a scheduled one that came late is counted with 0x0B14 (R498). -/
def actAdcConversion (t i raw : Nat) (scheduled : Bool) (d : Dev) : Dev :=
  let d := d.enter t 7
  if !d.has .ain i then d
  else
    let code := d.compensated raw
    let d := { d with ain := d.ain.upd i (fun x =>
      { x with raw := code, xf := x.xf + shrR (code - x.xf) (d.cfgN .ain i .FILT) }) }
    let d := (d.bump (uid cAIN i) .CONVERSIONS 1).reportIf (scheduled && d.lateConversion i) (uid cAIN i) 0x0B14
    ((d.ainRange i code).ainLimits i).sensed i

/-- ADC_CONVERSION (R497). -/
def execAdcConversion (t : Nat) (ain : Fin 160) (raw : BitVec 12) (scheduled : Bool) (s : State) :
    Host.Outcome State Fault Refusal := .next { s with dev := actAdcConversion t ain.val raw.toNat scheduled s.dev }

/-- A stepper at engagement: energised at p = 0 (R100, R481). -/
def Dev.stepEngage (i : Nat) (d : Dev) : Dev :=
  let d := d.updStep i (fun _ =>
    { on := true, safe := false, irun := 10 * d.cfg .step i .IRUN, stepAt := d.clk.now, onAt := d.clk.now })
  { d with prof := d.prof.set (uid cSTEP i) { on := true } }

end Sys2Proof.Machine
end

