-- ==== Sys2Proof/Machine/Time.lean ====
section
/-! DEFINITION. Network time (R553 to R560): the discipline of the time counter, IEEE 1588, PPS and ToD, and the four-stamp
exchange with the fabric parent. An offset is device time less the time of the source, in 2^-16 ns. -/

namespace Sys2Proof.Machine

/-- A rate of `ppb` in units of ADJ, 2^-32 ns in 4 ns (R553). -/
def adjOfPpb (ppb : Int) : Int := ppb * 17179869184 / 1000000000

/-- ADJ may take these values now (R553, R554): while the device is engaged, near the disciplined rate and near the last
value. -/
def Dev.adjRange (d : Dev) : Int × Int :=
  let c := d.clk
  if d.eng.st = .engaged ∨ d.eng.st = .disengaging then
    let slew := adjOfPpb (d.cfg .time 0 .SLEW_PPB)
    let step := ((c.now - c.adjAt : Nat) : Int) * 17179869184 / (1000000000 * 4000000)
    (max (-3435973) (max (c.adjBase - slew) (c.adj - step)), min 3435973 (min (c.adjBase + slew) (c.adj + step)))
  else (-3435973, 3435973)

/-- ADJ is set from an offset: the manual bounds ADJ and does not give the servo's law, so the value is open (log entry
11). -/
def Dev.setAdj (d : Dev) : Dev :=
  let r := d.adjRange
  let v := if r.1 ≤ r.2 then r.1 + ((d.freeVal : Int) % (r.2 - r.1 + 1)) else d.clk.adj
  let d := d.freeNext
  { d with clk := { d.clk with adj := v, adjAt := d.clk.now } }

/-- The counter may be stepped in this state (R554). -/
def Dev.mayStep (d : Dev) : Bool := d.eng.st == .idle || d.eng.st == .waitTime || d.eng.st == .refused

/-- An offset to the source in force is removed by a step or through ADJ (R554, R564). -/
def Dev.discipline (o : Int) (d : Dev) : Dev :=
  let far : Bool := 65536000 < absI o
  let engaged : Bool := d.eng.st == .engaged
  let d := d.setCtr uNODE .TIME_OFFSET o
  let d := d.reportIf (engaged && far && !d.clk.far) uNODE 0x0211
  let d := { d with clk := { d.clk with offset := o, far := far && engaged, got := true } }
  if d.mayStep && 65536 * d.cfg .time 0 .STEP_NS < absI o then
    (({ d with clk := { d.clk with tai := ((d.clk.tai : Int) - 4294967296 * o).toNat } }).bump uNODE .TIME_STEPS 1).report
      uNODE 0x0210
  else d.setAdj

/-- Whether a node is settled (R560); a running crown is the origin of fabric time. -/
def Dev.timeSettled (d : Dev) : Bool := d.fab.running || d.clk.settled

/-- A held engage request runs its gauntlet from the instant at which time is settled (R98). -/
def Dev.timeGauntlet (d : Dev) : Dev :=
  if d.eng.st = .waitTime ∧ d.timeSettled then
    { d with eng := { d.eng with st := .gauntlet, gauntletAt := d.clk.now } }
  else d

/-- The settled state after an exchange (R560); a request held for it goes on to the gauntlet (R98). -/
def Dev.settleStep (o : Int) (parent : Bool) (d : Dev) : Dev :=
  let c := d.clk
  let good := if absI o ≤ 131072 then c.good + 1 else 0
  let bad := if 262144 < absI o then c.bad + 1 else 0
  let gain : Bool := !c.settled && 8 ≤ good && parent
  let lose : Bool := c.settled && 2 ≤ bad
  let d := { d with clk := { c with good := good, bad := bad, settled := (c.settled || gain) && !lose } }
  let d := if gain then d.timeGauntlet else d
  (d.reportIf gain uNODE 0x020E).reportIf lose uNODE 0x020F

/-- XASON_TIME: a REQUEST is answered with its arrival and the answer's departure; an ANSWER from the parent gives the
offset (R559, R560, R602). -/
def actXasonTime (t p : Nat) (f : FabricTimeFrame) (d : Dev) : Dev :=
  let d := d.enter t 6
  if !(d.fab.ports.at p).up then d
  else
    let d := d.accept p (.time f)
    match f with
    | .request id _ =>
      let q := BitVec.ofNat 64 d.qns
      d.xport p (.time (.answer id q q d.timeSettled))
    | .answer id t2 t3 settled =>
      match d.clk.exch with
      | none => d
      | some (i, t1) =>
        if i ≠ id.toNat ∨ d.fab.parent ≠ some p then d
        else
          let t4 := d.qns
          let twice : Int := ((t4 : Int) - t1) - ((t3.toNat : Int) - t2.toNat)
          let o := 256 * ((t2.toNat : Int) - t1) - 128 * twice - rdiv (128 * d.cfg .xport p .ASYM_PS) 250
          let d := { d with clk := { d.clk with exch := none } }
          (d.discipline (-64 * o)).settleStep (64 * o) settled

/-- XASON_TIME (R559). -/
def execXasonTime (t : Nat) (port : Fin 5) (f : FabricTimeFrame) (s : State) : Host.Outcome State Fault Refusal :=
  .next { s with dev := actXasonTime t port.val f s.dev }

/-- The next exchange with the parent is due: FAB_PERIOD_MS after the latest (R559). -/
def Dev.exchDue (d : Dev) : Bool :=
  match d.clk.exchAt with
  | some a => a + msq (d.cfgN .time 0 .FAB_PERIOD_MS) ≤ d.clk.now
  | none => true

/-- FABRIC_TIME_EXCHANGE: every FAB_PERIOD_MS a node that is not the crown sends a TIME request to its parent (R559). -/
def actFabricTimeExchange (t : Nat) (d : Dev) : Dev :=
  let d := d.enter t 7
  match d.fab.parent with
  | none => d
  | some p =>
    if d.fab.running ∨ !d.exchDue then d
    else
      let id := d.clk.timeId
      let d := { d with clk := { d.clk with timeId := nextSeq id, exch := some (id, d.qns), exchAt := some d.clk.now } }
      d.xport p (.time (.request (BitVec.ofNat 32 id) (BitVec.ofNat 64 d.qns)))

/-- FABRIC_TIME_EXCHANGE (R559). -/
def execFabricTimeExchange (t : Nat) (s : State) : Host.Outcome State Fault Refusal :=
  .next { s with dev := actFabricTimeExchange t s.dev }

/-- The clock identity that IEEE 1588 makes of a MAC-48: FF FE between its halves (R556; PRESUMED, log entry 93). -/
def clockIdentity (mac : Nat) : Nat := mac / 16777216 * 1099511627776 + 0xFFFE * 16777216 + mac % 16777216

/-- The rank of a clock in the best master comparison, the lowest the best: PRIORITY1, clockClass, PRIORITY2, then the
clock identity, as clause 9.3 takes them (R556). -/
def ptpRank (p1 cls p2 id : Nat) : Nat := ((p1 * 256 + cls) * 256 + p2) * 18446744073709551616 + id

/-- The device's own rank (R556). -/
def Dev.ownRank (d : Dev) : Nat :=
  ptpRank (d.cfgN .time 0 .PRIORITY1) d.clk.clockClass (d.cfgN .time 0 .PRIORITY2) (clockIdentity Config.macAddr.toNat)

/-- The crown of its fabric, from its election on (R88, R555). -/
def Dev.isCrown (d : Dev) : Bool := d.fab.crown == some d.node

/-- The rank of a message's sender (R556). -/
def masterRank (m : PtpMessage) : Nat :=
  ptpRank m.priority1.toNat m.clockClass.toNat m.priority2.toNat m.master.toNat

/-- ANNOUNCE_TIMEOUT announce intervals, in qns: an interval is 2^LOG_ANNOUNCE seconds (R558, R563). -/
def Dev.announceWait (d : Dev) : Nat :=
  let k := d.cfg .time 0 .LOG_ANNOUNCE
  let sec := 4000000000 * d.cfgN .time 0 .ANNOUNCE_TIMEOUT
  if 0 ≤ k then sec * 2 ^ k.toNat else sec / 2 ^ (-k).toNat

/-- No Sync has been accepted for ANNOUNCE_TIMEOUT announce intervals (R558). -/
def Dev.syncOver (d : Dev) : Bool :=
  match d.clk.syncAt with
  | some a => a + d.announceWait ≤ d.clk.now
  | none => true

/-- The port takes a message: its domain, transport, delay mechanism and Sync interval are those it serves (R556). -/
def Dev.servesPtp (d : Dev) (m : PtpMessage) : Bool :=
  m.domain.toNat == d.cfgN .time 0 .PTP_DOMAIN && m.ieee8023 == d.cfgB .time 0 .TRANSPORT
    && m.peerDelay == d.cfgB .time 0 .DELAY_MECH && decide (-7 ≤ m.logSync ∧ m.logSync ≤ 4)

/-- The sender is the best master so far: the one followed, one that ranks before it, or any while none is heard (R556). -/
def Dev.bestMaster (d : Dev) (m : PtpMessage) : Bool :=
  d.clk.master.isNone || d.clk.master == some m.master || masterRank m < d.clk.masterRank || d.syncOver

/-- A message is followed by a crown: with TIME_SRC 1 that of the best master, with TIME_SRC 2 also where the device loses
the best master comparison to it (R555, R556). -/
def Dev.followsPtp (d : Dev) (m : PtpMessage) : Bool :=
  d.isCrown && d.servesPtp m && d.bestMaster m
    && (d.cfgN .time 0 .TIME_SRC == 1 || (d.cfgN .time 0 .TIME_SRC == 2 && masterRank m < d.ownRank))

/-- PTP_SYNC: an accepted message disciplines the crown (R556, R558). -/
def actPtpSync (t : Nat) (m : PtpMessage) (d : Dev) : Dev :=
  let d := d.enter t 7
  if !d.followsPtp m then d
  else
    let changed : Bool := d.clk.master.isSome && d.clk.master != some m.master
    let d := (d.bump uNODE .SYNC_RX 1).setCtr uNODE .UTC_OFFSET (sx 16 m.utcOffset.toNat)
    let d := { d with clk := { d.clk with master := some m.master, masterRank := masterRank m, syncAt := some d.clk.now } }
    (d.reportIf changed uNODE 0x020C).discipline m.offset

/-- PTP_SYNC (R556). -/
def execPtpSync (t : Nat) (m : PtpMessage) (s : State) : Host.Outcome State Fault Refusal :=
  .next { s with dev := actPtpSync t m s.dev }

/-- PTP_ANNOUNCE_TIMEOUT: a slave without Sync keeps its last ADJ, with 0x020D (R558). -/
def actPtpAnnounceTimeout (t : Nat) (d : Dev) : Dev :=
  let d := d.enter t 7
  if d.isCrown ∧ (d.cfgN .time 0 .TIME_SRC = 1 ∨ d.clk.master.isSome) ∧ d.syncOver then d.report uNODE 0x020D else d

/-- PTP_ANNOUNCE_TIMEOUT (R558). -/
def execPtpAnnounceTimeout (t : Nat) (s : State) : Host.Outcome State Fault Refusal :=
  .next { s with dev := actPtpAnnounceTimeout t s.dev }

/-- A grandmaster: a crown with TIME_SRC 2 (R555, R557). -/
def Dev.grandmaster (d : Dev) : Bool := d.isCrown && d.cfgN .time 0 .TIME_SRC == 2

/-- PPS_EDGE: with a ToD frame that came 100 ms to 900 ms before, the counter is disciplined to the edge less
PPS_DELAY_NS (R557); PPS_POL names the edge of the pulse that counts (R563). -/
def actPpsEdge (t : Nat) (rising : Bool) (d : Dev) : Dev :=
  let d := d.enter t 6
  if !d.grandmaster ∨ !d.bankUp .ethernetTime ∨ rising = d.cfgB .time 0 .PPS_POL then d
  else
    match d.clk.tod with
    | none => d
    | some (sec, at_) =>
      let d := { d with clk := { d.clk with tod := none } }
      if d.clk.now < at_ + msq 100 ∨ at_ + msq 900 < d.clk.now then d.report uNODE 0x0213
      else
        let d := { d with clk := { d.clk with ppsAt := some d.clk.now, clockClass := 6 } }
        d.discipline (16384 * ((d.qns : Int) - 4 * d.cfg .time 0 .PPS_DELAY_NS - 4000000000 * (sec : Int)))

/-- PPS_EDGE (R557). -/
def execPpsEdge (x : PpsIn) (s : State) : Host.Outcome State Fault Refusal :=
  .next { s with dev := actPpsEdge x.t x.rising s.dev }

/-- The TAI seconds of a ToD frame, if it is well formed: "VVTD", 48 bits of seconds, two reserved bytes, and the CRC-32C
of the first 12 bytes, most significant byte first (R557). -/
def todSeconds (f : TodFrame) : Option Nat :=
  if f.bytes.length = 16 ∧ beNat (f.bytes.take 4) = 0x56565444
      ∧ beNat (f.bytes.drop 12) = (crc32c (f.bytes.take 12)).toNat then
    some (beNat ((f.bytes.drop 4).take 6))
  else none

/-- TOD_FRAME: the TAI seconds of the next PPS edge, or 0x0213, also for a frame before it that no edge followed (R557). -/
def actTodFrame (t : Nat) (f : TodFrame) (d : Dev) : Dev :=
  let d := d.enter t 7
  if !d.grandmaster ∨ !d.bankUp .ethernetTime then d
  else
    match todSeconds f with
    | none => d.report uNODE 0x0213
    | some s =>
      let d := d.reportIf d.clk.tod.isSome uNODE 0x0213
      { d with clk := { d.clk with tod := some (s, d.clk.now) } }

/-- TOD_FRAME (R557). -/
def execTodFrame (t : Nat) (f : TodFrame) (s : State) : Host.Outcome State Fault Refusal :=
  .next { s with dev := actTodFrame t f s.dev }

/-- PPS_LOST: PPS or ToD missing for 3 s gives holdover with clockClass 7 and 0x0212 (R557). -/
def actPpsLost (t : Nat) (d : Dev) : Dev :=
  let d := d.enter t 7
  let ended : Bool := match d.clk.ppsAt with
    | some a => a + msq 3000 ≤ d.clk.now
    | none => true
  if d.grandmaster ∧ d.clk.clockClass = 6 ∧ ended then
    ({ d with clk := { d.clk with clockClass := 7, ppsAt := none, tod := none } }).report uNODE 0x0212
  else d

/-- PPS_LOST (R557). -/
def execPpsLost (t : Nat) (s : State) : Host.Outcome State Fault Refusal := .next { s with dev := actPpsLost t s.dev }

end Sys2Proof.Machine
end

