-- ==== Sys2Proof/Machine/Lease.lean ====
section
/-! DEFINITION. What twins and referees say to one another (R636 to R640), the request of a swap (R654, R655), and the start
and the loss of a resynchronisation (R649, R650, R657). -/

namespace Sys2Proof.Machine

/-- KIND of a LEASE message (R640). -/
abbrev lHEARTBEAT : Nat := 0
abbrev lRENEW : Nat := 1
abbrev lGRANT : Nat := 2
abbrev lGRANT_REFUSED : Nat := 3
abbrev lREJOIN_REQ : Nat := 4
abbrev lREJOIN_OK : Nat := 5
abbrev lCLAIM : Nat := 6
abbrev lCLAIM_OK : Nat := 7
abbrev lSWAP_REQ : Nat := 8
abbrev lSWAP_REFUSED : Nat := 9

/-- The pair's lower twin. -/
def Dev.pairLo (d : Dev) : Nat := min d.node d.partner

/-- The lining port is UP. -/
def Dev.lpUp (d : Dev) : Bool := (d.fab.ports.at 4).up

/-- The serving referee of a twin, as it knows it. -/
def Dev.servingRef (d : Dev) : Option Nat := d.refs[d.twin.refRank]?

/-- The LEASE message a twin sends. -/
def Dev.twinLease (d : Dev) (expires : Nat) : LeaseMsg :=
  { src := BitVec.ofNat 16 d.node, role := BitVec.ofNat 2 d.twin.role.code, rank := BitVec.ofNat 2 d.twin.refRank
    pairLo := BitVec.ofNat 16 d.pairLo, epoch := BitVec.ofNat 32 d.twin.epoch, expires := BitVec.ofNat 64 expires
    stamp := BitVec.ofNat 64 d.qns }

/-- A message to a referee goes over the fabric, and over the lining port where the fabric cannot carry it (R639). -/
def Dev.toRef (ref : Nat) (b : XBody) (d : Dev) : Dev :=
  if (d.fab.portTo ref).isSome then d.xsend ref b else if d.lpUp then d.xport 4 b else d

/-- A LEASE message to the serving referee. REQ is 1 on HEARTBEAT, REJOIN_REQ and CLAIM (R640). -/
def Dev.leaseToRef (kind expires : Nat) (d : Dev) : Dev :=
  match d.servingRef with
  | none => d
  | some r =>
    d.toRef r (.lease kind (kind == lHEARTBEAT || kind == lREJOIN_REQ || kind == lCLAIM) (d.twin.role == .active)
      (d.twinLease expires))

/-- The active twin can ask for a swap as far as it knows itself (R655): a referee serves, and no swap is pending. -/
def Dev.swapPossible (d : Dev) : Bool :=
  d.isTwin && d.twin.role == .active && !d.twin.refLost && d.servingRef.isSome && d.twin.swap.isNone

/-- The active twin sends SWAP_REQ (R654). -/
def Dev.requestSwap (slot : Option Nat) (d : Dev) : Dev :=
  ({ d with twin := { d.twin with swap := some slot } }).leaseToRef lSWAP_REQ d.partner

/-- PAIR with the identity of this twin (R93, R602). -/
def Dev.sendPair (req : Bool) (d : Dev) : Dev :=
  d.xport 4 (.pair
    { req := req, node := BitVec.ofNat 16 d.node, epoch := BitVec.ofNat 32 d.twin.epoch
      liningCompat := BitVec.ofNat 32 (d.hdr 351 320), pairCrc := BitVec.ofNat 32 (d.hdr 383 352), serial := Config.serial })

/-- A resynchronisation starts: PAIR with REQ 1 (R650 step 1). -/
def Dev.resync (d : Dev) : Dev :=
  let d := { d with twin := { d.twin with
    snapped := false, linSeq := none, sentSince := [], noz := [], unlinedAt := d.clk.now
    resyncAt := if d.lpUp then some d.clk.now else none } }
  if d.lpUp then d.sendPair true else d

/-- A standby is no longer current: STANDBY_UNLINED with 0x1006, outputs safe, and a new resynchronisation where LP lets
it (R634, R649, R650). -/
def Dev.unline (d : Dev) : Dev :=
  let was := d.twin.role == .lined
  let d := if was then ({ d with twin := { d.twin with role := .unlined } }.outputsSafe).report uNODE 0x1006 else d
  d.resync

/-- The active runs without an eligible standby: 0x1012 (R657). -/
def Dev.solo (d : Dev) : Dev :=
  let was := d.twin.partnerLined
  let d := { d with twin := { d.twin with serving := false, partnerLined := false, unlinedAt := d.clk.now } }
  if was then d.report uNODE 0x1012 else d

/-- The lining port is DOWN (R396, R649, R657): a standby is unlined, the active runs solo, and what the partner said of
its lanes is no longer known. -/
def Dev.liningDown (d : Dev) : Dev :=
  let d := { d with
    twin := { d.twin with met := false, partnerReq := false, outcomes := [], myOutcomes := [] }
    lane := d.lane.map (fun (x : Nat × Lane) => (x.1, { x.2 with partnerUp := false, viaPartner := false })) }
  if d.twin.role == .active then d.solo
  else if d.twin.role == .lined || d.twin.snapped then d.unline
  else d

end Sys2Proof.Machine
end

