-- ==== Sys2Proof/Machine/Thermal.lean ====
section
/-! DEFINITION. The junction temperature: thresholds, orderly stop, critical temperature, sensor faults and the check with
the neighbours (R566 to R580); the retained scratch word (R589). -/

namespace Sys2Proof.Machine

/-- NODE enters STOPPING with the reason of an orderly stop, which joins a DISENGAGE, abandons a gauntlet, and otherwise
stops the engaged device (R569, R570, R572). A device that is not engaged is at the end of the stop at once. -/
def Dev.beginOrderly (code : Nat) (d : Dev) : Dev :=
  let d := d.report uNODE code (if d.ust uNODE = .fault ∨ d.ust uNODE = .fenced then none else some .stopping)
  match d.eng.st with
  | .engaged => ({ d with temp := { d.temp with orderly := true } }).beginStop code
  | .disengaging => { d with temp := { d.temp with orderly := true } }
  | .waitTime | .gauntlet => (d.abandon).rest uNODE .idle
  | .idle | .refused => d.rest uNODE .idle

/-- No valid temperature: the TEMP unit is in FAULT (R577, R580). -/
def Dev.tempBlind (d : Dev) : Bool := d.temp.hard || d.temp.failed || d.temp.slope.isNone

/-- The last station of a page: the greatest STN_OFFSET, then the higher index (log entry 15). -/
def Dev.lastStn (d : Dev) (p : Page) : Nat :=
  (stnsOf p.mask).foldl
    (fun a n => if d.cfg .stnPlace n .STN_OFFSET < d.cfg .stnPlace a .STN_OFFSET then a else n)
    ((stnsOf p.mask).headD 0)

/-- A page in MARKING continues (R569, R577): t_crit > t_remain + t_brim, and with no valid temperature t_remain + t_brim
within BLIND_FINISH_MS. `rate` is the station's line rate as (lines, seconds). -/
def pageContinues (blind : Bool) (slope temp lines : Int) (blindMs : Int) (rate : Int × Int) : Bool :=
  if blind then 0 < rate.1 && lines * rate.2 * 1000 ≤ blindMs * rate.1
  else slope ≤ 0 || (0 < rate.1 && lines * rate.2 * slope < 10 * (1250 - temp) * rate.1)

/-- The test of R569 on a page. -/
def Dev.thermalContinues (d : Dev) (p : Page) : Bool :=
  let n := d.lastStn p
  let lines : Int := ((p.lines - (p.stn.at n).done + d.cfgN .stnPlace n .BRIM_MIN_LINES : Nat) : Int)
  pageContinues d.tempBlind (d.temp.slope.getD 0) d.temp.now lines (d.cfg .thermal 0 .BLIND_FINISH_MS) (d.lineRateNow n)

/-- Each page in MARKING is tested; one that fails is aborted with 0x0E15 (R569, R154). -/
def Dev.thermalTests (d : Dev) : Dev :=
  if !d.temp.orderly then d
  else
    (d.jobs.pages.filter (fun p => p.state == .marking && p.abortAt.isNone && !d.thermalContinues p)).foldl
      (fun d p => (d.abort p).report uNODE 0x0E15) d

/-- The orderly stop begins, and the first tests run with it. -/
def Dev.orderlyStop (code : Nat) (d : Dev) : Dev := (d.beginOrderly code).thermalTests

/-- What the device does at T_stop, and on a sensor fault (R569, R573, R577, R580): an active twin whose standby is lined
asks for a swap first. -/
def Dev.thermalStop (code : Nat) (d : Dev) : Dev :=
  if d.swapPossible ∧ d.twin.partnerLined ∧ d.temp.swapAt.isNone then
    (({ d with temp := { d.temp with swapAt := some (d.clk.now, code) } }).requestSwap none).report uTEMP 0x0C0E
  else if d.temp.swapAt.isSome ∨ d.temp.orderly then d
  else d.orderlyStop code

/-- The state of R574 at the instant of T_crit: outputs safe, lanes silent, pages aborted, every unit in FAULT with
0x0C03, READY and FAULT_N low, cause 3 recorded. The engagement passes through DISENGAGING to IDLE (R103). Pages that
wait end as in an orderly stop, with 0x0C03, for which the spec gives neither state nor code (DESIGN CHOICE, log entry
48). -/
def Dev.critical (d : Dev) : Dev :=
  let d := (d.outputsSafe).abortAll
  let d := d.abandon
  let d := d.stopAtOnce 0x0C03
  let d := { d with
    temp := { d.temp with critAt := some d.clk.now }
    boot := { d.boot with stage := .critical, cause := if d.boot.vstby then 3 else d.boot.cause }
    pins := { d.pins with ready := false, faultLow := true } }
  (d.unitsOn.filter (fun u => uclass u != cDOMAIN || d.ust u != .off)).foldl (fun d u => d.report u 0x0C03 (if d.ust u = UState.fenced then none else some .fault)) d

/-- The device leaves the T_crit state below 105.0 degrees C with its NODE acknowledged: SPINE powers the domains again
(R576), in boot recovery those of R585. It is no release of R80: the flash keeps its mode and no header is read again (log
entry 104). -/
def Dev.leaveCritical (d : Dev) : Dev :=
  if d.boot.stage ≠ .critical ∨ 1050 ≤ d.temp.now ∨ (d.us uNODE).unacked then d
  else
    let d := { d with temp := { d.temp with critAt := none } }
    if !d.boot.loaded then
      [88, 127, 109].foldl (fun d k => d.domUp k) { d with boot := { d.boot with stage := .recovery } }
    else
      let d := { d with
        boot := { d.boot with stage := .stepping, stepped := false, stepOnce := false }
        pins := { d.pins with faultLow := false } }
      { d with boot := { d.boot with domQueue := d.domPlan } }

/-- The valid reading of a conversion: one inside the accurate span (R566). -/
def diodeValid : DiodeResult → Option Int
  | .reading x => if -550 ≤ x ∧ x ≤ 1500 then some x else none
  | .open => none
  | .short => none
  | .failed => none

/-- s in 0.01 degrees C per second from readings newest first (R568): the latest 8, less the 8 that end 100 ms earlier. -/
def slopeOf (now : Nat) (past : List (Nat × Int)) : Option Int :=
  let sum (xs : List (Nat × Int)) : Int := xs.foldl (fun a x => a + x.2) 0
  let old := (past.dropWhile (fun x => now < x.1 + msq 100 - usq 50)).take 8
  if past.length < 8 ∨ old.length < 8 then none else some (rdiv (25 * (sum (past.take 8) - sum old)) 2)

/-- The reading has moved by less than 0.2 degrees C over 1 s in which a domain switched or a station entered or left
MARKING (R578). -/
def Dev.tempStuck (d : Dev) : Bool :=
  let now := d.clk.now
  let young := d.temp.past.filter (fun x => now ≤ x.1 + msq 1000)
  let hi := young.foldl (fun a x => max a x.2) d.temp.now
  let lo := young.foldl (fun a x => min a x.2) d.temp.now
  msq 1000 ≤ now && now < d.temp.switchAt + msq 1000 && hi - lo < 2
    && d.temp.past.any (fun x => x.1 + msq 1000 ≤ now)

/-- The thermal neighbours of the THERMAL record with their expected excess in 0.1 degrees C (R579, R592). -/
def Dev.neighbours (d : Dev) : List (Nat × Int) :=
  ([(F.NB0_NODE, F.NB0_OFS), (.NB1_NODE, .NB1_OFS), (.NB2_NODE, .NB2_OFS), (.NB3_NODE, .NB3_OFS)].take
    (d.cfgN .thermal 0 .NB_COUNT)).map (fun x => (d.nodeNamed (d.cfgN .thermal 0 x.1), 5 * d.cfg .thermal 0 x.2))

/-- The check of R579 begins: every neighbour is queried. -/
def Dev.askNeighbours (d : Dev) : Dev :=
  let d := { d with temp := { d.temp with query := some d.clk.now, answers := [], recheckAt := none } }
  d.neighbours.foldl (fun d x => d.xsend x.1 .thermalQ) d

/-- The check fails, or there is no neighbour: TEMP in FAULT with 0x0C07, and the device stops (R580). -/
def Dev.unconfirmed (d : Dev) : Dev :=
  let d := { d with temp := { d.temp with confirmed := false, query := none, recheckAt := none } }
  let d := d.bump uTEMP .NB_CHECKS_FAILED 1
  if d.temp.failed then d
  else (({ d with temp := { d.temp with failed := true } }).report uTEMP 0x0C07 (some .fault)).thermalStop 0x0C07

/-- A soft anomaly begins (R578, R579, R580). -/
def Dev.softAnomaly (d : Dev) : Dev :=
  let d := { d with temp := { d.temp with soft := true, confirmed := false, normalAt := none } }
  let d := (d.bump uTEMP .SOFT_ANOMALIES 1).report uTEMP 0x0C05
  if d.cfgN .thermal 0 .NB_COUNT == 0 then d.unconfirmed else d.askNeighbours

/-- TEMP leaves FAULT for RUN: a hard fault after 1 s of valid readings, that of R580 once the anomaly has resolved, each
acknowledged (R577, R580). -/
def Dev.tempLeave (d : Dev) : Dev :=
  if (d.us uTEMP).unacked ∨ d.boot.stage = .critical then d
  else
    let now := d.clk.now
    let good : Bool := match d.temp.validAt with | some a => a + msq 1000 ≤ now | none => false
    let d := if d.temp.hard ∧ good then { d with temp := { d.temp with hard := false } } else d
    let d := if d.temp.failed ∧ !d.temp.soft then { d with temp := { d.temp with failed := false } } else d
    if d.ust uTEMP = .fault ∧ !d.temp.hard ∧ !d.temp.failed then d.setSt uTEMP .run else d

/-- A hard sensor fault: TEMP in FAULT with 0x0C04, no valid slope, and the device stops (R577). -/
def Dev.hardFault (d : Dev) : Dev :=
  if d.temp.hard then d
  else
    (({ d with temp := { d.temp with hard := true, slope := none, past := [], validAt := none } }).report uTEMP 0x0C04
      (some .fault)).thermalStop 0x0C04

/-- The thresholds on a valid reading (R567): T_warn, T_stop and T_crit. -/
def Dev.thresholds (x : Int) (d : Dev) : Dev :=
  let d :=
    if 1050 ≤ x ∧ !d.temp.warned then
      (({ d with temp := { d.temp with warned := true } }).bump uTEMP .WARN_EVENTS 1).report uTEMP 0x0C01
    else if x < 1040 ∧ d.temp.warned then
      ({ d with temp := { d.temp with warned := false } }).report uTEMP 0x0C0D
    else d
  let cross : Bool := 1150 ≤ x && !d.temp.stopped
  let d := { d with temp := { d.temp with stopped := 1150 ≤ x } }
  let d := if cross then (d.bump uTEMP .STOP_EVENTS 1).thermalStop 0x0C02 else d
  if 1250 ≤ x && d.boot.stage != .critical then (d.bump uTEMP .CRIT_EVENTS 1).critical else d

/-- The anomalies of R578 on a valid reading after the previous one, if any. -/
def Dev.anomalies (prev : Option Int) (d : Dev) : Dev :=
  let jump : Bool := match prev with | some y => decide (20 < absI (d.temp.now - y)) | none => false
  if jump ∨ d.tempStuck then
    if d.temp.soft then { d with temp := { d.temp with normalAt := none } } else d.softAnomaly
  else if !d.temp.soft then d
  else
    match d.temp.normalAt with
    | none => { d with temp := { d.temp with normalAt := some d.clk.now } }
    | some a =>
      if a + msq 1000 ≤ d.clk.now then
        { d with temp := { d.temp with
            soft := false, confirmed := false, query := none, recheckAt := none, normalAt := none } }
      else d

/-- A valid reading (R566 to R569, R578). -/
def Dev.tempReading (x : Int) (d : Dev) : Dev :=
  let now := d.clk.now
  let prev := if d.temp.fails = 0 then (d.temp.past.head?).map (·.2) else none
  let past := (now, x) :: d.temp.past.takeWhile (fun y => now ≤ y.1 + msq 1100)
  let d := { d with temp := { d.temp with
      now := x, past := past, fails := 0, validAt := some (d.temp.validAt.getD now)
      slope := if d.temp.hard then none else slopeOf now past } }
  let d := match d.ctr.get? (ctrKey uTEMP .TEMP_PEAK) with
    | some v => if v.toInt < x then d.setCtr uTEMP .TEMP_PEAK x else d
    | none => d.setCtr uTEMP .TEMP_PEAK x
  (d.anomalies prev).thresholds x

/-- DIODE_CONVERSION: from the release on, every 100 us, a reading or a failed conversion (R566, R577). -/
def actDiodeConversion (t : Nat) (r : DiodeResult) (d : Dev) : Dev :=
  let rank := match diodeValid r with | some x => if 1250 ≤ x then 3 else if 1150 ≤ x then 5 else 7 | none => 5
  let d := d.enter t rank
  if d.boot.stage = .unpowered then d
  else
    let d :=
      match diodeValid r with
      | some x => d.tempReading x
      | none =>
        let d := { d with temp := { d.temp with fails := d.temp.fails + 1, validAt := none } }
        if r = DiodeResult.failed ∧ d.temp.fails < 3 then d else d.hardFault
    (d.tempLeave).leaveCritical

/-- DIODE_CONVERSION (R566). -/
def execDiodeConversion (t : Nat) (r : DiodeResult) (s : State) : Host.Outcome State Fault Refusal :=
  .next { s with dev := actDiodeConversion t r s.dev }

/-- THERMAL_PAGE_TEST: every 100 us of an orderly stop each page in MARKING is tested (R569, R577). -/
def actThermalPageTest (t : Nat) (d : Dev) : Dev := (d.enter t 4).thermalTests

/-- THERMAL_PAGE_TEST (R569). -/
def execThermalPageTest (t : Nat) (s : State) : Host.Outcome State Fault Refusal :=
  .next { s with dev := actThermalPageTest t s.dev }

/-- The domains T_crit leaves on (R574). -/
def critKept : List Nat := [109, 111, 112, 113, 114, 116, 117, 126]

/-- A domain goes off with the state of its lanes and place PLLs. -/
def Dev.domOff (k : Nat) (d : Dev) : Dev :=
  let us := d.unitsIn k
  let d := d.domDown k
  { d with
    lane := us.foldl (fun t u => if uclass u = cLANE then t.del (uindex u) else t) d.lane
    pll := us.foldl (fun t u => if uclass u = cPLL then t.del (uindex u) else t) d.pll
    fab := { d.fab with ports := us.foldl (fun t u => if uclass u = cXPORT then t.del (uindex u) else t) d.fab.ports } }

/-- SENSOR of an answer (R601): 0 valid, 1 FAULT, 2 anomaly. -/
def Dev.sensor (d : Dev) : Nat := if d.ust uTEMP = .fault then 1 else if d.temp.soft then 2 else 0

/-- THERMAL_Q: a neighbour's query is answered (R579, R600). -/
def actThermalQ (t node : Nat) (d : Dev) : Dev :=
  let d := (d.enter t 7).acceptFrom node .thermalQ
  if !d.boot.loaded then d else d.xsend node (.thermalA d.temp.now d.sensor)

/-- THERMAL_Q (R579). -/
def execThermalQ (t : Nat) (node : Half) (s : State) : Host.Outcome State Fault Refusal :=
  .next { s with dev := actThermalQ t node.toNat s.dev }

/-- THERMAL_A: a neighbour's answer within 5 ms (R579). -/
def actThermalA (t node : Nat) (temp : Int) (sensor : Nat) (d : Dev) : Dev :=
  let d := (d.enter t 7).acceptFrom node (.thermalA temp sensor)
  match d.temp.query with
  | none => d
  | some a =>
    if a + msq 5 < d.clk.now ∨ !d.neighbours.any (·.1 == node) then d
    else { d with temp := { d.temp with answers := (node, temp, sensor) :: d.temp.answers.filter (·.1 ≠ node) } }

/-- THERMAL_A (R579). -/
def execThermalA (t : Nat) (node temp : Half) (sensor : BitVec 2) (s : State) : Host.Outcome State Fault Refusal :=
  .next { s with dev := actThermalA t node.toNat temp.toInt sensor.toNat s.dev }

/-- The check passes: at least one valid answer, and every valid one within 8.0 degrees C (R579). -/
def Dev.checkPasses (d : Dev) : Bool :=
  let valid := d.temp.answers.filter (fun a => a.2.2 == 0)
  valid != [] && valid.all (fun a =>
    d.neighbours.all (fun x => x.1 != a.1 || absI (d.temp.now - (a.2.1 - x.2)) ≤ 80))

/-- THERMAL_QUERY_TIMEOUT: 5 ms after a query its answers are judged; a pass is flagged with 0x0C06 and repeated every
100 ms (R579, R580). -/
def actThermalQueryTimeout (t : Nat) (d : Dev) : Dev :=
  let d := d.enter t 5
  match d.temp.query with
  | none => d
  | some a =>
    if d.clk.now < a + msq 5 ∨ !d.temp.soft then d
    else if d.checkPasses then
      ({ d with temp := { d.temp with
          confirmed := true, query := none, answers := [], recheckAt := some (a + msq 100) } }).report uTEMP 0x0C06
    else d.unconfirmed

/-- THERMAL_QUERY_TIMEOUT (R579). -/
def execThermalQueryTimeout (t : Nat) (s : State) : Host.Outcome State Fault Refusal :=
  .next { s with dev := actThermalQueryTimeout t s.dev }

/-- THERMAL_RECHECK: the check is repeated while the anomaly lasts (R580). -/
def actThermalRecheck (t : Nat) (d : Dev) : Dev :=
  let d := d.enter t 7
  match d.temp.recheckAt with
  | none => d
  | some a => if a ≤ d.clk.now ∧ d.temp.soft then d.askNeighbours else d

/-- THERMAL_RECHECK (R580). -/
def execThermalRecheck (t : Nat) (s : State) : Host.Outcome State Fault Refusal :=
  .next { s with dev := actThermalRecheck t s.dev }

/-- A thermal swap has been refused or has not ended: the orderly stop follows (R573). -/
def Dev.thermalSwapFails (d : Dev) : Dev :=
  match d.temp.swapAt with
  | none => d
  | some (_, code) =>
    let d := { d with temp := { d.temp with swapAt := none } }
    if d.twin.role == .active then d.orderlyStop code else d

/-- THERMAL_SWAP_TIMEOUT: the swap has not ended within 50 ms (R573). -/
def actThermalSwapTimeout (t : Nat) (d : Dev) : Dev :=
  let d := d.enter t 5
  match d.temp.swapAt with
  | none => d
  | some (a, _) => if d.clk.now < a + msq 50 then d else d.thermalSwapFails

/-- THERMAL_SWAP_TIMEOUT (R573). -/
def execThermalSwapTimeout (t : Nat) (s : State) : Host.Outcome State Fault Refusal :=
  .next { s with dev := actThermalSwapTimeout t s.dev }

/-- SCRATCH_WRITE: at every whole second while READY is asserted, the low 32 bits of TAI seconds and the calibration
generation are retained (R589). -/
def actScratchWrite (t : Nat) (d : Dev) : Dev :=
  let d := d.enter t 7
  if !d.pins.ready ∨ !d.boot.vstby then d
  else
    let sec := d.stamp / 1000000000
    { d with boot := { d.boot with
        scratch := BitVec.ofNat 64 (put 32 (sec % 2 ^ 32) + d.cal.gen % 2 ^ 32) } }

/-- SCRATCH_WRITE (R589). -/
def execScratchWrite (t : Nat) (s : State) : Host.Outcome State Fault Refusal :=
  .next { s with dev := actScratchWrite t s.dev }

end Sys2Proof.Machine
end

