-- ==== Sys2Proof/Machine/Fabric.lean ====
section
/-! DEFINITION. The Xason fabric: ports, crown, tree and routes (R88 to R92, R595 to R608), credits and their audit (R609 to
R611), mittens (R612 to R614), audits (R622, R623), and READY (R94). -/

namespace Sys2Proof.Machine

/-- The own HELLO on a port (R601). -/
def Dev.myHello (d : Dev) (p : Nat) : XasonHello :=
  { node := BitVec.ofNat 16 d.node
    depth := BitVec.ofNat 8 d.fab.depth
    prio := BitVec.ofNat 8 (match d.fab.best with | some b => b.2.1 | none => d.cfgN .fabric 0 .CROWN_PRIO)
    crown := BitVec.ofNat 16 (d.fab.crown.getD 0xFFFF)
    serial := Config.serial
    crownSerial := BitVec.ofNat 64 (match d.fab.best with | some b => b.2.2 | none => 0)
    port := BitVec.ofNat 8 p }

/-- HELLO leaves on every UP port of the fabric. -/
def Dev.helloAll (d : Dev) : Dev :=
  ((upTo 4).filter (fun p => (d.fab.ports.at p).up)).foldl (fun d p => d.xport p (.hello (d.myHello p))) d

/-- A candidacy better than another: the lower priority, then the lower serial number (R88). -/
def better (a b : Nat × Nat × Nat) : Bool := a.2.1 < b.2.1 || (a.2.1 == b.2.1 && a.2.2 < b.2.2)

/-- The CANDIDACY message of the best candidacy seen. -/
def Dev.candidacyMsg (d : Dev) : Option CandidacyMsg :=
  d.fab.best.map (fun b =>
    { node := BitVec.ofNat 16 b.1, prio := BitVec.ofNat 8 b.2.1, serial := BitVec.ofNat 64 b.2.2, running := d.fab.bestRun })

/-- A candidacy is weighed against the best one seen; that of a running crown stands against one that does not run (R88,
R90). A running crown that meets a better running one steps down with 0x0F08 (R607). -/
def Dev.weigh (c : Nat × Nat × Nat) (run : Bool) (d : Dev) : Dev :=
  let takes := match d.fab.best with
    | none => true
    | some b => if d.fab.bestRun == run then better c b else run
  if !takes then d
  else
    let down := d.fab.running && c.1 != d.node
    let d := { d with fab := { d.fab with
        best := some c, bestRun := run, running := if down then false else d.fab.running } }
    d.reportIf down uNODE 0x0F08

/-- The node's own candidacy; priority 255 is never a candidate (R88, R625). -/
def Dev.ownCandidacy (d : Dev) : Dev :=
  let p := d.cfgN .fabric 0 .CROWN_PRIO
  if p = 255 then d else d.weigh (d.node, p, Config.serial.toNat) d.fab.running

/-- The node makes itself crown of a fabric of one with 0x1107 (R89, R603). -/
def Dev.crownSelf (d : Dev) : Dev :=
  ({ d with
      fab := { d.fab with
        best := some (d.node, d.cfgN .fabric 0 .CROWN_PRIO, Config.serial.toNat), crown := some d.node, depth := 0
        parent := none, lostAt := none }
      clk := { d.clk with got := true } }).report uNODE 0x1107

/-- The port toward the smallest depth among `ps`, the lower index at a tie (R603, R605). -/
def Dev.nearest (d : Dev) (ps : List Nat) : Option Nat :=
  let depth (p : Nat) : Nat := match (d.fab.ports.at p).peer with | some h => h.depth.toNat | none => 255
  (ps.filter (fun p => depth p != 255)).foldl
    (fun a p => match a with | none => some p | some q => if depth p < depth q then some p else some q) none

/-- The ids of a node and of the nodes beneath it, as ranges (R602, R604). -/
def Dev.myRanges (d : Dev) : List (Nat × Nat) :=
  (d.node, d.node) :: ((upTo 4).filter (fun p => d.fab.parent != some p)).flatMap (fun p => (d.fab.ports.at p).subtree)

/-- ROUTE leaves on a port with ranges that join or leave the own subtree, at most 22 a frame (R602). -/
def Dev.routeOn (p : Nat) (withdraw : Bool) : Nat → List (Nat × Nat) → Dev → Dev
  | 0, _, d => d
  | _, [], d => d
  | fuel + 1, rs, d =>
    let m : RouteMsg :=
      { src := BitVec.ofNat 16 d.node, withdraw := withdraw, routeSeq := BitVec.ofNat 32 d.fab.routeSeq
        ranges := (rs.take 22).map (fun r => (BitVec.ofNat 16 r.1, BitVec.ofNat 16 r.2)) }
    Dev.routeOn p withdraw fuel (rs.drop 22)
      (({ d with fab := { d.fab with routeSeq := nextSeq d.fab.routeSeq } }).xport p (.route m))

/-- ROUTE leaves toward the parent, where there is one (R604); a node that is out of routing sends none (R91). -/
def Dev.routeUp (withdraw : Bool) (rs : List (Nat × Nat)) (d : Dev) : Dev :=
  match if d.fab.dup then none else d.fab.parent with
  | some p => d.routeOn p withdraw (rs.length + 1) rs
  | none => d

/-- Frames that waited for a route leave (R605). -/
def Dev.releaseHeld (d : Dev) : Dev :=
  let q := d.fab.held
  q.foldl (fun d x => d.xsend x.1 x.2) { d with fab := { d.fab with held := [] } }

/-- The mittens above a unit of this node, nearest first, at most 8 (R32, R602). -/
def Dev.above (d : Dev) (u : Nat) : List Nat :=
  match d.fab.fingers.get? u with
  | some (m, _, anc) => (m :: anc).take 8
  | none => []

/-- What a mitten's fingers learn of the mittens above it (R602). -/
def Dev.ancestors (d : Dev) (m : Nat) : List Nat := if d.homed m then (d.above (m % 65536)).take 7 else []

/-- The mittens this node is home of (R613): of its own address, and the pair's mitten on the active twin. -/
def Dev.homes (d : Dev) : List Nat :=
  ((d.boot.image.recs.filter (fun x => x.typ == RT.mitten.code && x.enable && d.homed x.addr)).map (·.addr))

/-- The local fingers of the mittens of this node learn what stands above them; 8 rounds reach every level. -/
def Dev.joinLocal (d : Dev) : Dev :=
  (upTo 8).foldl
    (fun d _ =>
      d.homes.foldl
        (fun d m =>
          let anc := d.ancestors m
          ((d.fingersOf m).zipIdx.filter (fun f => f.1 / 65536 == d.node || d.homed f.1)).foldl
            (fun d f =>
              { d with fab := { d.fab with fingers := d.fab.fingers.set (f.1 % 65536) (m, f.2, anc) } }) d) d) d

/-- MITTEN_JOIN of a mitten to every other node that holds a finger, the whole finger list in frames of 14 (R602,
"Mittens"). -/
def Dev.joinSend (m : Nat) (d : Dev) : Dev :=
  let fs := d.fingersOf m
  let anc := d.ancestors m
  let frames := ceilDiv fs.length 14
  ((fs.map (· / 65536)).eraseDups.filter (· ≠ d.node)).foldl
    (fun d node =>
      (upTo frames).foldl
        (fun d i =>
          d.xsend node (.mittenJoin
            { mitten := BitVec.ofNat 32 m, first := BitVec.ofNat 12 (14 * i), ancestors := anc.map (BitVec.ofNat 32)
              last := i + 1 == frames, fingers := ((fs.drop (14 * i)).take 14).map (BitVec.ofNat 32) })) d) d

/-- The node's own mittens aggregate once it follows a crown (R88). -/
def Dev.aggregate (d : Dev) : Dev :=
  if d.fab.joined then d
  else
    let d := ({ d with fab := { d.fab with joined := true, joinedAt := d.clk.now } }).joinLocal
    d.homes.foldl (fun d m => d.joinSend m) d

/-- The twin that becomes active is home of the pair's mitten from then on, and tells its fingers (R613). -/
def Dev.joinTwin (d : Dev) : Dev :=
  if !d.fab.joined then d
  else
    let d := d.joinLocal
    (d.homes.filter (fun m => match d.mittenRec m with | some x => bit x.body 31 | none => false)).foldl
      (fun d m => d.joinSend m) d

/-- A finger's node is absent: the crown, which knows every node, has no route to it; or its status has not come within
CROWN_WAIT_MS of the aggregation (R612, log entry 97). -/
def Dev.absent (d : Dev) (f : Nat) : Bool :=
  f / 65536 != d.node && !d.homed f
    && ((d.fab.crown == some d.node && (d.fab.portTo (f / 65536)).isNone)
      || ((d.fab.remote.get? f).isNone && d.fab.joinedAt + msq (d.cfgN .startup 0 .CROWN_WAIT_MS) ≤ d.clk.now))

/-- A finger on an absent node is FENCED, with 0x0F0A (R612). -/
def Dev.absentFingers (d : Dev) : Dev :=
  d.homes.foldl
    (fun d m =>
      ((d.fingersOf m).filter d.absent).foldl
        (fun d f =>
          ({ d with
              fab := { d.fab with remote := d.fab.remote.set f (put 28 UState.fenced.code, d.host.order) } }).report
            (m % 65536) 0x0F0A none f) d) d

/-- The peer of a port is a way up: it is UP, the one its record names, tells of a route, and does not lie in the own
subtree (R603, R605, R624). -/
def Dev.wayUp (d : Dev) (p : Nat) : Bool :=
  let x := d.fab.ports.at p
  x.up && !x.mismatch
    && (match x.peer with
      | some h => h.depth != 0xFF && !d.myRanges.any (fun r => r.1 ≤ h.node.toNat && h.node.toNat ≤ r.2)
      | none => false)

/-- The port that leads to a crown: of ROLE 0 toward the smallest depth, or a cross link that R605 has made the parent
(R603, R605). -/
def Dev.parentPort (d : Dev) (c : Nat) : Option Nat :=
  let fit (p : Nat) : Bool :=
    d.wayUp p && (match (d.fab.ports.at p).peer with | some h => h.crown.toNat == c | none => false)
  match d.nearest ((upTo 4).filter (fun p => fit p && d.cfgN .xport p .ROLE == 0)) with
  | some p => some p
  | none => d.nearest ((upTo 4).filter (fun p => fit p && d.fab.parent == some p))

/-- The node takes a port as its parent's, one hop deeper than its peer; beyond DEPTH_MAX it stays out of the fabric with
0x0F05 and is its own crown (R603). -/
def Dev.follow (c p : Nat) (d : Dev) : Dev :=
  let depth := 1 + (match (d.fab.ports.at p).peer with | some h => h.depth.toNat | none => 0)
  if d.cfgN .fabric 0 .DEPTH_MAX < depth then
    (({ d with fab := { d.fab with tooDeep := true } }).report uNODE 0x0F05 (some .fault)).crownSelf
  else { d with fab := { d.fab with crown := some c, parent := some p, depth := depth, lostAt := none } }

/-- The node stands where the best candidacy puts it: at its root, under a parent, or without a route, from the loss of one
on (R603, R606). -/
def Dev.place1 (c : Nat) (d : Dev) : Dev :=
  if d.fab.tooDeep then d
  else if c = d.node then
    let k := { d.clk with got := true }
    { d with fab := { d.fab with crown := some c, parent := none, depth := 0, lostAt := none }, clk := k }
  else
    match d.parentPort c with
    | none =>
      { d with fab := { d.fab with
          crown := some c, parent := none, depth := 0xFF
          lostAt := if d.fab.parent.isSome then some (d.fab.lostAt.getD d.clk.now) else d.fab.lostAt } }
    | some p => d.follow c p

/-- The node follows the best candidacy: its crown, its parent and depth (R603). A change goes out in HELLO; the own
subtree leaves the old parent and joins the new one (R604). A node that was cut off reports its new crown with 0x0F08
(R606). -/
def Dev.elect (d : Dev) : Dev :=
  match if d.fab.dup then none else d.fab.best with
  | none => d
  | some (c, _, _) =>
    let was := d.fab
    let d := d.place1 c
    if (was.crown, was.parent, was.depth) = (d.fab.crown, d.fab.parent, d.fab.depth) then d
    else
      let d := d.reportIf (was.lostAt.isSome && was.crown.isSome && was.crown != d.fab.crown) uNODE 0x0F08
      let d := match was.parent with
        | some q => if d.fab.parent ≠ some q ∧ (d.fab.ports.at q).up then d.routeOn q true 4096 d.myRanges else d
        | none => d
      let d := d.helloAll
      let d := if d.fab.parent.isSome ∧ was.parent ≠ d.fab.parent then d.routeUp false d.myRanges else d
      if d.fab.crown = some d.node ∨ d.fab.parent.isSome then (d.releaseHeld).aggregate else d

/-- A neighbour tells of a crown. A node without a route, and one that hears it from its own parent, no longer holds what it
held: its route to that crown ran through there (R606, log entry 86). -/
def Dev.hear (p : Nat) (c : Nat × Nat × Nat) (run : Bool) (d : Dev) : Dev :=
  let stale := d.fab.best != some c && !d.fab.running && (d.fab.lostAt.isSome || d.fab.parent == some p)
  let d := if stale then ({ d with fab := { d.fab with best := none, bestRun := false } }).ownCandidacy else d
  d.weigh c run

/-- The CANDIDACY message of the node itself. -/
def Dev.myCandidacy (d : Dev) : CandidacyMsg :=
  { node := BitVec.ofNat 16 d.node, prio := BitVec.ofNat 8 (d.cfgN .fabric 0 .CROWN_PRIO), serial := Config.serial
    running := d.fab.running }

/-- XPORT_TRAINED: a port comes UP, on one lane with 0x0F02; HELLO, the best candidacy and the own one leave on it (R88,
R595, R601).
On LP a twin sends its identity (R93, R602). -/
def actXportTrained (t p : Nat) (one : Bool) (d : Dev) : Dev :=
  let d := d.enter t 7
  if !d.has .xport p ∨ (d.fab.ports.at p).up ∨ !(d.fab.ports.at p).training then d
  else
    let one := one || d.cfgB .xport p .LANES
    let d := d.updPort p (fun _ => { up := true, oneLane := one })
    let d := d.rest (uid cXPORT p) .run
    let d := d.reportIf one (uid cXPORT p) 0x0F02
    if p = 4 then
      if d.isTwin then
        d.xport 4 (.pair { req := false, node := BitVec.ofNat 16 d.node, epoch := BitVec.ofNat 32 d.twin.epoch,
                               liningCompat := BitVec.ofNat 32 (d.hdr 351 320), pairCrc := BitVec.ofNat 32 (d.hdr 383 352),
                               serial := Config.serial })
      else d
    else
      let d := d.ownCandidacy
      let d := d.xport p (.hello (d.myHello p))
      let d := match d.candidacyMsg with | some m => d.xport p (.candidacy m) | none => d
      let d := if d.cfgN .fabric 0 .CROWN_PRIO = 255 ∨ d.fab.best.map (·.1) = some d.node then d
        else d.xport p (.candidacy d.myCandidacy)
      d.elect

/-- XPORT_TRAINED (R595). -/
def execXportTrained (t : Nat) (port : Fin 5) (oneLane : Bool) (s : State) : Host.Outcome State Fault Refusal :=
  .next { s with dev := actXportTrained t port.val oneLane s.dev }

/-- A new parent after the loss of the old one: the UP port, cross links included, whose peer has the smallest depth and
does not lie in the own subtree (R605). Without one the node tells its peers that it has no route. -/
def Dev.reparent (d : Dev) : Dev :=
  let d := { d with fab := { d.fab with parent := none } }
  match if d.fab.dup then none else d.nearest ((upTo 4).filter d.wayUp) with
  | none => ({ d with fab := { d.fab with depth := 0xFF, lostAt := some d.clk.now } }).helloAll
  | some p =>
    let d := (d.follow (d.fab.crown.getD 0xFFFF) p).bump uNODE .REPARENTS 1
    (((d.report uNODE 0x0F07).routeUp false d.myRanges).helloAll).releaseHeld

/-- A port leaves UP and trains again. To the tree: a parent is replaced and queued frames are rerouted, a child's routes are
withdrawn (R604, R605). The loss of LP is the twins' own (R649, R657). -/
def Dev.portLost (p : Nat) (d : Dev) : Dev :=
  let x := d.fab.ports.at p
  let d := if x.up then d.bump (uid cXPORT p) .LINK_DOWNS 1 else d
  let waiting := (x.waitU ++ x.waitB).filter (fun f => f.1 ≠ 0xFFFF)
  let gone := x.subtree
  let d := d.updPort p (fun _ => { training := true })
  let d := d.emit (.trainPort p)
  let d := { d with fab := { d.fab with held := d.fab.held ++ waiting } }
  if p = 4 then (if x.up && d.isTwin then d.liningDown else d)
  else if d.fab.parent = some p then d.reparent
  else (d.routeUp true gone).releaseHeld

/-- XPORT_LINK_DOWN: a port leaves UP (R605, R626). -/
def actXportLinkDown (t p : Nat) (d : Dev) : Dev :=
  let d := d.enter t 7
  if !(d.fab.ports.at p).up then d else (d.rest (uid cXPORT p) .hold).portLost p

/-- XPORT_LINK_DOWN (R605). -/
def execXportLinkDown (t : Nat) (port : Fin 5) (s : State) : Host.Outcome State Fault Refusal :=
  .next { s with dev := actXportLinkDown t port.val s.dev }

/-- A node id heard from another device: both nodes go to FAULT with 0x1108 (R91). The node floods its own candidacy, so
that the other one learns of it too, withdraws its routes, and then takes no further part in routing (log entry 98). -/
def Dev.duplicate (p : Nat) (d : Dev) : Dev :=
  if d.fab.dup then d
  else
    let own := d.myCandidacy
    let d := (((d.xport p (.candidacy own)).flood (some p) (.candidacy own)).routeUp true d.myRanges).report uNODE 0x1108
      (some .fault) (d.addr uNODE)
    { d with fab := { d.fab with dup := true } }

/-- XASON_HELLO: the peer of a port (R88, R601, R624). A peer that differs from the XPORT record keeps the port out of the
fabric with 0x0F10. -/
def actXasonHello (t p : Nat) (f : XasonHello) (d : Dev) : Dev :=
  let d := d.enter t 7
  if !(d.fab.ports.at p).up then d
  else
    let d := d.accept p (.hello f)
    let node := d.cfgN .xport p .PEER_NODE
    let port := d.cfgN .xport p .PEER_PORT
    let bad := (node ≠ 0xFFFF && node != f.node.toNat) || (port ≠ 0xFF && port != f.port.toNat)
    let d := d.updPort p (fun x => { x with peer := some f, mismatch := bad })
    if bad then d.report (uid cXPORT p) 0x0F10 (some .fault)
    else if p = 4 then d
    else if f.node.toNat = d.node ∧ f.serial ≠ Config.serial then d.duplicate p
    else
      let run := d.fab.bestRun && d.fab.best.map (·.1) == some f.crown.toNat
      let d := if f.crown = 0xFFFF ∨ f.depth = 0xFF then d
        else d.hear p (f.crown.toNat, f.prio.toNat, f.crownSerial.toNat) run
      d.elect

/-- XASON_HELLO (R601). -/
def execXasonHello (t : Nat) (port : Fin 5) (f : XasonHello) (s : State) : Host.Outcome State Fault Refusal :=
  .next { s with dev := actXasonHello t port.val f s.dev }

/-- CANDIDACY: a flooded candidacy (R88, R604). Each goes on to the other ports once, so that a node id used twice is found
wherever its two nodes stand (R91), and a better one is adopted; a running crown answers a node that joins late with its own
(R90), and one that meets a better running crown steps down (R607). -/
def actCandidacy (t p : Nat) (m : CandidacyMsg) (d : Dev) : Dev :=
  let d := d.enter t 7
  if !(d.fab.ports.at p).up ∨ (d.fab.ports.at p).mismatch ∨ p = 4 then d
  else
    let d := (d.accept p (.candidacy m)).ownCandidacy
    if m.node.toNat = d.node ∧ m.serial ≠ Config.serial then d.duplicate p
    else
      let before := (d.fab.best, d.fab.bestRun)
      let d := d.hear p (m.node.toNat, m.prio.toNat, m.serial.toNat) m.running
      let his : Bool := d.fab.best.map (·.1) == some m.node.toNat
      let moved := decide (before ≠ (d.fab.best, d.fab.bestRun))
      let key := (m.node.toNat, m.serial.toNat)
      let new := m.node.toNat ≠ d.node && !d.fab.heard.contains key
      let d := if new then { d with fab := { d.fab with heard := key :: d.fab.heard } } else d
      let d := if new || (his && moved) then d.flood (some p) (.candidacy m) else d
      let d := if his then d
        else match d.candidacyMsg with
          | some own => if moved then d.flood none (.candidacy own) else d.xport p (.candidacy own)
          | none => d
      if moved then d.elect else d

/-- CANDIDACY (R88). -/
def execCandidacy (t : Nat) (port : Fin 5) (m : CandidacyMsg) (s : State) : Host.Outcome State Fault Refusal :=
  .next { s with dev := actCandidacy t port.val m s.dev }

/-- CROWN_WAIT_TIMEOUT: no trained Xason port after CROWN_WAIT_MS, from the end of the power steps; the node is its own
crown (R89, log entry 90). -/
def actCrownWaitTimeout (t : Nat) (d : Dev) : Dev :=
  let d := d.enter t 7
  if !d.boot.stepped ∨ d.clk.now < d.boot.stepAt + msq (d.cfgN .startup 0 .CROWN_WAIT_MS) ∨ d.fab.crown.isSome
      ∨ (upTo 4).any (fun p => (d.fab.ports.at p).up) then d
  else (d.crownSelf).aggregate

/-- CROWN_WAIT_TIMEOUT (R89). -/
def execCrownWaitTimeout (t : Nat) (s : State) : Host.Outcome State Fault Refusal :=
  .next { s with dev := actCrownWaitTimeout t s.dev }

/-- A ROUTE message of a child: its ranges join or leave the port's subtree, in the sender's order, and go on to the
parent (R602, R604). The own id beneath the own node is one used twice (R91). -/
def Dev.takeRoute (p : Nat) (m : RouteMsg) (d : Dev) : Dev :=
  let src := m.src.toNat
  if d.fab.parent = some p then d
  else
    match d.fab.routes.get? src with
    | some last => if m.routeSeq.toNat ≤ last ∧ last - m.routeSeq.toNat < 2147483648 then d else go src d
    | none => go src d
where
  /-- The ranges are applied. -/
  go (src : Nat) (d : Dev) : Dev :=
    let rs := m.ranges.map (fun r => (r.1.toNat, r.2.toNat))
    let d := if !m.withdraw && rs.any (fun r => r.1 ≤ d.node && d.node ≤ r.2) then d.duplicate p else d
    let d := { d with fab := { d.fab with routes := d.fab.routes.set src m.routeSeq.toNat } }
    let d := d.updPort p (fun x =>
      { x with subtree := if m.withdraw then x.subtree.filter (fun r => !rs.contains r)
          else x.subtree.filter (fun r => !rs.contains r) ++ rs })
    (d.routeUp m.withdraw rs).releaseHeld

/-- A routed frame passes on: to the child whose subtree holds its destination, else to the parent; at 24 hops it is
discarded with 0x0F04, and at the crown a frame for an unknown node with 0x0F06 (R598, R604, R605). -/
def Dev.transit (p : Nat) (h : RouteHeader) (d : Dev) : Dev :=
  if 24 ≤ h.hops.toNat then (d.bump uNODE .HOP_DISCARDS 1).report uNODE 0x0F04
  else
    let b := XBody.forward { h with hops := h.hops + 1 }
    if h.dst = 0xFFFF then d.flood (some p) b
    else if h.dst.toNat = d.node then d
    else if (d.fab.portTo h.dst.toNat).isNone ∧ d.fab.crown = some d.node then d.report uNODE 0x0F06
    else d.xsend h.dst.toNat b

/-- ROUTE: a ROUTE message from a child, or a routed frame on its way (R604). -/
def actRoute (t p : Nat) (f : RoutedFrame) (d : Dev) : Dev :=
  let d := d.enter t 7
  if !(d.fab.ports.at p).up ∨ (d.fab.ports.at p).mismatch ∨ d.fab.dup then d
  else
    match f with
    | .route m => (d.accept p (.route m)).takeRoute p m
    | .transit h => (d.accept p (.forward h)).transit p h

/-- ROUTE (R604). -/
def execRoute (t : Nat) (port : Fin 5) (f : RoutedFrame) (s : State) : Host.Outcome State Fault Refusal :=
  .next { s with dev := actRoute t port.val f s.dev }

/-- CREDIT: the peer's returns; waiting frames leave, urgent ones first (R599, R602, R609). Sends from before 2 us ahead of
its STAMP are of no more use to R610. -/
def actCredit (t p : Nat) (f : CreditFrame) (d : Dev) : Dev :=
  let d := d.enter t 7
  if !(d.fab.ports.at p).up then d
  else
    let d := (d.accept p (.credit f)).updPort p (fun x =>
      { x with credit := some f, recent := x.recent.filter (fun r => f.stamp.toNat ≤ r.1 + usq 2) })
    let x := d.fab.ports.at p
    let u := (d.updPort p (fun x => { x with waitU := [] })).portDrain p x.waitU
    let d := u.2.updPort p (fun x => { x with waitU := u.1, waitB := [] })
    let w := d.portDrain p x.waitB
    w.2.updPort p (fun x => { x with waitB := w.1 })

/-- CREDIT (R609). -/
def execCredit (t : Nat) (port : Fin 5) (f : CreditFrame) (s : State) : Host.Outcome State Fault Refusal :=
  .next { s with dev := actCredit t port.val f s.dev }

/-- An audit's result counts on NODE, and at the home of every mitten above the unit (R623, R626). -/
def Dev.auditResult (u code : Nat) (d : Dev) : Dev :=
  let count (v : Nat) (d : Dev) : Dev :=
    let d := d.bump v .AUDITS 1
    if code = 0 then d else d.bump v .AUDIT_FAULTS 1
  let d := count uNODE d
  (d.above u).foldl
    (fun d m => if d.homed m then count (m % 65536) d else d.xsend (m / 65536) (.audit (m % 65536) (d.addr u) code)) d

/-- The three conditions of R610 on one channel; SENT is that of the CREDIT's departure. -/
def creditOk (rx ret held sent : Nat) (recent : List (Nat × Nat)) (stamp : Nat) : Bool :=
  let m := 4294967296
  let sum (xs : List (Nat × Nat)) : Nat := xs.foldl (fun a x => a + x.2) 0
  let then_ := (sent + m - sum (recent.filter (fun r => stamp < r.1)) % m) % m
  let fly := sum (recent.filter (fun r => r.1 ≤ stamp && stamp ≤ r.1 + usq 2))
  (rx + m - ret) % m == held
    && (rx + m - ret) % m < 2147483648 && (then_ + m - rx) % m < 2147483648
    && (then_ + m - rx) % m ≤ fly

/-- The latest CREDIT of a port passes the audit (R610). -/
def Port.creditsOk (x : Port) : Bool :=
  match x.credit with
  | none => true
  | some c =>
    let of (b : Bool) : List (Nat × Nat) := (x.recent.filter (fun r => r.2.2 == b)).map (fun r => (r.1, r.2.1))
    creditOk c.urgRx.toNat c.urgRet.toNat c.urgHeld.toNat x.sentU (of false) c.stamp.toNat
      && creditOk c.bulkRx.toNat c.bulkRet.toNat c.bulkHeld.toNat x.sentB (of true) c.stamp.toNat

/-- The Xason credit audit of every port: a failure is a conservation fault with 0x0F09, and the port is retrained (R610,
R622). -/
def Dev.xcreditAudit (d : Dev) : Dev :=
  ((upTo 5).filter (fun p => (d.fab.ports.at p).up)).foldl
    (fun d p =>
      let u := uid cXPORT p
      if (d.fab.ports.at p).creditsOk then d.auditResult u 0
      else ((d.report u 0x0F09 (some .fault)).portLost p).auditResult u 0x0F09) d

/-- AUDIT_PERIOD: the audit point of a node with no enabled station, every AUDIT_PERIOD_MS (R611). -/
def actAuditPeriod (t : Nat) (d : Dev) : Dev :=
  let d := d.enter t 7
  let due : Bool := match d.fab.auditAt with
    | some a => a + msq (d.cfgN .fabric 0 .AUDIT_PERIOD_MS) ≤ d.clk.now
    | none => true
  if d.stations = [] ∧ d.boot.loaded ∧ due then ({ d with fab := { d.fab with auditAt := some d.clk.now } }).xcreditAudit
  else d

/-- AUDIT_PERIOD (R611). -/
def execAuditPeriod (t : Nat) (s : State) : Host.Outcome State Fault Refusal :=
  .next { s with dev := actAuditPeriod t s.dev }

/-- CROWN_LOST: no route to the crown for CROWN_LOST_MS; CANDIDACY is flooded, a new crown is elected among the nodes cut
off, with 0x0F08 (R606). A crown of an engaged device runs on with its own counter. -/
def actCrownLost (t : Nat) (d : Dev) : Dev :=
  let d := d.enter t 7
  match d.fab.lostAt with
  | none => d
  | some a =>
    if d.clk.now < a + msq (d.cfgN .fabric 0 .CROWN_LOST_MS) then d
    else
      let d := { d with fab := { d.fab with best := none, bestRun := false, crown := none, lostAt := none } }
      let d := (d.ownCandidacy).report uNODE 0x0F08
      let d := match d.candidacyMsg with | some m => d.flood none (.candidacy m) | none => d
      let d := d.elect
      if d.fab.crown == some d.node && d.pins.ready then
        { d with fab := { d.fab with running := true, bestRun := true } }
      else d

/-- CROWN_LOST (R606). -/
def execCrownLost (t : Nat) (s : State) : Host.Outcome State Fault Refusal :=
  .next { s with dev := actCrownLost t s.dev }

/-- STATUS: the status word of a finger on another node; the latest governs (R614). It changes the mittens of this node
above it. -/
def actStatus (t finger word : Nat) (d : Dev) : Dev :=
  let d := (d.enter t 7).acceptFrom (finger / 65536) (.status finger word)
  let above := d.homes.filter (fun m => (d.fingersOf m).contains finger)
  if above = [] then d
  else
    let d := { d with
      fab := { d.fab with remote := d.fab.remote.set finger (word, d.host.order) }
      host := { d.host with order := d.host.order + 1 } }
    above.foldl (fun d m => d.tellHome 8 m) d

/-- STATUS (R614). -/
def execStatus (t : Nat) (finger word : Word) (s : State) : Host.Outcome State Fault Refusal :=
  .next { s with dev := actStatus t finger.toNat word.toNat s.dev }

/-- MITTEN_JOIN: a mitten tells its fingers on this node what stands above them; a mitten among them passes it on
("Mittens"), and one of the pair whose home is the partner goes to it (R613). The present status of each finger follows, from
which the mitten aggregates (R88). -/
def actMittenJoin (t : Nat) (m : MittenJoinMsg) (d : Dev) : Dev :=
  let d := (d.enter t 7).acceptFrom (m.mitten.toNat / 65536) (.mittenJoin m)
  let anc := m.ancestors.map BitVec.toNat
  let mine := (m.fingers.map BitVec.toNat).zipIdx.filter (fun f => d.homed f.1 || (f.1 / 65536 == d.node && d.homeOf f.1 == d.node))
  let d := if (m.fingers.map BitVec.toNat).any (fun f => d.homeOf f != f / 65536 && d.homeOf f != d.node) then
      d.xsend d.partner (.mittenJoin m) else d
  let d := mine.foldl
    (fun d f =>
      { d with fab := { d.fab with
          fingers := d.fab.fingers.set (f.1 % 65536) (m.mitten.toNat, m.first.toNat + f.2, anc) } }) d
  let subs := (mine.map (·.1)).filter (fun a => uclass (a % 65536) == cMITTEN)
  let d := if subs = [] then d
    else
      let d := d.joinLocal
      (d.homes.filter (fun h => subs.any (fun a => h == a || (d.above (h % 65536)).contains a))).foldl
        (fun d h => d.joinSend h) d
  mine.foldl (fun d f => d.tellHome 8 f.1) d

/-- MITTEN_JOIN (R602). -/
def execMittenJoin (t : Nat) (m : MittenJoinMsg) (s : State) : Host.Outcome State Fault Refusal :=
  .next { s with dev := actMittenJoin t m s.dev }

/-- AUDIT: the result of an audit of a unit beneath a mitten of this node (R623). -/
def actAudit (t mitten unit reason : Nat) (d : Dev) : Dev :=
  let d := (d.enter t 7).acceptFrom (unit / 65536) (.audit (mitten % 65536) unit reason)
  if !d.homes.contains mitten then d
  else
    let u := mitten % 65536
    let d := d.bump u .AUDITS 1
    if reason = 0 then d else d.bump u .AUDIT_FAULTS 1

/-- AUDIT (R623). -/
def execAudit (t : Nat) (mitten unit : Word) (reason : Half) (s : State) : Host.Outcome State Fault Refusal :=
  .next { s with dev := actAudit t mitten.toNat unit.toNat reason.toNat s.dev }

/-- XASON_FRAME_DISCARD: a frame that breaks R371 is discarded and counted with 0x0F03 (R596); its blocks are received and
returned like any others (R385, R609). -/
def actXasonFrameDiscard (t p : Nat) (f : RawFrame) (d : Dev) : Dev :=
  let d := d.enter t 7
  let typ := bits f.sof.toNat 55 50
  if (d.fab.ports.at p).up ∧ (xFault f).isSome then
    ((d.bump (uid cXPORT p) .RX_DISCARDS 1).report (uid cXPORT p) 0x0F03).acceptBlocks p ([0x09, 0x20, 0x21].contains typ)
      (typ == 0x04) (f.data.length + 2)
  else d

/-- XASON_FRAME_DISCARD (R596). -/
def execXasonFrameDiscard (t : Nat) (x : PortFrame) (s : State) : Host.Outcome State Fault Refusal :=
  .next { s with dev := actXasonFrameDiscard t x.port.val x.frame s.dev }

/-- PAIRING_TIMEOUT: a twin whose partner is absent 5 ms after the power steps pairs alone with 0x110A (R93). -/
def actPairingTimeout (t : Nat) (d : Dev) : Dev :=
  let d := d.enter t 7
  if !d.isTwin ∨ !d.boot.stepped ∨ d.clk.now < d.boot.stepAt + msq 5 ∨ d.twin.paired ∨ d.twin.met then d
  else ({ d with twin := { d.twin with paired := true, alone := true } }).report uNODE 0x110A

/-- PAIRING_TIMEOUT (R93). -/
def execPairingTimeout (t : Nat) (s : State) : Host.Outcome State Fault Refusal :=
  .next { s with dev := actPairingTimeout t s.dev }

/-- The node's own mittens have aggregated (R88, R94): the status of every finger on another node has arrived, but for
those on absent nodes (log entry 97). -/
def Dev.mittensUp (d : Dev) : Bool :=
  d.homes.all (fun m => (d.fingersOf m).all (fun f =>
    f / 65536 == d.node || d.homed f || (d.fab.remote.get? f).isSome || d.absent f))

/-- The conditions of READY (R94). -/
def Dev.readyNow (d : Dev) : Bool :=
  d.boot.loaded && d.boot.stepped && d.boot.domQueue == [] && (d.boot.stage == .locking || d.boot.stage == .up)
    && (d.pll.at 0).locked && !(d.pll.at 0).hold && (d.pll.at 1).locked && !(d.pll.at 1).hold
    && (d.fab.crown == some d.node || (d.fab.crown.isSome && d.fab.parent.isSome))
    && d.fab.joined && d.mittensUp && d.clk.got && (!d.isTwin || d.twin.paired) && d.twin.role != .fenced

/-- READY is asserted (R94). A crown starts to run, which its candidacy tells the others from then on (R90), with TIME_SRC 0
from 0 s (R555); place PLLs without a moving
reference stay IDLE with 0x1106 (R86); clock outputs with START 0 start (R551). -/
def actReady (t : Nat) (d : Dev) : Dev :=
  let d := d.enter t 7
  if d.pins.ready ∨ !d.readyNow then d
  else
    let crown := d.fab.crown == some d.node
    let fresh := crown && !d.fab.running
    let d := { d with
      boot := { d.boot with stage := .up }
      pins := { d.pins with ready := true }
      fab := { d.fab with running := crown, bestRun := d.fab.bestRun || crown }
      clk := { d.clk with tai := if fresh && d.cfgN .time 0 .TIME_SRC == 0 then 0 else d.clk.tai } }
    let d := d.rest uNODE .idle
    let d := match if fresh then d.candidacyMsg else none with
      | some m => d.flood none (.candidacy m)
      | none => d
    let d := d.absentFingers
    let d := (d.stations.filter (fun n => d.ust (uid cPLL (n + 2)) == .idle && !(d.pll.at (n + 2)).ref)).foldl
      (fun d n => d.report (uid cPLL (n + 2)) 0x1106) d
    d.startClko

/-- READY (R94). -/
def execReady (t : Nat) (s : State) : Host.Outcome State Fault Refusal := .next { s with dev := actReady t s.dev }

end Sys2Proof.Machine
end

