-- ==== Sys2Proof/Machine/Visor.lean ====
section
/-! DEFINITION. The visor (R615 to R621, R681): the value of every counter at an instant, unit blocks with their variable
parts (R310, R521, R186), and the collection and writing of a visor. -/

namespace Sys2Proof.Machine

/-- The counters a unit's block holds, in block order (R681). -/
def Dev.ctrList (d : Dev) (u : Nat) : List Ctr :=
  if uclass u = cSTN then (if d.isJet (uindex u) then ctrJetStn else ctrScanStn)
  else if uclass u = cLANE then (if d.isJet (uindex u / 32) then ctrJetLane else ctrScanLane)
  else ctrOfClass (uclass u)

/-- Nozzles of a lane in a state of R291; one with ENABLE 0 is OUT (R291). -/
def Dev.nozIn (d : Dev) (l st : Nat) : Nat :=
  ((upTo (d.nozzles l)).filter (fun m =>
    (if nozEnabled (d.nozWord l m) then d.nozSt l m else 2) == st)).length

/-- Nanoseconds since a state began, where it lasts. -/
def Dev.since (d : Dev) (c : Bool) (a : Nat) : Nat := if c then (d.clk.now - a) / 4 else 0

/-- A counter of a STN unit (R241, R286, R317, R357). -/
def Dev.ctrStn (d : Dev) (n : Nat) (c : Ctr) : Int :=
  let own : Int := (d.ctrAt (uid cSTN n) c).toInt
  match c with
  | .LATTICE_POS => (d.stn.at n).lattice
  | .SPEED => rdiv ((d.speed n).1 * 67108864) (d.speed n).2
  | .GLIDE_G => (d.stn.at n).g
  | _ =>
    if d.isJet n && ctrJetStnSum.contains c then
      let xs := (d.lanesOf n).map (fun l => (d.ctrAt (uid cLANE l) c).toNat)
      ((if c == .ENERGY_PEAK then xs.foldl max 0 else xs.foldl (· + ·) 0 : Nat) : Int)
    else own

/-- A counter of the NODE unit (R426, R564, R591, R626, R660). -/
def Dev.ctrNode (d : Dev) (c : Ctr) : Int :=
  match c with
  | .CAL_GENERATION => (d.cal.gen : Nat)
  | .CAL_SLOT => (d.cal.slot : Nat)
  | .TIME_ADJ => d.clk.adj
  | .MAC_ADDR => (Config.macAddr.toNat : Nat)
  | .LAST_SHUTDOWN => (d.boot.cause.toNat : Nat)
  | .STBY_SCRATCH => (d.boot.scratch.toNat : Nat)
  | .DEPTH => (d.fab.depth : Nat)
  | .CROWN_NODE => (d.fab.crown.getD 0xFFFF : Nat)
  | .TWIN_ROLE => (d.twin.role.code : Nat)
  | .EPOCH => (d.twin.epoch : Nat)
  | .REFEREE_NODE => ((d.refs[d.twin.refRank]?).getD 0xFFFF : Nat)
  | .LINING_LAG => (d.twin.linLag : Nat)
  | _ => (d.ctrAt uNODE c).toInt

/-- A counter of a unit at the present instant, by class: a live value where the tables say "at the visor instant", else
what has been counted. PHASE_PEAK_PS depends on times no command brings: a free value (log entry 11). -/
def Dev.ctrView (d : Dev) (u : Nat) (c : Ctr) : Int :=
  let i := uindex u
  let own : Int := (d.ctrAt u c).toInt
  let k := uclass u
  if k = cNODE then d.ctrNode c
  else if k = cSTN then d.ctrStn i c
  else if k = cLANE then
    match c with
    | .NOZZLES_IN => (d.nozIn i 0 : Nat)
    | .NOZZLES_SUSPECT => (d.nozIn i 1 : Nat)
    | .NOZZLES_OUT => (d.nozIn i 2 : Nat)
    | _ => own
  else if k = cAXIS then
    match c with
    | .SPEED => (d.axis.at i).w
    | .POSITION => (d.enc.at (d.cfgN .axis i .ENC)).count
    | .IQ => (d.axis.at i).iq
    | .VBUS => (d.axis.at i).vbus
    | _ => own
  else if k = cSTEP then
    match c with
    | .POSITION => d.stepPos i
    | .MEASURED => d.countSteps i (d.stepCount i - ((d.step.at i).count0.getD 0))
    | _ => own
  else if k = cLOOP then
    match c with
    | .Y => (d.loop.at i).y
    | .R => rdiv (d.loop.at i).r 65536
    | .OUT => (d.loop.at i).out
    | .CHARGE_TOTAL => (d.loop.at i).total
    | .CHARGE_BRIM => (d.loop.at i).brim
    | _ => own
  else if k = cLAMP then
    match c with
    | .DUTY => ((d.lamp.at i).duty : Nat)
    | .ON_NS => ((d.lamp.at i).onTotal * 5 / 32 : Nat)
    | .CURRENT => ((d.lamp.at i).current : Nat)
    | _ => own
  else if k = cACT then (d.actDuty i : Nat)
  else if k = cPLL then
    match c with
    | .BAND => ((d.pll.at i).band.toNat : Nat)
    | .MULT_M => ((d.pll.at i).m : Nat)
    | .HOLD_NS => own + (d.since (d.pll.at i).hold (d.pll.at i).since : Nat)
    | .FOLLOW_NS => own + (d.since (d.pll.at i).follow (d.pll.at i).since : Nat)
    | .PHASE_PEAK_PS => (Config.freeValue (d.free + i) : Nat)
    | _ => own
  else if k = cENC then (if c == .COUNTS then (d.enc.at i).count else own)
  else if k = cAIN then (if c == .VALUE then d.ainScaled i else own)
  else if k = cDMA then
    (if c == .HOLD_NS then own + (d.since (d.plane.ch.at i).holdAt.isSome ((d.plane.ch.at i).holdAt.getD 0) : Nat) else own)
  else if k = cBANK then
    match c with
    | .BANDS_FREE => ((256 - d.cfgN .bank i .SYS_BANDS - d.bankUsed i : Nat) : Int)
    | _ => own
  else if k = cTEMP then
    match c with
    | .TEMP_NOW => d.temp.now
    | .SLOPE => d.temp.slope.getD 0
    | _ => own
  else if k = cDOMAIN then
    let m := d.dom.at i
    ((m.onTotal / 4 + d.since m.on m.since : Nat) : Int)
  else own

/-- A counter's 64-bit value in a block; the V_ counters of a scan station read 0 (R681). -/
def Dev.ctrWord (d : Dev) (u : Nat) (c : Ctr) : Nat :=
  let volumes : List Ctr := [.V_REQUESTED, .V_FIRED, .V_TRIMMED, .V_THINNED, .V_UNPLACEABLE, .V_BLANKED, .V_LOST_INPUT,
    .V_MOVED_OUT, .V_MOVED_IN, .V_DEFICIT, .V_EXCESS]
  if uclass u = cSTN ∧ d.isScan (uindex u) ∧ volumes.contains c then 0 else tc 64 (d.ctrView u c)

/-- The ledger entry of R310, 192 bytes. -/
def Ledger.bytes (g : Ledger) : List Byte :=
  let w (xs : List Nat) : List Byte := xs.flatMap (fun x => leBytes 8 (x % 2 ^ 64))
  leBytes 16 (put 112 (g.flags % 65536) + put 109 g.stn + put 108 (b2n g.auditOk))
    ++ leBytes 4 g.page ++ leBytes 4 g.job
    ++ w [g.settleStamp, g.nLostLines, g.nBlankedEvents, g.nLate, g.nNosense, g.nOverfill, g.nMissing, g.nWeak, g.nFired,
          g.nRequested, g.vExcess, g.vDeficit, g.vMovedIn, g.vMovedOut, g.vLostInput, g.vBlanked, g.vUnplaceable,
          g.vThinned, g.vTrimmed, g.vFired, g.vRequested]

/-- The charge entry of R521, 32 bytes. -/
def Charge.bytes (c : Charge) : List Byte :=
  leBytes 32 (put 192 (tc 64 c.charge) + put 128 c.stamp + put 96 c.job + put 64 c.page + put 32 c.samples + put 29 c.stn
    + put 28 (b2n c.aborted))

/-- The descriptor of R186, 32 bytes. -/
def Desc.bytes (x : Desc) : List Byte :=
  leBytes 32 (put 192 x.src + put 160 x.dst + put 128 x.len + put 96 x.line + put 80 x.sg + put 64 x.reason
    + put 32 x.page + put 16 (x.slot % 65536) + put 7 (b2n x.lastOfLine) + put 6 (b2n x.lastOfTicket) + put 4 x.wport + x.status)

/-- The code of a nozzle in the nozzle state table: 0 IN, 1 SUSPECT, 2 OUT, 3 OUT by ENABLE 0 or by force. -/
def Dev.nozCode (d : Dev) (l m : Nat) : Nat :=
  if !nozEnabled (d.nozWord l m) || (d.noz l m).forced then 3 else d.nozSt l m

/-- The nozzle state table of a lane, 2 bits a nozzle, nozzle 0 in the low bits of the first byte. -/
def Dev.nozTable (d : Dev) (l : Nat) : List Byte :=
  (upTo ((d.nozzles l + 3) / 4)).map (fun i =>
    BitVec.ofNat 8 ((upTo 4).foldl (fun a j => if 4 * i + j < d.nozzles l then a + put (2 * j) (d.nozCode l (4 * i + j)) else a) 0))

/-- Bytes up to the next multiple of 8 (R619). -/
def pad8 (bs : List Byte) : List Byte := bs ++ List.replicate ((8 - bs.length % 8) % 8) 0

/-- The ledger entries of a station, and the charge entries of a loop, that are not yet returned and stamped after `t`: they
go to a later visor (R617). -/
def Dev.laterEntries (d : Dev) (u t : Nat) : Nat :=
  if uclass u = cSTN then
    let s := d.stn.at (uindex u)
    ((s.ring.take s.ringNew).filter (fun g => t < g.settleStamp)).length
  else
    let x := d.loop.at (uindex u)
    ((x.ring.take x.ringNew).filter (fun c => t < c.stamp)).length

/-- The variable parts of a unit for a latch instant, in the order of R617: ledger entries, charge entries and descriptors,
oldest first, the nozzle state table, rho of each facet. -/
def Dev.varPart (d : Dev) (u t : Nat) : List Byte :=
  let i := uindex u
  let k := uclass u
  if k = cSTN then
    let s := d.stn.at i
    ((s.ring.take s.ringNew).drop (d.laterEntries u t)).reverse.flatMap Ledger.bytes
      ++ (if d.isScan i then
            (upTo (d.facets i)).flatMap (fun f => leBytes 4 (s.scan.rho.getD 16777216 f)) else [])
  else if k = cLOOP then
    (((d.loop.at i).ring.take (d.loop.at i).ringNew).drop (d.laterEntries u t)).reverse.flatMap Charge.bytes
  else if k = cDMA then (d.plane.ch.at i).done.reverse.flatMap Desc.bytes
  else if k = cLANE then (if d.isJet (i / 32) then d.nozTable i else [])
  else []

/-- The header of a unit block (R619). -/
def blockHead (parent index unit status len counters : Nat) (cut : Bool) : List Byte :=
  leBytes 24 (put 160 parent + put 148 (index % 4096) + put 96 unit + put 64 status + put 32 len + put 16 counters
    + b2n cut)

/-- A unit is in scope: it is the unit that SCOPE names, or SCOPE is a mitten above it (R620). -/
def Dev.inScope (d : Dev) (scope a : Nat) : Bool :=
  a == scope || ((a / 65536 == d.node || d.homed a) && (d.above (a % 65536)).contains scope)

/-- The block of a unit or mitten of this node for a latch instant (R619, R620). -/
def Dev.unitBlock (d : Dev) (scope a t : Nat) (cut : Bool) : List Byte :=
  let u := a % 65536
  let cs := (d.ctrList u).flatMap (fun c => leBytes 8 (d.ctrWord u c))
  let var := pad8 (d.varPart u t)
  let up := if a = scope then (0, 0) else match d.fab.fingers.get? u with | some (m, i, _) => (m, i) | none => (0, 0)
  blockHead up.1 up.2 a (d.wordAt a).toNat (24 + cs.length + var.length) (cs.length / 8) cut ++ cs ++ var

/-- The units and mittens of this node in a scope. -/
def Dev.scopeUnits (d : Dev) (scope : Nat) : List Nat :=
  (((d.unitsOn.filter (fun u => uclass u != cMITTEN)).map d.addr) ++ d.homes).filter (d.inScope scope)

/-- The nodes that hold a unit of a scope, as far as the image's MITTEN records name them. -/
def Dev.scopeNodes (d : Dev) : Nat → Nat → List Nat
  | 0, a => [a / 65536]
  | fuel + 1, a =>
    (if d.homed a then d.node else a / 65536) :: (d.fingersOf a).flatMap (d.scopeNodes fuel)

/-- A unit block as the requester reads it. -/
structure Blk where
  src : Nat
  parent : Nat
  index : Nat
  unit : Nat
  counters : Nat
  bytes : List Byte
  deriving Inhabited

/-- The unit blocks of a contribution (R619). -/
def parseBlocks (src : Nat) : Nat → List Byte → List Blk
  | 0, _ => []
  | fuel + 1, bs =>
    if bs.length < 24 then []
    else
      let h := leNat (bs.take 24)
      let n := bits h 63 32
      if n < 24 ∨ bs.length < n then []
      else
        { src := src, parent := bits h 191 160, index := bits h 159 148, unit := bits h 127 96, counters := bits h 31 16,
          bytes := bs.take n } :: parseBlocks src fuel (bs.drop n)

/-- The names of a block's counters: jet and scan blocks of STN and LANE differ in their number (R681). -/
def Blk.names (b : Blk) : List Ctr :=
  let u := b.unit % 65536
  if uclass u = cSTN then (if b.counters == ctrJetStn.length then ctrJetStn else ctrScanStn)
  else if uclass u = cLANE then (if b.counters == ctrJetLane.length then ctrJetLane else ctrScanLane)
  else ctrOfClass (uclass u)

/-- A counter of a block by name. -/
def Blk.value (b : Blk) (c : Ctr) : Nat :=
  match b.names.idxOf? c with
  | some i => leNat ((b.bytes.drop (24 + 8 * i)).take 8)
  | none => 0

/-- The blocks under a unit, itself first, then its fingers depth first in finger order (R620). -/
def underBlocks (bs : List Blk) : Nat → Nat → List Blk
  | 0, _ => []
  | fuel + 1, a =>
    bs.filter (fun b => b.unit == a)
      ++ (isort (fun x y => x.index ≤ y.index) (bs.filter (fun b => b.parent == a && b.unit != a))).flatMap
          (fun b => underBlocks bs fuel b.unit)

/-- The block is that of a twin pair's mitten, among blocks `fs` of its fingers: by its record, or at a node without the
record by its home, which is not the node of its address, or by its fingers, the NODE units of its home and of one other
node (R36, R612, R613, log entry 111). -/
def Dev.twinBlock (d : Dev) (b : Blk) (fs : List Blk) : Bool :=
  match d.mittenRec b.unit with
  | some r => bit r.body 31
  | none =>
    b.unit / 65536 != b.src
      || (fs.length == 2 && fs.all (fun x => x.unit % 65536 == uNODE) && fs.any (fun x => x.unit / 65536 == b.src))

/-- The blocks of the units that count for a unit, within `fuel` levels of mittens: itself, or for a mitten those of its
fingers, of which a twin pair gives the active one alone (R35, R36). -/
def Dev.leafBlocks (d : Dev) (bs : List Blk) : Nat → Blk → List Blk
  | 0, _ => []
  | fuel + 1, b =>
    if uclass (b.unit % 65536) ≠ cMITTEN then [b]
    else
      let fs : List Blk :=
        isort (fun (x y : Blk) => x.index ≤ y.index) (bs.filter (fun (x : Blk) => x.parent == b.unit && x.unit != b.unit))
      let fs := if d.twinBlock b fs then fs.filter (fun (x : Blk) => x.unit / 65536 == b.src) else fs
      fs.flatMap (d.leafBlocks bs fuel)

/-- A mitten's block with the sums of the counters that all its leaf fingers share, after its own; a twin pair's takes
those of its active finger (R35, R36, R620). -/
def Dev.mittenBlock (d : Dev) (bs : List Blk) (b : Blk) : Blk :=
  if uclass (b.unit % 65536) ≠ cMITTEN then b
  else
    let leaves := d.leafBlocks bs 9 b
    let names := (leaves.headD default).names.filter (fun c => leaves.all (fun (x : Blk) => x.names.contains c))
    let names := if leaves.isEmpty then [] else names
    let sums := names.flatMap (fun c => leBytes 8 ((leaves.foldl (fun (a : Nat) (x : Blk) => a + x.value c) 0) % 2 ^ 64))
    let n := b.counters + names.length
    let h := leNat (b.bytes.take 24)
    let own := (b.bytes.drop 24).take (8 * b.counters)
    let head := blockHead b.parent b.index b.unit (bits h 95 64) (24 + 8 * n) n (bit h 0)
    { b with counters := n, bytes := head ++ own ++ sums }

/-- The blocks that fit, in order; the first that does not fit ends the list (R618). -/
def fitBlocks : Nat → List Blk → List Blk × List Blk
  | _, [] => ([], [])
  | room, b :: bs =>
    if room < b.bytes.length then ([], b :: bs)
    else let r := fitBlocks (room - b.bytes.length) bs; (b :: r.1, r.2)

/-- Entries of this node's rings in a block that was left out stay for the next visor (R617). -/
def Dev.keepEntries (b : Blk) (d : Dev) : Dev :=
  if b.unit / 65536 ≠ d.node then d
  else
    let u := b.unit % 65536
    let var := b.bytes.length - 24 - 8 * b.counters
    if uclass u = cSTN then
      d.updStn (uindex u) (fun s => { s with ringNew := min s.ring.length (s.ringNew + var / 192) })
    else if uclass u = cLOOP then
      d.updLoop (uindex u) (fun x => { x with ringNew := min x.ring.length (x.ringNew + var / 32) })
    else d

/-- The header of a visor (R618). -/
def visorHead (v : Visor) (used blocks reported missing offset : Nat) (cut : Bool) : List Byte :=
  leBytes 64 (put 448 v.t + put 416 v.scope + put 384 used + put 352 blocks + put 320 reported + put 288 missing
    + put 256 offset + put 240 v.node + put 224 (b2n cut) + 0x53565656)

/-- The nodes of a visor that did not report, ascending (R615, R618). -/
def Visor.missing (v : Visor) : List Nat := isort (· ≤ ·) (v.nodes.filter (fun n => !v.reported.contains n))

/-- A visor ends at its requester: the account is written to its buffer or to the shadows of BAR2, and the ticket
completes (R618, R620, R621). -/
def Dev.visorDone (v : Visor) (d : Dev) : Dev :=
  let srcs := (v.parts.map (fun p => p.1 / 65536)).eraseDups
  let bs := srcs.flatMap (fun s =>
    let data := (v.parts.filter (fun p => p.1 / 65536 == s)).flatMap (·.2)
    parseBlocks s data.length data)
  let all := underBlocks bs 9 v.scope
  let rest := isort (fun x y => x.parent < y.parent || (x.parent == y.parent && x.index ≤ y.index))
    (bs.filter (fun b => !all.any (fun a => a.unit == b.unit)))
  let order := (all ++ rest).map (d.mittenBlock bs)
  let miss := v.missing
  let room := match v.slot with | some _ => v.len | none => 0xF00000
  let missLen := min (2 * miss.length) (room - 64)
  let fit := fitBlocks (room - 64 - missLen) order
  let cut := !fit.2.isEmpty || missLen < 2 * miss.length
  let body := fit.1.flatMap (·.bytes)
  let used := 64 + body.length + missLen
  let bytes := visorHead v used fit.1.length v.reported.length miss.length (64 + body.length) cut
    ++ body ++ (miss.flatMap (leBytes 2)).take missLen
  let d := { d with fab := { d.fab with visors := d.fab.visors.filter (fun w => !(w.node == v.node && w.id == v.id)) } }
  let d := fit.2.foldl (fun d b => d.keepEntries b) d
  let d := d.reportIf cut uNODE 0x0F0F
  match v.slot with
  | some slot => (d.emit (.hostWrite v.buf bytes)).finish slot 0 (if cut then 0x0F0F else 0) 0 v.t miss.length
  | none => { d with fab := { d.fab with shadow := bytes } }

/-- A visor changed in the list of those pending. -/
def Dev.updVisor (v : Visor) (d : Dev) : Dev :=
  { d with fab := { d.fab with
      visors := d.fab.visors.map (fun w => if w.node == v.node && w.id == v.id then v else w) } }

/-- A visor ends once every node in scope has ended its contribution (R621). -/
def Dev.visorCheck (v : Visor) (d : Dev) : Dev :=
  if v.nodes.all (fun n => v.reported.contains n || v.late.contains n) then d.visorDone v else d.updVisor v

/-- A visor pending at this node. -/
def Dev.visorOf (d : Dev) (node id : Nat) : Option Visor := d.fab.visors.find? (fun v => v.node == node && v.id == id)

/-- The refusal of a visor request (R615): the latch time, then the visors pending. -/
def Dev.visorFinding (d : Dev) (t : Nat) : Option Nat :=
  let now := d.stamp
  if t < now + 1000 * d.cfgN .fabric 0 .VISOR_LEAD_US ∨ now + 10000000000 < t then some 0x0F0B
  else if 8 ≤ d.fab.visors.length then some 0x0F0C
  else none

/-- A visor is scheduled: it is pending here, and the request floods to the other nodes in scope (R600, R615). -/
def Dev.visorStart (t scope : Nat) (slot : Option Nat) (buf len : Nat) (d : Dev) : Dev :=
  let nodes := (d.scopeNodes 8 scope).eraseDups
  let id := d.fab.visorId
  let v : Visor := { id := id, node := d.node, t := t, scope := scope, slot := slot, buf := buf, len := len, nodes := nodes }
  let d := { d with fab := { d.fab with visors := d.fab.visors ++ [v], visorId := (id + 1) % 65536 } }
  if nodes.all (· == d.node) then d
  else
    d.flood none (.visorReq
      { node := BitVec.ofNat 16 d.node, latchT := BitVec.ofNat 64 t, scope := BitVec.ofNat 32 scope
        visorId := BitVec.ofNat 16 id })

/-- A VISOR ticket (R140, R615, R621); a SCOPE with a class or index that R25 refuses breaks its format (log entry 70). -/
def Dev.visor1 (k : Tkt) (d : Dev) : Dev :=
  let e := k.entry
  let t := tf e 511 448
  let len := tf e 383 352
  match if uvalid (tf e 351 320 % 65536) then d.visorFinding t else some 0x0E01 with
  | some code => d.refuse k code
  | none =>
    if len < 64 then d.refuse k 0x0F0E
    else d.visorStart t (tf e 351 320) (some k.slot) (tf e 447 384) len

/-- VISOR: a VISOR ticket starts (R615). -/
def actVisor (t : Nat) (d : Dev) : Dev := (d.enter t 7).ticket 0x09 (fun k d => d.visor1 k)

/-- VISOR (R615). -/
def execVisor (t : Nat) (s : State) : Host.Outcome State Fault Refusal := .next { s with dev := actVisor t s.dev }

/-- A VISOR_REQ visor is pending: VISOR_STATUS bit 0 (R115). -/
def Dev.visorPending (d : Dev) : Bool := d.fab.visors.any (fun v => v.node == d.node && v.slot.isNone)

/-- VISOR_REQ: a write of bit 0 schedules a visor into the BAR2 shadows (R115, R615); a refusal is reported on NODE. -/
def actVisorReq (t : Nat) (v : Word) (d : Dev) : Dev :=
  let d := d.enter t 7
  if !v.getLsbD 0 then d
  else
    let scope := d.host.visorScope.toNat
    let at_ := d.host.visorT.toNat
    if scope / 65536 = 0xFFFF then d.report uNODE 0x0E02
    else if !uvalid (scope % 65536) then d.report uNODE 0x0E01
    else if d.visorPending then d.report uNODE 0x0F0C
    else
      match d.visorFinding at_ with
      | some code => d.report uNODE code
      | none => d.visorStart at_ scope none 0 0

/-- VISOR_REQ (R615). -/
def execVisorReq (t : Nat) (v : Word) (s : State) : Host.Outcome State Fault Refusal :=
  .next { s with dev := actVisorReq t v s.dev }

/-- VISOR_REQ_MSG: another node's request (R600, R615). It goes on to the other tree ports; a node in scope keeps it until
T, or answers at once with LATE. -/
def actVisorReqMsg (t : Nat) (m : VisorReqMsg) (d : Dev) : Dev :=
  let d := (d.enter t 7).acceptFrom m.node.toNat (.visorReq m)
  let from_ := m.node.toNat
  let scope := m.scope.toNat
  if from_ = d.node ∨ (d.visorOf from_ m.visorId.toNat).isSome then d
  else
    let d := d.flood (d.fab.portTo from_) (.visorReq m)
    if d.scopeUnits scope = [] then d
    else if m.latchT.toNat < d.stamp then
      ((d.bump uNODE .VISORS_LATE 1).report uNODE 0x0F0D).xsend from_
        (.visorEnd { src := BitVec.ofNat 16 d.node, visorId := m.visorId, units := 0, late := true })
    else
      let v : Visor := { id := m.visorId.toNat, node := from_, t := m.latchT.toNat, scope := scope }
      { d with fab := { d.fab with visors := d.fab.visors ++ [v] } }

/-- VISOR_REQ_MSG (R615). -/
def execVisorReqMsg (t : Nat) (m : VisorReqMsg) (s : State) : Host.Outcome State Fault Refusal :=
  .next { s with dev := actVisorReqMsg t m s.dev }

/-- The entries a visor has taken are returned (R310, R519, R617). -/
def Dev.entriesTaken (a t : Nat) (d : Dev) : Dev :=
  let u := a % 65536
  let later := d.laterEntries u t
  if uclass u = cSTN then d.updStn (uindex u) (fun s => { s with ringNew := later })
  else if uclass u = cLOOP then d.updLoop (uindex u) (fun x => { x with ringNew := later })
  else d

/-- The bytes of a contribution in frames of at most 2,000 bytes (R602). -/
def visorParts (bs : List Byte) : List (Nat × List Byte) :=
  (upTo (ceilDiv bs.length 2000)).map (fun i => (i, (bs.drop (2000 * i)).take 2000))

/-- VISOR_LATCH: device time has reached T; every unit in scope latches its status, counters and variable parts at one
instant (R616, R617), and this node's contribution goes to the requester (R600, R602, R620). -/
def actVisorLatch (t node id : Nat) (d : Dev) : Dev :=
  let d := d.enter t 7
  match d.visorOf node id with
  | none => d
  | some v =>
    if v.latched ∨ d.stamp < v.t then d
    else
      let units := d.scopeUnits v.scope
      let cut := d.fab.visorCut
      let data := units.zipIdx.flatMap (fun a => d.unitBlock v.scope a.1 v.t (cut && a.2 == 0))
      let d := units.foldl (fun d a => d.entriesTaken a v.t) d
      let d := ({ d with fab := { d.fab with visorCut := false }, free := d.free + 80 }).bump uNODE .VISORS 1
      if v.node = d.node then
        let v := { v with
          latched := true, parts := v.parts.set (d.node * 65536) data
          reported := if v.nodes.contains d.node then d.node :: v.reported else v.reported }
        d.visorCheck v
      else
        let d := { d with fab := { d.fab with visors := d.fab.visors.filter (fun w => !(w.node == node && w.id == id)) } }
        let ps := visorParts data
        let d := ps.foldl
          (fun d p =>
            d.xsend node (.visorData
              { src := BitVec.ofNat 16 d.node, visorId := BitVec.ofNat 16 id, part := BitVec.ofNat 16 p.1
                last := p.1 + 1 == ps.length, bytes := p.2 })) d
        d.xsend node (.visorEnd
          { src := BitVec.ofNat 16 d.node, visorId := BitVec.ofNat 16 id, units := BitVec.ofNat 32 units.length
            late := false })

/-- VISOR_LATCH (R616). -/
def execVisorLatch (t : Nat) (node visorId : Half) (s : State) : Host.Outcome State Fault Refusal :=
  .next { s with dev := actVisorLatch t node.toNat visorId.toNat s.dev }

/-- VISOR_DATA: a part of another node's contribution arrives at the requester (R602, R620). -/
def actVisorData (t : Nat) (m : VisorDataMsg) (d : Dev) : Dev :=
  let d := (d.enter t 7).acceptFrom m.src.toNat (.visorData m)
  match d.visorOf d.node m.visorId.toNat with
  | none => d
  | some v =>
    d.updVisor { v with parts := v.parts.set (m.src.toNat * 65536 + m.part.toNat) m.bytes }

/-- VISOR_DATA (R620). -/
def execVisorData (t : Nat) (m : VisorDataMsg) (s : State) : Host.Outcome State Fault Refusal :=
  .next { s with dev := actVisorData t m s.dev }

/-- VISOR_END: a node has ended its contribution, or came too late (R615, R621). -/
def actVisorEnd (t : Nat) (m : VisorEndMsg) (d : Dev) : Dev :=
  let d := (d.enter t 7).acceptFrom m.src.toNat (.visorEnd m)
  match d.visorOf d.node m.visorId.toNat with
  | none => d
  | some v =>
    let n := m.src.toNat
    d.visorCheck
      (if m.late then { v with late := n :: v.late }
       else if v.reported.contains n then v else { v with reported := n :: v.reported })

/-- VISOR_END (R621). -/
def execVisorEnd (t : Nat) (m : VisorEndMsg) (s : State) : Host.Outcome State Fault Refusal :=
  .next { s with dev := actVisorEnd t m s.dev }

/-- VISOR_TIMEOUT: VISOR_TIMEOUT_MS after T the requester writes what it has (R621). -/
def actVisorTimeout (t id : Nat) (d : Dev) : Dev :=
  let d := d.enter t 7
  match d.visorOf d.node id with
  | none => d
  | some v =>
    if d.stamp < v.t + 1000000 * d.cfgN .fabric 0 .VISOR_TIMEOUT_MS then d else d.visorDone v

/-- VISOR_TIMEOUT (R621). -/
def execVisorTimeout (t : Nat) (visorId : Half) (s : State) : Host.Outcome State Fault Refusal :=
  .next { s with dev := actVisorTimeout t visorId.toNat s.dev }

end Sys2Proof.Machine
end

