-- ==== Sys2Proof/Machine/Cal.lean ====
section
/-! DEFINITION. The CAL ticket (R410 to R415), the writing of the calibration store (R416 to R421), and the adoption of the
active twin's calibration (R425). -/

namespace Sys2Proof.Machine

/-- A record belongs to a station or to one of its lanes. -/
def Rec.ofStn (x : Rec) (n : Nat) : Bool := calStn (x.addr % 65536) == n

/-- The page whose event 0 or first sweep comes next at a station, once its leading edge is bound (R413). -/
def Dev.nextBound (d : Dev) (n : Nat) : Option Page :=
  d.jobs.pages.find? (fun p =>
    bit p.mask n && (p.state == .queued || p.state == .armed || p.state == .marking) && (p.stn.at n).le.isSome
      && !(p.stn.at n).marked)

/-- The next bound page's event 0 is predicted to issue earlier than APPLY_LEAD_US from now (R413). -/
def Dev.applyTooLate (d : Dev) (n : Nat) : Bool :=
  match (d.nextBound n).bind (fun p => (p.stn.at n).le) with
  | none => false
  | some le =>
    match d.predict n (d.targetS n le 0) with
    | none => false
    | some t => t < ((d.qns + d.leadQ n + usq (d.cfgN .calDefaults n .APPLY_LEAD_US) : Nat) : Int)

/-- The records in effect after those that wait have taken effect at a station (R404, R425). -/
def Dev.calAt (d : Dev) (n : Nat) : List Rec :=
  let xs := d.cal.wait.filter (fun x => x.ofStn n)
  if d.cal.adopt then xs.foldl (fun cs x => calInsert x cs) (d.cal.recs.filter (fun x => !x.ofStn n))
  else d.calMergeAll d.cal.recs xs

/-- Items 3, 4 and 6 go out again on a lane (R374, R414). -/
def Dev.calItems (l : Nat) (d : Dev) : Dev :=
  if !d.laneReady l then d
  else
    let d := ((d.laneItems l).filter (fun i =>
      match i with | .delay _ _ => true | .trim _ _ => true | .facet _ => true | _ => false)).foldl
      (fun d i => d.laneArm l i) d
    d.updLane l (fun x => { x with calSeq := x.armSeq })

/-- What a station has in build is built again with the values that have taken effect (R414). -/
def Dev.rebuildStn (n : Nat) (d : Dev) : Dev := if d.isJet n then d.rebuild n else d.rebuildScan n

/-- The store write begins: the target slot is erased (R418 steps 1 and 2). Generation 0, adopted from a twin on factory
values, has no slot. -/
def Dev.calWrite (d : Dev) : Dev :=
  let body := d.cal.recs.flatMap Rec.bytes
  let target := if d.cal.slot = 0 then 1 else 0
  let len := 0x1000 + body.length
  if d.cal.newGen = 0 then
    { d with cal := { d.cal with gen := 0, slot := 2, applied := 0, stored := d.cal.recs } }
  else
    let d := { d with cal := { d.cal with step := 2, stepAt := d.clk.now, body := body, target := target } }
    d.xspiCal (.erase d.calCs (calOff target) len)

/-- What has taken effect at every station is reported and written to flash (R415). -/
def Dev.calEverywhere (d : Dev) : Dev :=
  if d.cal.waitMask ≠ 0 then d
  else
    let d := match d.cal.job with
      | some (slot, _) => d.post slot false 4 0 0 0xF 0 0 0
      | none => d
    d.calWrite

/-- Values that wait take effect at a brim of a station, after its audits and NOZZLE actions, unless the next page comes
too soon (R413, R414). -/
def Dev.calBrim (n : Nat) (d : Dev) : Dev :=
  if !bit d.cal.waitMask n then d
  else if d.applyTooLate n then (d.bump uNODE .CAL_DEFERRED_BRIMS 1).report (uid cSTN n) 0x0805
  else
    let d := { d with cal := { d.cal with
      recs := d.calAt n, waitMask := d.cal.waitMask - 2 ^ n, applied := d.cal.applied ||| 2 ^ n } }
    (((d.lanesOf n).foldl (fun d l => d.calItems l) d).rebuildStn n).calEverywhere

/-- In a stop every station that values still wait for has come to its stopping brim (R415). -/
def Dev.calStop (d : Dev) : Dev := (d.stations.filter (fun n => bit d.cal.waitMask n)).foldl (fun d n => d.calBrim n) d

/-- Values begin to wait for the brims of stations; a station in a brim takes them at once (R152, R413). -/
def Dev.calStart (xs : List Rec) (mask gen : Nat) (adopt : Bool) (d : Dev) : Dev :=
  let ns := (stnsOf mask).filter d.stnOn
  let d := { d with cal := { d.cal with
    wait := xs, waitMask := ns.foldl (fun a n => a + 2 ^ n) 0, newGen := gen, adopt := adopt
    applied := if d.cal.newGen = gen then d.cal.applied else 0 } }
  if ns = [] then d.calEverywhere else (ns.filter d.brimOpen).foldl (fun d n => d.calBrim n) d

/-- The active twin's calibration, once it has arrived in a snapshot and nothing else is under way (R425): its records name
the active's node, and the same units of this one. -/
def Dev.calAdopt (d : Dev) : Dev :=
  match d.twin.partnerGen with
  | none => d
  | some g =>
    if d.cal.job.isSome ∨ d.cal.step ≠ 0 ∨ d.cal.waitMask ≠ 0 then d
    else
      let bs := d.twin.partnerRecs
      let d := { d with twin := { d.twin with partnerGen := none, partnerRecs := [] } }
      match calWalk d.node (bs.length / 20 + 1) [] bs with
      | .ok xs => d.calStart (xs.map (fun x => { x with addr := d.addr (x.addr % 65536) })) 0xFF g true
      | .error _ => d

/-- The CAL ticket that runs ends with its final completion; what waits behind it goes on. -/
def Dev.calEnd (outcome reason flags r0 : Nat) (d : Dev) : Dev :=
  let job := d.cal.job
  let d := { d with
    cal := { d.cal with job := none, reading := false, step := 0, wait := [], adopt := false }
    boot := { d.boot with xspi := { d.boot.xspi with calOp := none } } }
  let d := match job with
    | some (slot, _) => d.finish slot outcome reason flags r0 0
    | none => d
  d.calAdopt

/-- A CAL ticket (R139, R410, R420): the buffer read begins. -/
def Dev.cal1 (k : Tkt) (d : Dev) : Dev :=
  let e := k.entry
  let len := tf e 159 128
  if d.cal.gen = 0xFFFFFFFE then d.refuse k 0x0803
  else if len < 16 ∨ 8388608 < len then d.refuse k 0x0801
  else
    ({ d with cal := { d.cal with job := some (k.slot, tf e 167 160, tf e 511 448, len), reading := true } }).readHost
      (tf e 511 448) len

/-- CAL: a CAL ticket starts, once every earlier one has ended (R410, R411). -/
def actCal (t : Nat) (d : Dev) : Dev :=
  let d := d.enter t 7
  if d.cal.job.isSome ∨ d.cal.waitMask ≠ 0 ∨ d.cal.step ≠ 0 then d else d.ticket 0x04 (fun k d => d.cal1 k)

/-- CAL (R410). -/
def execCal (t : Nat) (s : State) : Host.Outcome State Fault Refusal := .next { s with dev := actCal t s.dev }

/-- CAL_BUFFER_READ_DONE: the calibration gauntlet runs on the buffer; a refused ticket changes nothing, an accepted one
waits for brims (R411 to R413). A record with node id 0xFFFF is not replaced in a ticket: it does not name the device
(R27, R411). -/
def actCalBufferReadDone (t : Nat) (r : ReadResult) (d : Dev) : Dev :=
  let d := d.enter t 7
  match d.cal.job with
  | none => d
  | some (_, mask, _, len) =>
    if !d.cal.reading then d
    else
      let d := { d with cal := { d.cal with reading := false } }
      match r with
      | .error _ => d.calEnd 1 0x0804 0 0
      | .data bs =>
        if bs.length ≠ len then d.calEnd 1 0x0804 0 0
        else
          match calWalk 0xFFFF (len / 20 + 1) [] bs with
          | .error code => d.calEnd 1 code 0 0
          | .ok xs =>
            match d.calGauntlet d.cal.recs mask xs with
            | some code => d.calEnd 1 code 0 0
            | none => d.calStart xs mask (d.cal.gen + 1) false

/-- CAL_BUFFER_READ_DONE (R411). -/
def execCalBufferReadDone (t : Nat) (r : ReadResult) (s : State) : Host.Outcome State Fault Refusal :=
  .next { s with dev := actCalBufferReadDone t r s.dev }

/-- The store write fails: the values stay until disengagement, with 0x0808 (R419). -/
def Dev.calFail (d : Dev) : Dev := (d.report uNODE 0x0808).calEnd 3 0x0808 0 0

/-- The commit is checked: the new generation is in effect and durable (R417, R419). -/
def Dev.calCommitted (d : Dev) : Dev :=
  let g := d.cal.newGen
  let d := ({ d with cal := { d.cal with gen := g, slot := d.cal.target, applied := 0, stored := d.cal.recs } }).bump uNODE
    .CAL_COMMITS 1
  (d.delta (.calibration (BitVec.ofNat 32 g) d.cal.body)).calEnd 0 0 (flag 0 fDURABLE) g

/-- The store's next step asks the flash for a write in the target slot. -/
def Dev.calNext (step off : Nat) (bs : List Byte) (d : Dev) : Dev :=
  ({ d with cal := { d.cal with step := step } }).xspiCal (.write d.calCs (calOff d.cal.target + off) bs)

/-- The store's next step reads back from the target slot. -/
def Dev.calReadBack (step off len : Nat) (d : Dev) : Dev :=
  ({ d with cal := { d.cal with step := step } }).xspiCal (.read d.calCs (calOff d.cal.target + off) len)

/-- The next step of R418 once a flash operation of the store has ended well. -/
def Dev.calStoreNext (op : FlashOp) (d : Dev) : Dev :=
  let body := d.cal.body
  let crc := leBytes 4 (crc32c body).toNat
  let commit := commitBytes d.stamp body.length (d.hdr 95 64) d.cal.newGen d.node
  let d := match op with | .write cs off xs => d.flashWritten cs off xs | .erase .. => d | .read .. => d
  if d.cal.step = 0 then d
  else if d.cal.step = 2 then d.calNext 3 0x1000 body
  else if d.cal.step = 3 then d.calNext 4 0x40 crc
  else if d.cal.step = 4 then d.calReadBack 5 0x1000 body.length
  else if d.cal.step = 5 then
    let o := calOff d.cal.target
    if d.boot.flashBytes d.calCs (o + 0x1000) body.length = body ∧ d.boot.flashBytes d.calCs (o + 0x40) 4 = crc then
      ({ d with cal := { d.cal with commit := commit } }).calNext 6 0 commit
    else d.calFail
  else if d.cal.step = 6 then d.calReadBack 7 0 32
  else if (d.calSlot d.cal.target).map (·.1) = some d.cal.newGen then d.calCommitted
  else d.calFail

/-- CAL_STORE_WRITE_DONE: the flash operation that runs for the calibration store has ended, good or not (R418); what
waits for the flash goes on (R73). -/
def actCalStoreWriteDone (t : Nat) (good : Bool) (d : Dev) : Dev :=
  let d := d.enter t 7
  match d.xspiRuns true with
  | none => d
  | some op =>
    let d := d.xspiFree
    (if good then d.calStoreNext op else if d.cal.step = 0 then d else d.calFail).xspiGo

/-- CAL_STORE_WRITE_DONE (R418). -/
def execCalStoreWriteDone (t : Nat) (good : Bool) (s : State) : Host.Outcome State Fault Refusal :=
  .next { s with dev := actCalStoreWriteDone t good s.dev }

/-- CAL_COMMIT_TIMEOUT: no commit within 60 s of step 2 (R419). -/
def actCalCommitTimeout (t : Nat) (d : Dev) : Dev :=
  let d := d.enter t 7
  if d.cal.step = 0 ∨ d.clk.now < d.cal.stepAt + msq 60000 then d else d.calFail

/-- CAL_COMMIT_TIMEOUT (R419). -/
def execCalCommitTimeout (t : Nat) (s : State) : Host.Outcome State Fault Refusal :=
  .next { s with dev := actCalCommitTimeout t s.dev }

end Sys2Proof.Machine
end

