-- ==== Sys2Proof/Machine/Brim.lean ====
section
/-! DEFINITION. The audits of a brim (R172, R309, R315, R351, R386, R520, R610, R622), what takes effect after them (R237,
R311, R366, R395, R413), and the bank arbiter's cut-off (R180). -/

namespace Sys2Proof.Machine

/-- The pages whose audit at a station is due, oldest first. -/
def Dev.auditsDue (d : Dev) (n : Nat) : List Page := d.jobs.pages.filter (fun p => p.auditDue n)

/-- An audit is due at a station whose reports are still awaited (R309); a scan station awaits none. -/
def Dev.auditWaits (d : Dev) (n : Nat) : Bool := d.isJet n && (d.auditsDue n).any (fun p => !d.reportsIn p n)

/-- The units whose audits run at a brim of a station, with the code of a mismatch (R622). -/
def Dev.audited (d : Dev) (n : Nat) : List (Nat × Nat) :=
  ((d.lanesOf n).filter d.laneOpen).map (fun l => (uid cLANE l, 0x060A))
    ++ ((upTo 32).filter (d.has .bank)).map (fun k => (uid cBANK k, 0x0D0D))
    ++ ((upTo 64).filter (fun i => d.has .loop i && d.cfgB .loop i .CHARGE_EN && d.cfgN .loop i .CHARGE_STN == n)).map
      (fun i => (uid cLOOP i, 0x0B12))

/-- The results of the audits of `us` between two states go to NODE and the mittens (R623): a mismatch has reported its
code on the unit. -/
def Dev.auditResults (us : List (Nat × Nat)) (before d : Dev) : Dev :=
  us.foldl
    (fun d u =>
      let bad := (d.us u.1).count != (before.us u.1).count && (d.us u.1).reason.toNat == u.2
      d.auditResult u.1 (if bad then u.2 else 0)) d

/-- The laws audited at every brim (R172, R386, R520, R610, R622). -/
def Dev.lawAudits (n : Nat) (d : Dev) : Dev :=
  let us := d.audited n
  let e := ((d.linkBrim n).bandAudit n).chargeAudit n
  (Dev.auditResults us d e).xcreditAudit

/-- The ledger of a page at a station balances: in volume at a jet station (R304), in pixels at a scan station (R351). -/
def Dev.ledgerOk (d : Dev) (p : Page) (n : Nat) : Bool :=
  if d.isJet n then (p.stn.at n).led.balanced else (p.stn.at n).led.pixelsOk

/-- A page's audit at a station (R309, R351): a mismatch is reported with 0x0710 or 0x0511 and marks the page with
CONSERVATION; the ledger is kept as counted. Conservation faults of the other laws mark the page too (R173, R387, R520). -/
def Dev.auditPage (n : Nat) (p : Page) (d : Dev) : Dev :=
  let ok := d.ledgerOk p n
  let code := if d.isJet n then 0x0710 else 0x0511
  let d := d.updPg p.order n (fun s => { s with audited := true, led := { s.led with auditOk := ok } })
  let d := if ok then d else (d.report (uid cSTN n) code).updPage p.order (fun q => q.mark fCONSERVATION code)
  let d := d.auditResult (uid cSTN n) (if ok then 0 else code)
  if d.plane.conserve.any (fun c => c == n || c == 8) then
    d.updPage p.order (fun q => { q with flags := flag q.flags fCONSERVATION })
  else d

/-- A page whose last audit has run becomes SETTLED; its ledgers join the rings (R142, R150, R310). -/
def Dev.settleAudited (ord : Nat) (d : Dev) : Dev :=
  match d.page? ord with
  | none => d
  | some p =>
    if p.state = .marked ∧ (stnsOf p.mask).all (fun m => (p.stn.at m).audited) then
      ((stnsOf p.mask).foldl (fun d m => d.pushLedger p m) d).settle p
    else d

/-- A page whose stations can no longer mark it ends: what is left of it is blanked and booked, so that it is MARKED, its
audits run, and it is SETTLED (R142, R150, R154, R306, R308). -/
def Dev.endRest (ord : Nat) (d : Dev) : Dev :=
  match d.page? ord with
  | none => d
  | some p =>
    let ns := stnsOf p.mask
    let d := ns.foldl (fun d n => d.blankRest n ord) d
    let d := ns.foldl
      (fun d n => match d.page? ord with
        | some q => if (q.stn.at n).audited then d else d.auditPage n q
        | none => d) d
    d.settleAudited ord

/-- The audits of the pages done at a station; a page has taken the conservation faults of its brim (R309). -/
def Dev.pageAudits (n : Nat) (d : Dev) : Dev :=
  let ps := d.auditsDue n
  let d := ps.foldl (fun d p => d.auditPage n p) d
  let d := { d with plane := { d.plane with conserve := d.plane.conserve.filter (fun c => c != n && c != 8) } }
  ps.foldl (fun d p => d.settleAudited p.order) d

/-- A standby that follows adopts the active's nozzle states at a brim audit, and counts each that differed with 0x0711
(R315). -/
def Dev.adoptNozzles (n : Nat) (d : Dev) : Dev :=
  if !d.isTwin || d.twin.role == .active || !d.twin.snapped || !d.isJet n then d
  else
    (d.lanesOf n).foldl
      (fun d l =>
        ((upTo (d.nozzles l)).filter (fun m =>
            nozEnabled (d.nozWord l m) && d.nozSt l m != d.twin.noz.at (l * 4096 + m))).foldl
          (fun d m =>
            let st := d.twin.noz.at (l * 4096 + m)
            let d := d.bump (uid cLANE l) .TO_OUT (if st = 2 then 1 else 0)
            ((d.updNoz l m (fun z => { z with st := st, outFrom := none, exc := 0, win := (d.lane.at l).events })).bump
              (uid cSTN n) .TWIN_DIFFS 1).report (uid cSTN n) 0x0711 none (l * 65536 + m)) d) d

/-- The lane counters of a station go to the standby at each brim (R648 section 2). -/
def Dev.lineSeqs (n : Nat) (d : Dev) : Dev :=
  (d.lanesOf n).foldl (fun d l => d.delta (.seq (Fin.ofNat 256 l) (BitVec.ofNat 32 (d.lane.at l).seq))) d

/-- What takes effect at a brim once its audits have run: NOZZLE actions and check passes (R311), calibration (R413), and
the stop owed to a failed SOS (R328). -/
def Dev.brimEffects (n : Nat) (d : Dev) : Dev :=
  let d := (((d.updStn n (fun s => { s with nozRets := [] })).brimApply n).calBrim n).lineSeqs n
  if d.eng.stopAtBrim && (d.scan n).dead then ({ d with eng := { d.eng with stopAtBrim := false } }).disengage else d

/-- BRIM_AUDIT: a station in a brim runs its audits, once the reports of the page that settles have arrived or their time
has run out (R309); placement resumes (R237), and what waited for the brim takes effect. -/
def actBrimAudit (t n : Nat) (d : Dev) : Dev :=
  let d := d.enter t 7
  let live := d.eng.st == .engaged || d.eng.st == .disengaging || d.auditsDue n != []
  if !d.stnOn n || !d.inBrim n || !live || d.auditWaits n then d
  else ((((d.lawAudits n).xchkBrim n).resumeStn n).pageAudits n).adoptNozzles n |>.brimEffects n

/-- BRIM_AUDIT (R309). -/
def execBrimAudit (t : Nat) (stn : Fin 8) (s : State) : Host.Outcome State Fault Refusal :=
  .next { s with dev := actBrimAudit t stn.val s.dev }

/-- The line builder of a jet station loses the line of its newest event, whose events are built again (R180, R305). -/
def Dev.cutJetLine (n : Nat) (d : Dev) : Dev :=
  match (d.stn.at n).builds.reverse.find? (fun b => !b.step4) with
  | none => d
  | some b =>
    match d.page? b.ord with
    | none => d
    | some p =>
      if p.test ∨ b.k < d.lMin n ∨ p.lines ≤ b.k - d.lMin n ∨ p.blankLine n (b.k - d.lMin n) then d else (d.loseLine p n (b.k - d.lMin n) 0x0D0B).rebuild n

/-- The line builder of a scan station loses the line of the last beam of the sweep in build that is not sent (R180): its
pixels are no longer requested. -/
def Dev.cutScanLine (n : Nat) (d : Dev) : Dev :=
  match (d.scan n).sweep with
  | none => d
  | some w =>
    match w.ord.bind d.page? with
    | none => d
    | some p =>
      let mine (b : Nat) : Bool :=
        let y := d.beamLine n w.y b
        !w.sent.contains b && !w.late.contains b && 0 ≤ y && y < (p.lines : Int) && !p.blankLine n y.toNat
      match (upTo (d.beams n)).reverse.find? mine with
      | none => d
      | some b =>
        let lit := ((w.lv.getD [] b).filter (· != 0)).length
        let d := d.loseLine p n (d.beamLine n w.y b).toNat 0x0D0B
        let d := d.updPg p.order n (fun s => { s with led := { s.led with nRequested := s.led.nRequested - lit } })
        d.updScan n (fun c => { c with sweep := some { w with lv := w.lv.set b [], asked := w.asked - lit } })

/-- The compensation reader of stations 0 to 3 or 4 to 7 is cut off: the next event to run step 4 at a jet station of the
bank places nothing (R180). -/
def Dev.cutComp (k half : Nat) (d : Dev) : Dev :=
  match ((stnsOf (d.cfgN .bank k .STN_MASK)).filter (fun n => n / 4 == half && d.isJet n)).find?
      (fun n => (d.stn.at n).builds.any (fun b => !b.step4)) with
  | none => d
  | some n =>
    d.updStn n (fun s => { s with
      builds := match s.builds.find? (fun b => !b.step4) with
        | some x => s.builds.map (fun b => if b.ord == x.ord && b.k == x.k then { b with cut := true } else b)
        | none => s.builds })

/-- A DMA port is cut off: the oldest descriptor in flight for the bank, of that write port where one is given, becomes
BAD with the code (R180). Where several channels have one in flight, the spec does not say whose was cut off: the model
takes the lowest channel's (log entry 73). -/
def Dev.cutDma (k : Nat) (port : Option Nat) (code : Nat) (d : Dev) : Dev :=
  let hit (x : Desc) : Bool :=
    x.status == 0 && x.issued != 0 && x.reason == 0 && x.dst / 16777216 == k
        && (match port with | some w => x.wport == w | none => true)
  match ((upTo 32).map (fun c => (c, d.plane.ch.at c))).find? (fun c => c.2.store.any hit) with
  | none => d
  | some (c, ch) =>
    match ch.store.find? hit with
    | none => d
    | some y =>
      (d.updChan c (fun q => { q with
        store := q.store.map (fun x => if x.id == y.id then { x with reason := code } else x) })).chanRun c

/-- The visor and lining mirror is cut off: the shadow that waits to be latched is marked incomplete, or, where no visor
waits, the mirror's next entry (R180). Which of the two held the grant the spec does not show (log entry 74). -/
def Dev.cutReader (d : Dev) : Dev :=
  if d.fab.visors.any (fun v => !v.latched) then { d with fab := { d.fab with visorCut := true } }
  else if d.isTwin ∧ d.twin.role = .active then { d with twin := { d.twin with mirrorCut := true } }
  else { d with fab := { d.fab with visorCut := true } }

/-- OVERHOLD_CUTOFF: a grant of 64 beats or a lock of 8 is cut off: 0x0D05 or 0x0D06 on the bank, the requester in DETAIL,
and the result of the error response at the requester (R180). -/
def actOverholdCutoff (t k r : Nat) (lock : Bool) (d : Dev) : Dev :=
  let d := d.enter t 7
  if !d.has .bank k then d
  else
    let code := if lock then 0x0D06 else 0x0D05
    let d := (d.bump (uid cBANK k) .OVERHOLDS 1).report (uid cBANK k) code none r
    if r < 8 then (if d.isJet r then d.cutJetLine r else d.cutScanLine r)
    else if r < 10 then d.cutComp k (r - 8)
    else if r = 10 then d.cutReader
    else if r < 15 then d.cutDma k (some (r - 11)) code
    else d.cutDma k none code

/-- OVERHOLD_CUTOFF (R180). -/
def execOverholdCutoff (t : Nat) (bank : Fin 32) (requester : Fin 16) (lock : Bool) (s : State) :
    Host.Outcome State Fault Refusal :=
  .next { s with dev := actOverholdCutoff t bank.val requester.val lock s.dev }

end Sys2Proof.Machine
end

