-- ==== Sys2Proof/Machine/Dma.lean ====
section
/-! DEFINITION. PLANE tickets, scatter lists, the reads of the channels, and bands granted and returned (R136, R137,
R144, R166 to R173, R182 to R196). -/

namespace Sys2Proof.Machine

/-- The reason of a failed read of host memory (R192, R685). -/
def pcieCode : PcieError → Nat
  | .unsupportedRequest => 0x0D07
  | .completerAbort => 0x0D08
  | .poisoned => 0x0D09
  | .timeout => 0x0D0A

/-- What a PLANE ticket shows of R136 and R137 itself. -/
def Dev.planeShown (d : Dev) (p : Page) (e : Entry) : Bool :=
  let n := tf e 162 160
  if tf e 163 163 = 1 then
    tf e 511 448 == 0 && tf e 447 432 == 0 && tf e 431 400 == 0 && tf e 168 164 == 0 && tf e 399 368 != 0
  else
    tf e 511 448 % 16 == 0 && 1 ≤ tf e 447 432 && tf e 447 432 ≤ 4096 && d.lineBytes n p.bpp ≤ tf e 431 400
      && tf e 399 368 != 0

/-- The code with which a PLANE ticket is refused (R133, R144). -/
def Dev.planeRefusal (d : Dev) (e : Entry) : Option Nat :=
  let n := tf e 162 160
  let first := tf e 367 336
  let count := tf e 399 368
  if d.jobs.closed.contains (tJob e) then some 0x0E04
  else
    match d.pageJ (tJob e) (tf e 159 128) with
    | none => some 0x0E07
    | some p =>
      -- that a TESTPAGE page takes no PLANE ticket with 0x0E07 is the model's choice (log entry 69)
      if p.state.terminal ∨ p.test then some 0x0E07
      else if !bit p.mask n then some 0x0E08
      else if p.lines < first + count
          ∨ p.spans.any (fun s => s.stn == n && first < s.first + s.count && s.first < first + count)
          ∨ first < (p.stn.at n).top ∨ (p.stn.at n).ahead.contains first then some 0x0E0E
      else if !d.planeShown p e then some 0x0E0F
      else if tf e 163 163 = 0 ∧ !(d.has .dma (tf e 168 164) && d.cfgB .dma (tf e 168 164) .TICKET_USE) then some 0x0E10
      else none

/-- A channel starts with a full bucket (R191). -/
def Dev.chanStart (c : Nat) (d : Dev) : Dev :=
  if (d.plane.ch.at c).jobs.isEmpty then
    d.updChan c (fun x => { x with
      tokens := d.cfgN .dma c .BURST_KIB * 1024 * 8192000, refillAt := d.clk.now, dry := false })
  else d

/-- An accepted PLANE ticket: a blank span completes at once (R166), image data go to the channel (R182). -/
def Dev.plane1 (k : Tkt) (d : Dev) : Dev :=
  let e := k.entry
  match d.planeRefusal e, d.pageJ (tJob e) (tf e 159 128) with
  | some code, _ => d.post k.slot true 1 code 0 0xF (tf e 159 128) 0 0
  | none, none => d.post k.slot true 1 0x0E07 0 0xF (tf e 159 128) 0 0
  | none, some p =>
    let blank : Bool := tf e 163 163 == 1
    let c := tf e 168 164
    let span : Span :=
      { stn := tf e 162 160, first := tf e 367 336, count := tf e 399 368, blank := blank, slot := k.slot, ch := c }
    let d := d.setPage { p with spans := p.spans ++ [span] }
    if blank then d.post k.slot true 0 0 0 0xF p.id 0 0
    else
      let j : PlaneJob :=
        { slot := k.slot, job := p.job, page := p.id, ord := p.order, stn := span.stn, sgAddr := tf e 511 448
          sgCount := tf e 447 432, lineBytes := tf e 431 400, lineCount := span.count, firstLine := span.first }
      ((d.chanStart c).updChan c (fun x => { x with jobs := x.jobs ++ [j] })).chanRun c

/-- PLANE: a PLANE ticket starts (R136, R144, R166, R182). -/
def actPlane (t : Nat) (d : Dev) : Dev := (d.enter t 7).ticket 0x03 (fun k d => d.plane1 k)

/-- PLANE (R144). -/
def execPlane (t : Nat) (s : State) : Host.Outcome State Fault Refusal := .next { s with dev := actPlane t s.dev }

/-- The scatter list is inconsistent: the ticket ends as failed with 0x0E0F and its remaining descriptors are skipped
(R137). -/
def Dev.failList (c slot : Nat) (d : Dev) : Dev :=
  (d.updJob c slot (fun j => { j with complete := true, reason := 0x0E0F })).updChan c (fun x =>
    { x with
      sg := []
      store := x.store.map (fun y =>
        if y.slot == slot && y.status == 0 && y.reason == 0 then
          if y.issued == 0 then { y with status := 3, reason := 0x0D0C } else { y with reason := 0x0D0C }
        else y) })

/-- Entries of a list that keep to R137: none empty, reserved bits 0, their sum from `sum` on within `total`. -/
def listOk (total : Nat) : Nat → List SgEntry → Bool
  | _, [] => true
  | sum, e :: es => e.len != 0 && e.reserved == 0 && sum + e.len.toNat ≤ total && listOk total (sum + e.len.toNat) es

/-- Bytes of a piece. -/
def listSum (es : List SgEntry) : Nat := es.foldl (fun a e => a + e.len.toNat) 0

/-- SCATTER_FETCH_DONE: the piece asked for arrives and is split, or the list is found inconsistent (R137, R183). -/
def actScatterFetchDone (t c : Nat) (es : List SgEntry) (d : Dev) : Dev :=
  let d := d.enter t 7
  match (d.plane.ch.at c).active with
  | none => d
  | some j =>
    if j.asked = j.fetched ∨ es.length ≠ j.asked - j.fetched then d
    else
      let total := j.lineBytes * j.lineCount
      let sum := j.listed + listSum es
      let d := d.updJob c j.slot (fun j => { j with fetched := j.asked, listed := sum })
      if !listOk total j.listed es ∨ (j.asked = j.sgCount ∧ sum < total) then (d.failList c j.slot).chanRun c
      else (d.updChan c (fun x => { x with sg := es })).chanRun c

/-- SCATTER_FETCH_DONE (R183). -/
def execScatterFetchDone (t : Nat) (ch : Fin 32) (entries : List SgEntry) (s : State) :
    Host.Outcome State Fault Refusal :=
  .next { s with dev := actScatterFetchDone t ch.val entries s.dev }

/-- SCATTER_FETCH_FAIL: every line of the entries asked for never arrives, and the channel goes on with the next piece
(R193). How many bytes the entries of a lost piece name is open, unless it is the last (log entry 11). -/
def actScatterFetchFail (t c : Nat) (d : Dev) : Dev :=
  let d := d.enter t 7
  match (d.plane.ch.at c).active with
  | none => d
  | some j =>
    if j.asked = j.fetched then d
    else
      let total := j.lineBytes * j.lineCount
      let low := j.asked - j.fetched
      let high := total - j.listed - (j.sgCount - j.asked)
      let last := j.asked == j.sgCount
      let n := if last then total - j.listed else low + d.freeVal % (high - low + 1)
      let d := if last then d else d.freeNext
      let d := (d.report (uid cDMA c) 0x0D10).updJob c j.slot (fun j =>
        { j with
          fetched := j.asked, listed := j.listed + n, offset := j.offset + n, complete := last
          reason := if j.reason = 0 then 0x0D10 else j.reason })
      let r := (j.ord, j.stn, j.firstLine + j.offset / j.lineBytes, j.firstLine + (j.offset + n - 1) / j.lineBytes)
      let d := { d with plane := { d.plane with never := r :: d.plane.never } }
      if high < low then (d.failList c j.slot).chanRun c else d.chanRun c

/-- SCATTER_FETCH_FAIL (R193). -/
def execScatterFetchFail (t : Nat) (ch : Fin 32) (s : State) : Host.Outcome State Fault Refusal :=
  .next { s with dev := actScatterFetchFail t ch.val s.dev }

/-- The oldest descriptor with bytes still to be read. -/
def Dev.nextRead (d : Dev) (c : Nat) : Option Desc :=
  (d.plane.ch.at c).store.find? (fun x => x.status == 0 && x.reason == 0 && x.issued < x.len && !d.late x.ord x.stn x.line)

/-- Bytes of the next read of a descriptor: at most 4 KiB, within a 4 KiB page of host memory (R185). -/
def Desc.readLen (x : Desc) : Nat := min (x.len - x.issued) (4096 - (x.src + x.issued) % 4096)

/-- The tags of the outstanding reads of every channel. -/
def Plane.tags (p : Plane) : List Nat := p.ch.flatMap (fun c => c.2.reads.map (·.1))

/-- The next of the 16,384 read tags that no outstanding read holds, if there is tag space (R189). -/
def Plane.freeTag (p : Plane) : Option Nat :=
  if 16384 ≤ p.tags.length then none
  else ((upTo (p.tags.length + 1)).map (fun i => (p.tag + i) % 16384)).find? (fun g => !p.tags.contains g)

/-- A metered channel lacks the tokens for its next read (R190). -/
def Dev.lacksTokens (d : Dev) (c : Nat) (x : Desc) : Bool :=
  d.cfgB .dma c .METERED && (d.plane.ch.at c).tokens < x.readLen * 8192000

/-- A channel can use a request slot: it has bytes to read and requests left, and tokens where it is metered (R184,
R189). -/
def Dev.wantsSlot (d : Dev) (c : Nat) : Bool :=
  match d.nextRead c with
  | some x => (d.plane.ch.at c).reads.length < d.cfgN .dma c .MAX_READS && !d.lacksTokens c x
  | none => false

/-- The request slots go round the channels that can use one; a channel that cannot keeps its place (R189, R191; log
entry 76). -/
def Dev.slotOf (d : Dev) : Option Nat := d.plane.slots.find? d.wantsSlot

/-- A channel issues its next read request, or waits for tokens (R190, R191), for its turn at the request slots (R189) or
for tag space (R184, R189). -/
def Dev.issueRead (c : Nat) (x : Desc) (d : Dev) : Dev :=
  let q := d.plane.ch.at c
  let n := x.readLen
  let metered := d.cfgB .dma c .METERED
  if d.cfgN .dma c .MAX_READS ≤ q.reads.length then d
  else if d.lacksTokens c x then (d.updChan c (fun q => { q with dry := true })).chanState c
  else
    match if d.slotOf = some c then d.plane.freeTag else none with
    | none => d
    | some g =>
    let d := { d with plane := { d.plane with
      tag := (g + 1) % 16384, slots := d.plane.slots.filter (· != c) ++ [c] } }
    let d := d.updChan c (fun q => { q with
      dry := false, tokens := if metered then q.tokens - n * 8192000 else q.tokens
      reads := q.reads ++ [(g, x.id, n, x.issued)]
      store := q.store.map (fun y => if y.id == x.id then { y with issued := y.issued + n } else y) })
    (d.emit (.pcieRead (x.src + x.issued) n)).chanState c

/-- DMA_READ_ISSUE (R184, R185, R189, R190). -/
def actDmaReadIssue (t c : Nat) (d : Dev) : Dev :=
  let d := (d.enter t 7).chanRun c
  match d.nextRead c with
  | some x => d.issueRead c x
  | none => d

/-- DMA_READ_ISSUE (R189). -/
def execDmaReadIssue (t : Nat) (ch : Fin 32) (s : State) : Host.Outcome State Fault Refusal :=
  .next { s with dev := actDmaReadIssue t ch.val s.dev }

/-- TOKEN_REFILL: SHARE / 256 of B_ref, the link rate in MT/s x width / 8 bytes, up to BURST_KIB (R190, R191). -/
def actTokenRefill (t c mtPerS width : Nat) (d : Dev) : Dev :=
  let d := d.enter t 7
  if !d.cfgB .dma c .METERED ∨ (d.plane.ch.at c).jobs.isEmpty then d
  else
    let cap := d.cfgN .dma c .BURST_KIB * 1024 * 8192000
    let d := d.updChan c (fun x => { x with
      tokens := min cap (x.tokens + (d.clk.now - x.refillAt) * mtPerS * width * d.cfgN .dma c .SHARE)
      refillAt := d.clk.now })
    match d.nextRead c with
    | some x =>
      (d.updChan c (fun q => { q with dry := q.dry && q.tokens < x.readLen * 8192000 })).chanState c
    | none => (d.updChan c (fun q => { q with dry := false })).chanState c

/-- TOKEN_REFILL (R190). -/
def execTokenRefill (t : Nat) (ch : Fin 32) (mtPerS width : Nat) (s : State) : Host.Outcome State Fault Refusal :=
  .next { s with dev := actTokenRefill t ch.val mtPerS width s.dev }

/-- A read is answered: with its bytes, or with a reason that marks its descriptor BAD (R192). One that is not
outstanding, as after its timeout, is discarded. -/
def Dev.readOver (c tag : Nat) (r : ReadResult) (d : Dev) : Dev :=
  match (d.plane.ch.at c).reads.find? (fun q => q.1 == tag) with
  | none => d
  | some (_, id, n, off) =>
    let put (f : Desc → Desc) (d : Dev) : Dev :=
      (d.updChan c (fun q => { q with
        reads := q.reads.filter (fun r => r.1 != tag)
        store := q.store.map (fun y => if y.id == id then f y else y) })).chanRun c
    match r with
    | .data bs => if bs.length = n then d |> put (fun y => { y with pieces := y.pieces.set off bs }) else d
    | .error why => d |> put (fun y => { y with reason := if y.reason = 0 then pcieCode why else y.reason })

/-- DMA_READ_COMPLETION (R185, R187, R188, R192, R195). -/
def actDmaReadCompletion (t c tag : Nat) (r : ReadResult) (d : Dev) : Dev := (d.enter t 7).readOver c tag r

/-- DMA_READ_COMPLETION (R192). -/
def execDmaReadCompletion (t : Nat) (ch : Fin 32) (tag : BitVec 14) (r : ReadResult) (s : State) :
    Host.Outcome State Fault Refusal :=
  .next { s with dev := actDmaReadCompletion t ch.val tag.toNat r s.dev }

/-- DMA_READ_TIMEOUT (R192). -/
def actDmaReadTimeout (t c tag : Nat) (d : Dev) : Dev := (d.enter t 7).readOver c tag (.error .timeout)

/-- DMA_READ_TIMEOUT (R192). -/
def execDmaReadTimeout (t : Nat) (ch : Fin 32) (tag : BitVec 14) (s : State) : Host.Outcome State Fault Refusal :=
  .next { s with dev := actDmaReadTimeout t ch.val tag.toNat s.dev }

/-- The allocation that has waited longest for a bank, a tie to the lower station (R167). -/
def Dev.firstWait (d : Dev) (k : Nat) : Option (Nat × Nat × Nat × Nat) :=
  (d.plane.waiting.filter (fun w => w.2.2.1 == k)).foldl
    (fun a w =>
      match a with
      | none => some w
      | some v => if w.1 < v.1 ∨ (w.1 = v.1 ∧ w.2.1 < v.2.1) then some w else some v) none

/-- The band of a group of lines is there: every channel that waited for it goes on (R171). -/
def Dev.bandHere (ord n group : Nat) (d : Dev) : Dev :=
  ((d.plane.ch.filter (fun c => c.2.awaits ord n group)).map (·.1)).foldl
    (fun d c => (d.updChan c (fun x => { x with waitBand := none })).chanRun c) d

/-- BAND_GRANT: a free band of the bank goes to the allocation that has waited longest (R167, R171). -/
def actBandGrant (t k : Nat) (d : Dev) : Dev :=
  let d := d.enter t 7
  match d.firstWait k, d.freeOf k with
  | some w, some b =>
    let c := w.2.2.2
    match (d.plane.ch.at c).active, (d.plane.ch.at c).waitBand with
    | some j, some (_, group) =>
      let d := { d with plane := { d.plane with waiting := d.plane.waiting.filter (· != w) } }
      let d := d.takeBand k b { stn := j.stn, job := j.job, page := j.page, ord := j.ord, group := group }
      d.bandHere j.ord j.stn group
    | _, _ => d
  | _, _ => d

/-- BAND_GRANT (R167). -/
def execBandGrant (t : Nat) (bank : Fin 32) (s : State) : Host.Outcome State Fault Refusal :=
  .next { s with dev := actBandGrant t bank.val s.dev }

/-- Every line of a band has been fired, blanked or skipped at its station (R170, R254). -/
def Dev.bandUsed (d : Dev) (o : BandOwner) : Bool :=
  match d.page? o.ord with
  | none => true
  | some p =>
    d.pageDead o.ord
      || min p.lines ((o.group + 1) * d.bandLines o.stn p.bpp) + d.lMax o.stn ≤ (p.stn.at o.stn).done

/-- BAND_RETURN: a used band that no descriptor in flight writes returns to its free list (R170); the return of a band
that is free already is rejected with 0x0D0D and its address (R173). -/
def actBandReturn (t k b : Nat) (d : Dev) : Dev :=
  let d := d.enter t 7
  match d.plane.bands.get? (k * 256 + b) with
  | none =>
    let d := d.report (uid cBANK k) 0x0D0D none (k * 16777216 + b * 65536)
    { d with plane := { d.plane with conserve := 8 :: d.plane.conserve } }
  | some o => if d.bandUsed o ∧ !d.bandBusy (k * 256 + b) ∧ !o.withdrawn then d.freeBand (k * 256 + b) else d

/-- BAND_RETURN (R170). -/
def execBandReturn (t : Nat) (bank : Fin 32) (band : Fin 256) (s : State) : Host.Outcome State Fault Refusal :=
  .next { s with dev := actBandReturn t bank.val band.val s.dev }

end Sys2Proof.Machine
end

