-- ==== Sys2Proof/Machine/Engage.lean ====
section
/-! DEFINITION. Engagement: the request (R96 to R98, R571), the gauntlet's end (R100, R101, R105, R109), and the stop of
R104. -/

namespace Sys2Proof.Machine

/-- The reason that refuses an engage request by temperature (R571). -/
def Dev.tempRefusal (d : Dev) : Option Nat :=
  if 1050 ≤ d.temp.now then some 0x0C08
  else if d.ust uTEMP = .fault then some (d.us uTEMP).reason.toNat
  else none

/-- An engage request is taken: it waits for settled time, or the gauntlet begins (R98, R103). -/
def Dev.beginEngage (d : Dev) : Dev :=
  let d := d.calRevert.linkPrepare
  let wait := d.cfgB .startup 0 .REQUIRE_TIME && !d.timeSettled
  { d with eng := { d.eng with
      before := (d.eng.st, d.eng.firstUnit, d.eng.firstReason), requestAt := d.clk.now
      gauntletAt := d.clk.now, st := if wait then .waitTime else .gauntlet } }

/-- An engage request (R97, R98, R571); one while the device is engaged or stops is ignored (R96). -/
def Dev.requestEngage (d : Dev) : Dev :=
  if !d.pins.ready then d.refuseEngage 0x1101
  else
    match d.eng.st with
    | .waitTime => d.report uNODE 0x1102
    | .gauntlet => d.report uNODE 0x1102
    | .engaged => d
    | .disengaging => d
    | .idle => match d.tempRefusal with | some c => d.refuseEngage c | none => d.beginEngage
    | .refused => match d.tempRefusal with | some c => d.refuseEngage c | none => d.beginEngage

/-- ENGAGE_SRC (R96, R110). -/
def Dev.engageSrc (d : Dev) : Nat := d.cfgN .startup 0 .ENGAGE_SRC

/-- With ENGAGE_SRC 3 a latched ring is an engage request once the pin is high on a bank that is up (R78, R96). -/
def Dev.latchedRequest (d : Dev) : Dev :=
  if d.engageSrc = 3 ∧ d.eng.latch ∧ d.pins.engage ∧ d.bankUp .control then
    ({ d with eng := { d.eng with latch := false } }).requestEngage
  else d

/-- The doorbell is rung (R96): with ENGAGE_SRC 2 it engages nothing, with 3 it is latched until the pin is high. -/
def Dev.ringDoorbell (d : Dev) : Dev :=
  if d.engageSrc = 2 then d
  else if d.engageSrc < 2 then d.requestEngage
  else if d.eng.st = .engaged then d
  else ({ d with eng := { d.eng with latch := true } }).latchedRequest

/-- ENGAGE_DOORBELL: a write of ENGAGE_CTL bit 0 (R96, R115). -/
def actEngageDoorbell (t : Nat) (d : Dev) : Dev := (d.enter t 7).ringDoorbell

/-- ENGAGE_DOORBELL (R96). -/
def execEngageDoorbell (t : Nat) (s : State) : Host.Outcome State Fault Refusal :=
  .next { s with dev := actEngageDoorbell t s.dev }

/-- DISENGAGE: a write of ENGAGE_CTL bit 1 (R96, R151). -/
def actDisengage (t : Nat) (d : Dev) : Dev := (d.enter t 5).disengage

/-- DISENGAGE (R151). -/
def execDisengage (t : Nat) (s : State) : Host.Outcome State Fault Refusal :=
  .next { s with dev := actDisengage t s.dev }

/-- ENGAGE_PIN_RISE: once the pin's bank is up (R77, R78), with ENGAGE_SRC 0 and 2 an engage request, with 3 one where the doorbell is latched (R96). -/
def actEngagePinRise (t : Nat) (d : Dev) : Dev :=
  let d := d.enter t 7
  let d := { d with pins := { d.pins with engage := true } }
  if !d.bankUp .control then d
  else if d.engageSrc == 0 || d.engageSrc == 2 then d.requestEngage
  else d.latchedRequest

/-- ENGAGE_PIN_RISE (R96). -/
def execEngagePinRise (t : Nat) (s : State) : Host.Outcome State Fault Refusal :=
  .next { s with dev := actEngagePinRise t s.dev }

/-- ENGAGE_PIN_FALL: once the pin's bank is up (R78), DISENGAGE but with ENGAGE_SRC 1; the latch clears (R96). -/
def actEngagePinFall (t : Nat) (d : Dev) : Dev :=
  let d := d.enter t 5
  let d := { d with pins := { d.pins with engage := false } }
  if !d.bankUp .control then d
  else
    let d := { d with eng := { d.eng with latch := false } }
    if d.engageSrc == 1 then d else d.disengage

/-- ENGAGE_PIN_FALL (R96). -/
def execEngagePinFall (t : Nat) (s : State) : Host.Outcome State Fault Refusal :=
  .next { s with dev := actEngagePinFall t s.dev }

/-- IO_BANK_SUPPLY_GOOD: after release SPINE applies the bank's reset state and its pins leave high impedance (R78). A
FENCE_N that is low and an ENGAGE pin that a latched ring waits for act from then on; a level that is high already is no
rise (log entry 96). -/
def actIoBankSupplyGood (t : Nat) (b : IoBank) (d : Dev) : Dev :=
  let d := d.enter t 7
  let was := d.bankUp .control
  let d := { d with pins := { d.pins with
      supply := d.pins.supply ||| bankMask b
      banks := if d.boot.stage = .unpowered then d.pins.banks else d.pins.banks ||| bankMask b } }
  if was || !d.bankUp .control then d else d.fencedAtReset.latchedRequest

/-- IO_BANK_SUPPLY_GOOD (R78). -/
def execIoBankSupplyGood (t : Nat) (b : IoBank) (s : State) : Host.Outcome State Fault Refusal :=
  .next { s with dev := actIoBankSupplyGood t b s.dev }

/-- TIME_WAIT_TIMEOUT: TIME_WAIT_S after the request without settled time refuses it with 0x1103 (R98); with settled time
the gauntlet runs. -/
def actTimeWaitTimeout (t : Nat) (d : Dev) : Dev :=
  let d := d.enter t 7
  if d.eng.st ≠ .waitTime then d
  else if d.timeSettled then d.timeGauntlet
  else if d.clk.now < d.eng.requestAt + msq (1000 * d.cfgN .startup 0 .TIME_WAIT_S) then d
  else d.refuseEngage 0x1103

/-- TIME_WAIT_TIMEOUT (R98). -/
def execTimeWaitTimeout (t : Nat) (s : State) : Host.Outcome State Fault Refusal :=
  .next { s with dev := actTimeWaitTimeout t s.dev }

/-- The state that a port, PLL, clock output or domain has of its own accord (R551, R593, R613). -/
def Dev.ownState (d : Dev) (u : Nat) : UState :=
  let c := uclass u
  let i := uindex u
  if c = cDOMAIN then (if (d.dom.at i).on ∧ (d.dom.at i).good then .run else .off)
  else if c = cPLL then (if !(d.pll.at i).everLocked then .idle else if (d.pll.at i).hold then .hold else .run)
  else if c = cCLKO then (if (d.clko.at i).run then .run else .idle)
  else if (d.fab.ports.at i).up then .run
  else if (d.fab.ports.at i).training then .idle
  else .hold

/-- The state a unit takes at engagement (R100, R199, R242, R286, R357, R398, R469, R494, R531): stations and lanes ARMED,
a DMA channel IDLE until it transfers; ports, PLLs, clock outputs and domains keep their own, to which they return from an
acknowledged FAULT (R128); TEMP and mittens keep theirs. -/
def Dev.engageState (d : Dev) (u : Nat) : Option UState :=
  let c := uclass u
  if c = cSTN then some .armed
  else if c = cLANE then (if d.laneReady (uindex u) ∨ (d.ust u == .fault && (d.lane.at (uindex u)).up) then some .armed else none)
  else if c = cDMA then some .idle
  else if c = cTEMP ∨ c = cMITTEN then none
  else if c = cXPORT ∨ c = cPLL ∨ c = cCLKO ∨ c = cDOMAIN then
    if d.ust u == .fault then some (d.ownState u) else none
  else some .run

/-- Every enabled unit takes its state at engagement. -/
def Dev.unitsEngage (d : Dev) : Dev :=
  d.unitsOn.foldl
    (fun d u =>
      match d.engageState u with
      | some st => if d.staysFault u then d else d.setSt u st
      | none => d) d

/-- Encoders count from 0 (R241). -/
def Dev.encEngage (d : Dev) : Dev :=
  { d with enc := d.enc.map (fun e => (e.1, { e.2 with count := 0, z := e.2.z.map (· - e.2.count), past := [] })) }

/-- Counters are cleared (R199, R241 and the chapters after them); times in a state count from now. -/
def Dev.ctrEngage (d : Dev) : Dev :=
  { d with
    ctr := []
    pll := d.pll.map (fun p => (p.1, { p.2 with since := d.clk.now }))
    dom := d.dom.map (fun p => (p.1, { p.2 with since := d.clk.now, onTotal := 0 }))
    plane := { d.plane with ch := d.plane.ch.map (fun c => (c.1, { c.2 with holdAt := none })) } }

/-- A page that a stop at once left in MARKING or MARKED ends (R104, R142). -/
def Dev.pagesEngage (d : Dev) : Dev :=
  (d.jobs.pages.filter (fun p => p.state == .marking || p.state == .marked)).foldl
    (fun d p => d.endRest p.order) d

/-- Plane memory at engagement: every free list is rebuilt, and no channel waits for a band (R174). -/
def Dev.planeEngage (d : Dev) : Dev :=
  { d with plane := { d.plane with
      bands := [], turn := [], waiting := [], lines := [], never := [], conserve := []
      ch := d.plane.ch.map (fun c => (c.1, { c.2 with waitBand := none })) } }

/-- The SESSION_ID of an engagement (R380): bits [47:16] of device time in ns, plus 1 if the previous session had it. A
twin that is not active takes the one that section 1 of the lining gives it, before any ordered frame leaves. -/
def Dev.newSession (d : Dev) : Word :=
  let v := BitVec.ofNat 32 (bits d.stamp 47 16)
  if !d.isActive then d.eng.session else if d.eng.hadSession ∧ v = d.eng.session then v + 1 else v

/-- Each lane of a jet station whose executor reports later than R296 allows gives 0x070B. -/
def Dev.reportSlow (d : Dev) : Dev :=
  ((upTo 8).filter d.isJet).foldl
    (fun d n =>
      (d.lanesOf n).foldl
        (fun d l =>
          match (d.lane.at l).hello with
          | some h =>
            let cuff := if (d.lane.at l).low then 5820 else 3710
            d.reportIf (400000000000 < (100 * h.reportNs.toNat + cuff + d.leadEff l + 250000) * d.cfgN .stnJet n .LINE_RATE_MAX)
              (uid cLANE l) 0x070B
          | none => d) d) d

/-- The drives at engagement: each axis and stepper not held in FAULT (R100). -/
def Dev.drivesEngage (d : Dev) : Dev :=
  let d := ((upTo 24).filter (fun a => d.has .axis a && !d.staysFault (uid cAXIS a))).foldl (fun d a => d.axisEngage a) d
  ((upTo 16).filter (fun i => d.has .step i && !d.staysFault (uid cSTEP i))).foldl (fun d i => d.stepEngage i) d

/-- An unlined twin holds its field outputs in their safe states (R634). -/
def Dev.holdUnlined (d : Dev) : Dev := if d.isTwin && d.twin.role == .unlined then d.outputsSafe else d

/-- The gauntlet passes: the session starts (R100, R380), and a web station waits for a real edge (R215). An unlined twin holds its outputs safe (R634). -/
def Dev.engageNow (d : Dev) : Dev :=
  let d := d.pagesEngage.ctrEngage.planeEngage.encEngage
  let d := { d with
    eng := { d.eng with
      st := .engaged, session := d.newSession, hadSession := true, stopReason := 0, rundownAt := none, stopAtBrim := false
      sessionNew := false, sessionWait := !d.isActive && !d.eng.sessionNew }
    clk := { d.clk with adjBase := d.clk.adj, far := false } }
  let d := d.positionEngage.nozzleEngage.scanEngage
  let d := ((upTo 8).filter d.isJet).foldl (fun d n => d.spitBrim n) d
  let d := d.processEngage.drivesEngage.unitsEngage
  let d := (d.stations.foldl (fun d n => d.webWait n) d).holdUnlined
  ((d.linkEngage.startClko).reportSlow).delta d.engEntry

/-- A finding is reported on its unit, where that is a unit of this node (R105). -/
def Dev.reportFinding (f : Finding) (d : Dev) : Dev :=
  d.report (if f.unit / 65536 = d.node then f.unit % 65536 else uNODE) f.code none f.detail

/-- The gauntlet's report: at most 64 entries, and the first finding (R103, R109). -/
def Dev.fillReport (fs : List Finding) (d : Dev) : Dev :=
  let first := fs.headD { check := 0, code := 0, unit := 0 }
  { d with eng := { d.eng with
      report := (fs.take 64).map Finding.entry, count := min 64 fs.length, trunc := 64 < fs.length
      firstUnit := BitVec.ofNat 32 first.unit, firstReason := BitVec.ofNat 16 first.code } }

/-- The gauntlet ends with its findings (R100, R101, R105). -/
def Dev.endGauntlet (fs : List Finding) (d : Dev) : Dev :=
  let d := d.fillReport fs
  let d := (fs.filter (fun f => !(kindOf f.code).refuses)).foldl (fun d f => d.reportFinding f) d
  if fs.any (fun f => (kindOf f.code).refuses) then
    ({ d with eng := { d.eng with st := .refused } }).report uNODE d.eng.firstReason.toNat
  else d.engageNow

/-- Check 11 waits for no lane any more: each has trained with a HELLO, or LIVE_WAIT_MS has passed since the gauntlet began
(R105, R107). -/
def Dev.liveWaited (d : Dev) : Bool :=
  d.eng.gauntletAt + msq (d.cfgN .startup 0 .LIVE_WAIT_MS) ≤ d.clk.now
    || ((upTo 256).filter (d.has .lane)).all (fun l => (d.lane.at l).up && (d.lane.at l).hello.isSome)

/-- GAUNTLET_DONE: the checks have run on a held request; `badInputs` are the units whose inputs show an open or a short
(R105). While check 11 still waits for a lane they have not. -/
def actGauntletDone (t : Nat) (bad : List Nat) (d : Dev) : Dev :=
  let d := (d.enter t 7).timeGauntlet
  if d.eng.st = .gauntlet ∧ d.liveWaited then
    match d.tempRefusal with
    | some c => d.refuseEngage c
    | none => d.endGauntlet (d.gauntlet bad)
  else d

/-- GAUNTLET_DONE (R105). -/
def execGauntletDone (t : Nat) (badInputs : List Half) (s : State) : Host.Outcome State Fault Refusal :=
  .next { s with dev := actGauntletDone t (badInputs.map (·.toNat)) s.dev }

/-- RUNDOWN_START: with no page ARMED, MARKING or MARKED, the drives of a stop run down (R104 step 2), and calibration values that
wait take effect (R415). -/
def actRundownStart (t : Nat) (d : Dev) : Dev :=
  let d := d.enter t 7
  if d.eng.st ≠ .disengaging ∨ d.eng.rundownAt.isSome
      ∨ d.jobs.pages.any (fun p => p.state == .armed || p.state == .marking || p.state == .marked) then d
  else
    let d := { d with eng := { d.eng with rundownAt := some d.clk.now } }
    let d := ((upTo 24).filter (d.has .axis)).foldl (fun d a => d.updAxis a (fun x => { x with ramp := true })) d
    d.calStop.tryEndStop

/-- RUNDOWN_START (R104). -/
def execRundownStart (t : Nat) (s : State) : Host.Outcome State Fault Refusal :=
  .next { s with dev := actRundownStart t s.dev }

/-- An axis or stepper takes its safe state in a stop, and each loop that drives it goes to SAFE_OUT (R104 step 3). -/
def Dev.restSafe (u : Nat) (d : Dev) : Dev :=
  let d := if uclass u = cAXIS then d.axisSafe (uindex u) else d.stepSafe (uindex u)
  let kind := if uclass u = cAXIS then 3 else 5
  ((upTo 64).filter (fun i => d.loopDrives i kind (uindex u))).foldl (fun d i => d.loopSafe i) d

/-- An axis has stayed within SPEED_TOL_RPM for 10 ms, or a profile has come to v = 0 (R104 step 3). -/
def Dev.atRest (d : Dev) (u : Nat) : Bool :=
  let i := uindex u
  if uclass u = cAXIS then
    (match (d.axis.at i).restAt with | some a => decide (a + msq 10 ≤ d.clk.now) | none => false)
      || (d.cfgN .axis i .MODE == 2 && (d.prof.at u).v == 0)
  else (d.prof.at u).v == 0

/-- A drive of the stop that has not taken its safe state. -/
def Dev.runsDown (d : Dev) (u : Nat) : Bool :=
  if uclass u = cAXIS then d.has .axis (uindex u) && !(d.axis.at (uindex u)).safe
  else uclass u == cSTEP && d.has .step (uindex u) && !(d.step.at (uindex u)).safe

/-- AXIS_REST: an axis or stepper is at rest in a stop (R104 steps 3 and 4). -/
def actAxisRest (t u : Nat) (d : Dev) : Dev :=
  let d := d.enter t 7
  if d.eng.st ≠ .disengaging ∨ d.eng.rundownAt.isNone then d
  else (if d.runsDown u ∧ d.atRest u then d.restSafe u else d).tryEndStop

/-- AXIS_REST (R104). -/
def execAxisRest (t : Nat) (unit : Half) (s : State) : Host.Outcome State Fault Refusal :=
  .next { s with dev := actAxisRest t unit.toNat s.dev }

/-- STOP_TIMEOUT: STOP_MAX_MS after step 2 the drives still moving take their safe states, each with 0x111A (R104). -/
def actStopTimeout (t : Nat) (d : Dev) : Dev :=
  let d := d.enter t 7
  match d.eng.rundownAt with
  | none => d
  | some a =>
    if d.eng.st ≠ .disengaging ∨ d.clk.now < a + msq (d.cfgN .startup 0 .STOP_MAX_MS) then d
    else
      (((upTo 24).map (uid cAXIS) ++ (upTo 16).map (uid cSTEP)).foldl
        (fun d u => if d.runsDown u then (d.restSafe u).report u 0x111A else d) d).tryEndStop

/-- STOP_TIMEOUT (R104). -/
def execStopTimeout (t : Nat) (s : State) : Host.Outcome State Fault Refusal :=
  .next { s with dev := actStopTimeout t s.dev }

end Sys2Proof.Machine
end

