-- ==== Sys2Proof/Machine/Twins.lean ====
section
/-! DEFINITION. Twins and referees (R93, R628 to R657): heartbeats, leases, fences and grants, swaps, and the lining of a
standby. -/

namespace Sys2Proof.Machine

/-- A swap ends: the ticket or the pin that asked for it, and a stop it puts off (R573, R654, R655). -/
def Dev.swapEnd (good : Bool) (d : Dev) : Dev :=
  match d.twin.swap with
  | none => d
  | some s =>
    let d := ({ d with twin := { d.twin with swap := none } }).report uNODE (if good then 0x100E else 0x100D)
    let d := match s with
      | some slot => if good then d.finish slot 0 0 else d.finish slot 1 0x100D
      | none => d
    if good then { d with temp := { d.temp with swapAt := none } } else d.thermalSwapFails

/-- A standby that follows meets R649: a full snapshot is applied, and each station that marks has sent since. -/
def Dev.linedNow (d : Dev) : Bool :=
  d.twin.role == .unlined && d.twin.snapped
    && d.stations.all (fun n => (d.marking n).isNone || d.twin.sentSince.contains n)

/-- A unit drives in this session: engaged, and neither in FAULT nor FENCED. -/
def Dev.drives (d : Dev) (u : Nat) : Bool :=
  d.eng.st == .engaged && d.ust u != .fault && d.ust u != .fenced

/-- A twin that is lined drives its actuators with the duties that the lining gave it (R530, R634). -/
def Dev.mirrorActs (d : Dev) : Dev :=
  ((upTo 32).filter (fun i => d.has .act i && d.drives (uid cACT i))).foldl
    (fun d i => match (d.act.at i).mirror with | some v => d.actTo i v | none => d) d

/-- STANDBY_LINED is entered with 0x1007; the resynchronisation has ended (R649, R650, R661). -/
def Dev.tryLined (d : Dev) : Dev :=
  if d.linedNow then
    (({ d with twin := { d.twin with role := .lined, resyncAt := none, mirrorAt := d.clk.now, mirrorStale := false } }).mirrorActs.bump
      uNODE .RESYNCS 1).report uNODE 0x1007
  else d

/-- At a grant the new active's drives energise from what the lining gave them (R465, R492, R652). -/
def Dev.driveOwn (d : Dev) : Dev :=
  let d := ((upTo 24).filter (fun a => d.has .axis a && d.drives (uid cAXIS a)
      && !(d.cfgN .axis a .MODE == 4 && !(d.axis.at a).curveOn))).foldl
    (fun d a => d.updAxis a (fun x =>
      { x with on := true, safe := false, onFrom := if x.on then x.onFrom else d.pwmBoundary a })) d
  let d := ((upTo 16).filter (fun i => d.has .step i && d.drives (uid cSTEP i))).foldl
    (fun d i => d.updStep i (fun x =>
      { x with on := true, safe := false, onFrom := if x.on then x.onFrom else d.chopBoundary i })) d
  if d.eng.st == .engaged then (((upTo 64).filter (d.has .loop)).foldl (fun d i => d.drive i) d).driveFree else d

/-- Every section of the lining, in order (R648). -/
def Dev.snapshotEntries (d : Dev) : List LiningEntry :=
  [d.engEntry]
  ++ (d.jobs.pages.filter (fun p => !p.state.terminal)).map
      Page.entry
  ++ d.jobs.isOpen.map (fun x => .job (BitVec.ofNat 32 x.1) (BitVec.ofNat 8 x.2) true)
  ++ (d.jobs.pages.filter (fun p => !p.state.terminal)).flatMap (fun p =>
      p.stn.filterMap (fun x => x.2.le.map (fun le =>
        .binding (BitVec.ofNat 32 p.job) (BitVec.ofNat 32 p.id) (Fin.ofNat 8 x.1) le)))
  ++ d.stations.map d.placeEntry
  ++ ((upTo 256).filter (d.has .lane)).map (fun l => .seq (Fin.ofNat 256 l) (BitVec.ofNat 32 (d.lane.at l).seq))
  ++ d.lane.flatMap (fun x => x.2.noz.filterMap (fun z =>
      if z.2.st = 0 then none
      else some (.nozzle (Fin.ofNat 256 x.1) (BitVec.ofNat 12 z.1) (BitVec.ofNat 2 z.2.st))))
  ++ ((upTo 256).filter d.laneAllOut).flatMap (fun l => (upTo (d.nozzles l)).map (fun m =>
      .nozzle (Fin.ofNat 256 l) (BitVec.ofNat 12 m) 2))
  ++ ((upTo 24).filter (d.has .axis)).map d.axisEntry
  ++ ((upTo 16).filter (d.has .step)).map d.stepEntry
  ++ ((upTo 64).filter (d.has .loop)).map d.loopEntry
  ++ ((upTo 32).filter (d.has .act)).map d.actEntry
  ++ ((upTo 16).filter (d.has .lamp)).map d.lampEntry

/-- Section 7: the generation in effect and its records (R425). -/
def Dev.calEntry (d : Dev) : LiningEntry :=
  .calibration (BitVec.ofNat 32 d.cal.gen) ((if d.cal.applied = 0 then d.cal.recs else d.cal.stored).flatMap Rec.bytes)

/-- The active streams a snapshot, and every change after it (R650 steps 2 and 3). The standby counts as lined, as far as
this twin can know, from here until it asks again or LP goes DOWN. -/
def Dev.streamSnapshot (d : Dev) : Dev :=
  let es := d.snapshotEntries
  let last := d.calEntry
  let d := { d with twin := { d.twin with serving := true, partnerReq := false } }
  let d := (es.foldl (fun d e => d.lineOut false true e) d).lineOut true true last
  { d with twin := { d.twin with partnerLined := true } }

/-- A session that has waited for its SESSION_ID has it: every lane gets its session items, from number 1 on while it has built
no fire event (R376, R380). -/
def Dev.sessionHere (session : Word) (d : Dev) : Dev :=
  let d := { d with eng := { d.eng with session := session, sessionWait := false } }
  ((upTo 256).filter (fun l => d.has .lane l && d.laneReady l)).foldl
    (fun d l => (d.updLane l (fun x => { x with seq := if x.events = 0 then 1 else x.seq })).laneRearm l) d

/-- Section 1 of the lining: the active's SESSION_ID, for the next session or for the one that waits for it (R380). With a
snapshot the active's counters follow it, and nothing is sent again (R377). -/
def Dev.lineSession (snapshot : Bool) (st : Nat) (session : Word) (d : Dev) : Dev :=
  if d.eng.st != .engaged then { d with eng := { d.eng with session := session, sessionNew := st == EngState.engaged.code } }
  else if !d.eng.sessionWait || st != EngState.engaged.code then { d with eng := { d.eng with session := session } }
  else if snapshot then { d with eng := { d.eng with session := session, sessionWait := false } }
  else d.sessionHere session

/-- The role ACTIVE is taken under a grant, by an active twin too (R632, R633, R652, log entry 92): pairing ends where the
partner's identity is known (R93), ACTIVE rises, field outputs follow the own control, and a standby that has asked gets its
snapshot. -/
def Dev.becomeActive (epoch expires : Nat) (d : Dev) : Dev :=
  let d := { d with
    twin := { d.twin with
      role := .active, epoch := epoch, paired := d.twin.paired || d.twin.met, expires := some expires, expired := false, snapped := false
      linSeq := none, resyncAt := none, mirrorStale := false, partnerLined := false, serving := false, outSeq := 1
      unlinedAt := d.clk.now }
    pins := { d.pins with active := true } }
  let d := (((d.report uNODE 0x1003 none epoch).driveOwn).swapEnd true).joinTwin
  let d := if d.eng.sessionWait then (d.sessionHere d.newSession).delta d.engEntry else d
  if d.twin.partnerReq then d.streamSnapshot else d

/-- A fenced twin may ask to rejoin (R647): after a swap or a reset at once, after a failure once its NODE is
acknowledged. -/
def Dev.mayRejoin (d : Dev) : Bool :=
  d.isTwin && d.twin.role == .fenced && (d.twin.fenceKind == some 1 || d.twin.resetFenced || !(d.us uNODE).unacked)

/-- REJOIN_REQ goes to the serving referee (R647). -/
def Dev.askRejoin (d : Dev) : Dev := if d.mayRejoin then d.leaseToRef lREJOIN_REQ 0 else d

/-- The checks of the warden (R636). -/
def Dev.wardenOk (d : Dev) : Bool :=
  d.unitsOn.all (fun u => !(d.ust u == .fault && ((d.us u).reason == 0x0C03 || (d.us u).reason == 0x0C09)))

/-- 1 ms has passed since the warden's latest HEARTBEAT (R636). -/
def Dev.beatDue (d : Dev) : Bool :=
  match d.twin.beatAt with
  | none => true
  | some a => a + 4000000 ≤ d.clk.now

/-- HEARTBEAT_SEND: every 1 ms, while CORE and CTL have completed their watchdog cycles and no unit is in FAULT with 0x0C03
or 0x0C09 (R636). A fenced twin asks to rejoin as often. -/
def actHeartbeatSend (t : Nat) (good : Bool) (d : Dev) : Dev :=
  let d := d.enter t 7
  if !d.isTwin ∨ !good ∨ !d.wardenOk ∨ !d.beatDue then d
  else (({ d with twin := { d.twin with beatAt := some d.clk.now } }).leaseToRef lHEARTBEAT 0).askRejoin

/-- HEARTBEAT_SEND (R636). -/
def execHeartbeatSend (t : Nat) (watchdogsGood : Bool) (s : State) : Host.Outcome State Fault Refusal :=
  .next { s with dev := actHeartbeatSend t watchdogsGood s.dev }

/-- The REFEREE record of a pair, by its lower twin (R660). -/
def Dev.refRec (d : Dev) (lo : Nat) : Option Rec :=
  d.boot.image.recs.find? (fun x => x.typ == RT.referee.code && x.enable && x.addr == lo * 65536)

/-- A field of a REFEREE record. -/
def Dev.refCfg (d : Dev) (lo : Nat) (f : F) : Nat :=
  match d.refRec lo with
  | some x => x.fn .referee f
  | none => 0

/-- The higher twin of a pair; 0xFFFF is the own node (R27, R660). -/
def Dev.pairHi (d : Dev) (lo : Nat) : Nat := d.nodeNamed (d.refCfg lo .PAIR_HI)

/-- The other twin of a pair. -/
def Dev.otherTwin (d : Dev) (lo node : Nat) : Nat := if node = lo then d.pairHi lo else lo

/-- The FENCE_OUT line of a twin (R660). -/
def Dev.fenceLine (d : Dev) (lo node : Nat) : Nat := d.refCfg lo (if node = lo then .FENCE_LO else .FENCE_HI)

/-- A referee's state changed. -/
def Dev.updRef (lo : Nat) (f : Ref → Ref) (d : Dev) : Dev := { d with ref := d.ref.upd lo f }

/-- The latest heartbeat of a twin. -/
def Ref.beat (r : Ref) (lo node : Nat) : Option Beat := if node = lo then r.lo else r.hi

/-- A message from the referee to a twin; without a way over the fabric it goes by the partner (R639). -/
def Dev.toTwin (lo node : Nat) (b : XBody) (d : Dev) : Dev :=
  if (d.fab.portTo node).isSome then d.xsend node b else d.xsend (d.otherTwin lo node) b

/-- A LEASE message from the referee (R640). -/
def Dev.refLease (lo node kind expires : Nat) (d : Dev) : Dev :=
  let r := d.ref.at lo
  d.toTwin lo node (.lease kind false false
    { src := BitVec.ofNat 16 d.node, role := 0, rank := BitVec.ofNat 2 r.rank, pairLo := BitVec.ofNat 16 lo
      epoch := BitVec.ofNat 32 r.epoch, expires := BitVec.ofNat 64 expires, stamp := BitVec.ofNat 64 d.qns })

/-- A twin is fenced: its line is driven low, FENCE is sent, and the readback begins (R641, R646). -/
def Dev.fenceTwin (lo node kind : Nat) (d : Dev) : Dev :=
  let line := d.fenceLine lo node
  let d := { d with pins := { d.pins with fenceOut := d.pins.fenceOut ||| (1#4 <<< line) } }
  let d := (d.updRef lo (fun r => { r with fence := some (node, kind, d.clk.now), lowSince := none, failed := false, stuck := false })).bump
    uNODE .FENCES_ISSUED 1
  d.toTwin lo node (.fence
    { kind := BitVec.ofNat 4 kind, epoch := BitVec.ofNat 32 (d.ref.at lo).epoch, referee := BitVec.ofNat 16 d.node
      line := BitVec.ofNat 2 line })

/-- The next epoch is granted, with a lease of 5 ms (R633, R640, R642, R645). -/
def Dev.grantTo (lo node : Nat) (d : Dev) : Dev :=
  let d := (d.updRef lo (fun r =>
    { r with epoch := r.epoch + 1, holder := some node, fence := none, lowSince := none, swapTo := none })).bump
    uNODE .GRANTS_ISSUED 1
  d.refLease lo node lGRANT (d.qns + nsq 5000000)

/-- The twin that the first grant of a pair goes to (R645). -/
def Dev.firstTwin (d : Dev) (lo : Nat) : Nat := if Config.namesHigher lo then d.pairHi lo else lo

/-- A fence in progress has read back low for 20 us: the partner takes the next epoch where its latest heartbeat allows it,
else 0x100B, once (R642, R645, R657). -/
def Dev.tryGrant (lo : Nat) (d : Dev) : Dev :=
  let r := d.ref.at lo
  match r.fence, r.lowSince with
  | some (victim, _, _), some a =>
    let dst := d.otherTwin lo victim
    let first := r.epoch == 0
    let fit := match r.beat lo dst with
      | some b => b.role == 1 || (first && b.role == 0 && dst == d.firstTwin lo)
      | none => false
    if d.clk.now < a + usq 20 ∨ r.stuck then d
    else if fit then d.grantTo lo dst
    else if r.failed then d
    else (d.updRef lo (fun r => { r with failed := true })).report uNODE 0x100B
  | _, _ => d

/-- Both twins have started anew: their latest heartbeats carry EPOCH 0, so that the next grant is the pair's first (R633,
R645). -/
def Ref.restarted (r : Ref) : Bool :=
  match r.lo, r.hi with
  | some a, some b => 0 < r.epoch && a.epoch == 0 && b.epoch == 0 && a.role == 0 && b.role == 0 && r.fence.isNone
  | _, _ => false

/-- A heartbeat is noted (R637, R641); a referee that has adopted the pair learns the epoch and its holder (R657). -/
def Ref.heard (lo now : Nat) (m : LeaseMsg) (r : Ref) : Ref :=
  let b : Beat := { stamp := m.stamp.toNat, role := m.role.toNat, epoch := m.epoch.toNat }
  let r := if m.src.toNat = lo then { r with lo := some b } else { r with hi := some b }
  let r := { r with firstAt := some (r.firstAt.getD now), rank := m.rank.toNat }
  let r := if r.adoptedAt.isSome ∧ r.epoch < b.epoch then { r with epoch := b.epoch } else r
  let r := if r.adoptedAt.isSome ∧ b.role = 2 ∧ b.epoch = r.epoch then { r with holder := some m.src.toNat } else r
  if r.restarted then { r with epoch := 0, holder := none, adoptedAt := none } else r

/-- The first grant of a pair (R645): both twins send heartbeats; or the partner of the twin it goes to is absent after 5
ms (R93), and is fenced first. -/
def Dev.firstGrant (lo : Nat) (d : Dev) : Dev :=
  let r := d.ref.at lo
  let dst := d.firstTwin lo
  let other := d.otherTwin lo dst
  if r.epoch ≠ 0 ∨ r.holder.isSome ∨ r.fence.isSome then d
  else
    match r.beat lo dst, r.beat lo other with
    | some a, some _ => if a.role = 0 then d.grantTo lo dst else d
    | some _, none => if (r.firstAt.getD d.clk.now) + msq 5 ≤ d.clk.now then d.fenceTwin lo other 0 else d
    | none, _ => d

/-- A heartbeat at the referee (R637, R641, R645): the holder's lease is renewed. -/
def Dev.refBeat (m : LeaseMsg) (d : Dev) : Dev :=
  let lo := m.pairLo.toNat
  let src := m.src.toNat
  if src ≠ lo ∧ src ≠ d.pairHi lo then d
  else
    let d := d.updRef lo (Ref.heard lo d.clk.now m)
    let r := d.ref.at lo
    let fenced := match r.fence with | some (v, _, _) => v == src | none => false
    let d := if r.holder == some src && m.epoch.toNat == r.epoch && !fenced then
        d.refLease lo src lRENEW (m.stamp.toNat + nsq 5000000) else d
    (d.firstGrant lo).tryGrant lo

/-- HEARTBEAT at the serving referee (R637), or at the partner, which relays it over the fabric with 0x1010 (R639). -/
def actHeartbeat (t : Nat) (m : LeaseMsg) (d : Dev) : Dev :=
  let d := (d.enter t 7).acceptFrom m.src.toNat (.lease lHEARTBEAT true (m.role == 2) m)
  if d.isTwin && m.pairLo.toNat == d.pairLo && m.src.toNat == d.partner then
    match d.refs[m.rank.toNat]? with
    | some r => ((d.bump uNODE .HB_RELAYED 1).report uNODE 0x1010).xsend r (.lease lHEARTBEAT true (m.role == 2) m)
    | none => d
  else if (d.refRec m.pairLo.toNat).isSome then d.refBeat m
  else d

/-- HEARTBEAT (R637). -/
def execHeartbeat (t : Nat) (m : LeaseMsg) (s : State) : Host.Outcome State Fault Refusal :=
  .next { s with dev := actHeartbeat t m s.dev }

/-- A message of the serving referee has arrived. -/
def Dev.refHeard (d : Dev) : Dev := { d with twin := { d.twin with refAt := d.clk.now, refLost := false } }

/-- RENEW: the active's lease lasts to EXPIRES (R637); the partner of the active hands it on over LP (R639). -/
def actRenew (t : Nat) (m : LeaseMsg) (d : Dev) : Dev :=
  let d := (d.enter t 7).acceptFrom m.src.toNat (.lease lRENEW false false m)
  if !d.isTwin ∨ m.pairLo.toNat ≠ d.pairLo then d
  else if d.twin.role = .active then
    if m.epoch.toNat = d.twin.epoch then
      ({ d with twin := { d.twin with expires := some m.expires.toNat, expired := false } }).refHeard
    else d
  else if d.lpUp then (d.refHeard).xport 4 (.lease lRENEW false false m)
  else d.refHeard

/-- RENEW (R637). -/
def execRenew (t : Nat) (m : LeaseMsg) (s : State) : Host.Outcome State Fault Refusal :=
  .next { s with dev := actRenew t m s.dev }

/-- LEASE_EXPIRED: the active reports 0x1005 once and keeps its role (R638). -/
def actLeaseExpired (t : Nat) (d : Dev) : Dev :=
  let d := d.enter t 7
  match d.twin.expires with
  | none => d
  | some e =>
    if d.twin.role ≠ .active ∨ d.qns < e ∨ d.twin.expired then d
    else (({ d with twin := { d.twin with expired := true } }).bump uNODE .LEASE_EXPIRIES 1).report uNODE 0x1005

/-- LEASE_EXPIRED (R638). -/
def execLeaseExpired (t : Nat) (s : State) : Host.Outcome State Fault Refusal :=
  .next { s with dev := actLeaseExpired t s.dev }

/-- LEASE_TIMEOUT at the referee: no heartbeat of the holder carries a STAMP later than 5 ms ago, so it is fenced with KIND
0 (R641). A referee fences nobody in its first 5 ms with a pair (R657); over a swap the failure governs (R656). -/
def actLeaseTimeout (t lo : Nat) (d : Dev) : Dev :=
  let d := d.enter t 7
  let r := d.ref.at lo
  match r.holder with
  | none => d
  | some h =>
    let late : Bool := match r.beat lo h with | some b => decide (b.stamp + nsq 5000000 ≤ d.qns) | none => true
    let young : Bool := match r.adoptedAt with | some a => decide (d.clk.now < a + msq 5) | none => false
    let swap : Bool := match r.fence with | some (_, k, _) => k == 1 | none => false
    if !late ∨ young ∨ (r.fence.isSome ∧ !swap) then d
    else
      let d := if swap then (d.updRef lo (fun r => { r with swapTo := none })).refLease lo h lSWAP_REFUSED 0 else d
      d.fenceTwin lo h 0

/-- LEASE_TIMEOUT (R641). -/
def execLeaseTimeout (t : Nat) (pairLo : Half) (s : State) : Host.Outcome State Fault Refusal :=
  .next { s with dev := actLeaseTimeout t pairLo.toNat s.dev }

/-- FENCE_READBACK at the referee: low for 20 us leads to the grant (R642); not low within 5 us of the fence raises 0x100C,
once (R642). -/
def actFenceReadback (t lo : Nat) (low : Bool) (d : Dev) : Dev :=
  let d := d.enter t 7
  let r := d.ref.at lo
  match r.fence with
  | none => d
  | some (_, _, at_) =>
    if !d.bankUp .control then d
    else if low then (d.updRef lo (fun r => { r with lowSince := some (r.lowSince.getD d.clk.now) })).tryGrant lo
    else
      let d := d.updRef lo (fun r => { r with lowSince := none })
      if d.clk.now < at_ + usq 5 ∨ r.failed then d
      else (d.updRef lo (fun r => { r with failed := true, stuck := true })).report uNODE 0x100C

/-- FENCE_READBACK (R642). -/
def execFenceReadback (t : Nat) (pairLo : Half) (low : Bool) (s : State) : Host.Outcome State Fault Refusal :=
  .next { s with dev := actFenceReadback t pairLo.toNat low s.dev }

/-- GRANT at a twin (R633, R644, R652): of a higher epoch, it makes a lined standby active, and with epoch 1 an unlined one;
the active twin holds its role under it from now on; any other answers GRANT_REFUSED. -/
def actGrant (t : Nat) (m : LeaseMsg) (d : Dev) : Dev :=
  let d := (d.enter t 7).acceptFrom m.src.toNat (.lease lGRANT false false m)
  let e := m.epoch.toNat
  if !d.isTwin ∨ m.pairLo.toNat ≠ d.pairLo ∨ e ≤ d.twin.epoch then d
  else
    let d := d.refHeard
    if d.twin.role = .lined ∨ (d.twin.role = .unlined ∧ e = 1) then d.becomeActive e m.expires.toNat
    else if d.twin.role = .active then
      ({ d with twin := { d.twin with epoch := e, expires := some m.expires.toNat, expired := false } }).report uNODE 0x1003
        none e
    else ({ d with twin := { d.twin with epoch := e } }).leaseToRef lGRANT_REFUSED 0

/-- GRANT (R652). -/
def execGrant (t : Nat) (m : LeaseMsg) (s : State) : Host.Outcome State Fault Refusal :=
  .next { s with dev := actGrant t m s.dev }

/-- GRANT_REFUSED at the referee: the pair has no active twin, 0x100B (R644). -/
def actGrantRefused (t : Nat) (m : LeaseMsg) (d : Dev) : Dev :=
  let d := (d.enter t 7).acceptFrom m.src.toNat (.lease lGRANT_REFUSED false false m)
  let lo := m.pairLo.toNat
  if (d.refRec lo).isNone ∨ (d.ref.at lo).holder ≠ some m.src.toNat then d
  else (d.updRef lo (fun r => { r with holder := none, swapTo := none })).report uNODE 0x100B

/-- GRANT_REFUSED (R644). -/
def execGrantRefused (t : Nat) (m : LeaseMsg) (s : State) : Host.Outcome State Fault Refusal :=
  .next { s with dev := actGrantRefused t m s.dev }

/-- REJOIN_REQ at the referee: once no grant waits on the fence, the line is released and REJOIN_OK answers (R647). -/
def actRejoinReq (t : Nat) (m : LeaseMsg) (d : Dev) : Dev :=
  let d := (d.enter t 7).acceptFrom m.src.toNat (.lease lREJOIN_REQ true false m)
  let lo := m.pairLo.toNat
  let src := m.src.toNat
  let r := d.ref.at lo
  let waits : Bool := match r.fence with | some (v, _, _) => v == src && !r.failed | none => false
  if (d.refRec lo).isNone ∨ (src ≠ lo ∧ src ≠ d.pairHi lo) ∨ waits then d
  else
    let d := { d with pins := { d.pins with fenceOut := d.pins.fenceOut &&& ~~~(1#4 <<< d.fenceLine lo src) } }
    let d := d.updRef lo (fun r =>
      { r with
        fence := match r.fence with | some (v, k, a) => if v = src then none else some (v, k, a) | none => none
        holder := if r.holder = some src then none else r.holder })
    d.refLease lo src lREJOIN_OK 0

/-- REJOIN_REQ (R647). -/
def execRejoinReq (t : Nat) (m : LeaseMsg) (s : State) : Host.Outcome State Fault Refusal :=
  .next { s with dev := actRejoinReq t m s.dev }

/-- The state of a unit once FENCED is left: what its own chapter gives it with the device idle. -/
def Dev.afterFence (d : Dev) (u : Nat) : UState :=
  let c := uclass u
  if c = cDOMAIN ∨ c = cPLL ∨ c = cCLKO ∨ c = cXPORT then d.ownState u
  else if c = cTEMP then (if d.temp.hard ∨ d.temp.failed then .fault else .run)
  else .idle

/-- REJOIN_OK at a fenced twin whose FENCE_N is high: STANDBY_UNLINED with 0x1011, and a resynchronisation (R643, R647). -/
def actRejoinOk (t : Nat) (m : LeaseMsg) (d : Dev) : Dev :=
  let d := (d.enter t 7).acceptFrom m.src.toNat (.lease lREJOIN_OK false false m)
  if !d.isTwin ∨ m.pairLo.toNat ≠ d.pairLo ∨ d.twin.role ≠ .fenced ∨ d.pins.fenceLow then d
  else
    let d := ({ d with twin := { d.twin with role := .unlined, fenceKind := none, resetFenced := false } }).refHeard
    let d := d.unitsOn.foldl (fun d u => if d.ust u = .fenced then d.setSt u (d.afterFence u) else d) d
    (d.report uNODE 0x1011).resync

/-- REJOIN_OK (R647). -/
def execRejoinOk (t : Nat) (m : LeaseMsg) (s : State) : Host.Outcome State Fault Refusal :=
  .next { s with dev := actRejoinOk t m s.dev }

/-- CLAIM at a referee: it serves the pair, adopts the highest epoch, and answers both twins with CLAIM_OK (R657). -/
def actClaim (t : Nat) (m : LeaseMsg) (d : Dev) : Dev :=
  let d := (d.enter t 7).acceptFrom m.src.toNat (.lease lCLAIM true true m)
  let lo := m.pairLo.toNat
  let src := m.src.toNat
  if (d.refRec lo).isNone ∨ (src ≠ lo ∧ src ≠ d.pairHi lo) then d
  else
    let d := d.updRef lo (fun r =>
      { r with
        epoch := max r.epoch m.epoch.toNat
        holder := if m.role = 2 ∧ r.epoch ≤ m.epoch.toNat then some src else r.holder
        adoptedAt := some d.clk.now, rank := m.rank.toNat, lo := none, hi := none, firstAt := none })
    (d.refLease lo src lCLAIM_OK 0).refLease lo (d.otherTwin lo src) lCLAIM_OK 0

/-- CLAIM (R657). -/
def execClaim (t : Nat) (m : LeaseMsg) (s : State) : Host.Outcome State Fault Refusal :=
  .next { s with dev := actClaim t m s.dev }

/-- CLAIM_OK at a twin: the claimed referee serves, 0x100A (R657). -/
def actClaimOk (t : Nat) (m : LeaseMsg) (d : Dev) : Dev :=
  let d := (d.enter t 7).acceptFrom m.src.toNat (.lease lCLAIM_OK false false m)
  if !d.isTwin ∨ m.pairLo.toNat ≠ d.pairLo then d
  else (({ d with twin := { d.twin with refRank := m.rank.toNat } }).refHeard).report uNODE 0x100A

/-- CLAIM_OK (R657). -/
def execClaimOk (t : Nat) (m : LeaseMsg) (s : State) : Host.Outcome State Fault Refusal :=
  .next { s with dev := actClaimOk t m s.dev }

/-- SWAP_REQ at the referee (R654, R655): the holder is fenced with KIND 1 where its partner is lined and nothing else is
pending; else SWAP_REFUSED. -/
def actSwapReq (t : Nat) (m : LeaseMsg) (d : Dev) : Dev :=
  let d := (d.enter t 7).acceptFrom m.src.toNat (.lease lSWAP_REQ false true m)
  let lo := m.pairLo.toNat
  let src := m.src.toNat
  let dst := m.expires.toNat % 65536
  let r := d.ref.at lo
  if (d.refRec lo).isNone then d
  else
    let lined := match r.beat lo dst with | some b => b.role == 1 | none => false
    if r.holder == some src && m.epoch.toNat == r.epoch && dst == d.otherTwin lo src && lined && r.fence.isNone
        && r.swapTo.isNone then
      (d.updRef lo (fun r => { r with swapTo := some dst })).fenceTwin lo src 1
    else d.refLease lo src lSWAP_REFUSED 0

/-- SWAP_REQ (R654). -/
def execSwapReq (t : Nat) (m : LeaseMsg) (s : State) : Host.Outcome State Fault Refusal :=
  .next { s with dev := actSwapReq t m s.dev }

/-- SWAP_REFUSED at the active: the swap ends with 0x100D (R655, R656). -/
def actSwapRefused (t : Nat) (m : LeaseMsg) (d : Dev) : Dev :=
  let d := (d.enter t 7).acceptFrom m.src.toNat (.lease lSWAP_REFUSED false false m)
  if !d.isTwin ∨ m.pairLo.toNat ≠ d.pairLo then d else (d.refHeard).swapEnd false

/-- SWAP_REFUSED (R655). -/
def execSwapRefused (t : Nat) (m : LeaseMsg) (s : State) : Host.Outcome State Fault Refusal :=
  .next { s with dev := actSwapRefused t m s.dev }

/-- SWAP_REQ_PIN: 10 ms low on the active twin with SWAP_PIN_EN asks for a swap, or is refused with 0x100D (R654, R655). -/
def actSwapReqPin (t lowMs : Nat) (d : Dev) : Dev :=
  let d := d.enter t 7
  if !d.bankUp .control ∨ !d.isTwin ∨ d.twin.role ≠ .active ∨ lowMs < 10 ∨ !d.cfgB .twin 0 .SWAP_PIN_EN then d
  else if d.swapPossible then d.requestSwap none
  else d.report uNODE 0x100D

/-- SWAP_REQ_PIN (R654). -/
def execSwapReqPin (t lowMs : Nat) (s : State) : Host.Outcome State Fault Refusal :=
  .next { s with dev := actSwapReqPin t lowMs s.dev }

/-- A TWIN_SWAP ticket (R654, R655): not applicable where NEW_ACTIVE is the active twin, else the active asks its referee;
a standby awaits the active's outcome (R157). -/
def Dev.twinSwap1 (k : Tkt) (d : Dev) : Dev :=
  let dst := tf k.entry 143 128
  let active := if d.twin.role = .active then d.node else d.partner
  if dst ≠ d.node ∧ dst ≠ d.partner then d.refuse k 0x100D
  else if dst = active then d.finish k.slot 2 0
  else if d.twin.swap.isSome then d.refuse k 0x100D
  else if d.twin.role = .active then
    if d.swapPossible then d.requestSwap (some k.slot) else d.refuse k 0x100D
  else
    match d.twin.outcomes.get? (k.slot % 65536) with
    | some o => d.finish k.slot o (if o = 1 then 0x100D else 0)
    | none => { d with twin := { d.twin with swap := some (some k.slot) } }

/-- TWIN_SWAP: a TWIN_SWAP ticket starts (R140, R654). -/
def actTwinSwap (t : Nat) (d : Dev) : Dev := (d.enter t 7).ticket 0x0A (fun k d => d.twinSwap1 k)

/-- TWIN_SWAP (R654). -/
def execTwinSwap (t : Nat) (s : State) : Host.Outcome State Fault Refusal := .next { s with dev := actTwinSwap t s.dev }

/-- FENCE at a twin: why its epoch is withdrawn (R646). With KIND 1 the swap it asked for ends, with KIND 0 it is refused
(R654, R656). -/
def actFence (t : Nat) (m : FenceMsg) (d : Dev) : Dev :=
  let d := (d.enter t 7).acceptFrom m.referee.toNat (.fence m)
  if !d.isTwin ∨ m.epoch.toNat < d.twin.epoch then d
  else
    let d := { d with twin := { d.twin with fenceKind := some m.kind.toNat } }
    if d.twin.swap.isSome then d.swapEnd (m.kind == 1) else d

/-- FENCE (R646). -/
def execFence (t : Nat) (m : FenceMsg) (s : State) : Host.Outcome State Fault Refusal :=
  .next { s with dev := actFence t m s.dev }

/-- FENCE_N changes: low, the device is FENCED (R643), once the pin's bank is up (R78); high, it waits for REJOIN_OK or RST_N. -/
def actFenceN (t : Nat) (high : Bool) (d : Dev) : Dev :=
  let d := d.enter t 2
  let d := { d with pins := { d.pins with fenceLow := !high } }
  if high || !d.bankUp .control then d else d.fenceNow

/-- FENCE_N (R643). -/
def execFenceN (t : Nat) (high : Bool) (s : State) : Host.Outcome State Fault Refusal :=
  .next { s with dev := actFenceN t high s.dev }

/-- The next reachable referee after the serving one, in rank order. -/
def Dev.nextRef (d : Dev) : Option Nat :=
  let n := d.refs.length
  (((upTo n).map (fun i => (d.twin.refRank + 1 + i) % n)).filter (· ≠ d.twin.refRank)).find? (fun k =>
    match d.refs[k]? with | some r => d.reaches r | none => false)

/-- REFEREE_LOST: REF_LOST_MS without a message of the serving referee: 0x1009, and the active claims the next reachable
one (R657). -/
def actRefereeLost (t : Nat) (d : Dev) : Dev :=
  let d := d.enter t 7
  let active := d.twin.role == .active
  if !d.isTwin ∨ (active ∧ d.clk.now < d.twin.refAt + msq (d.cfgN .twin 0 .REF_LOST_MS)) then d
  else
    let d := if d.twin.refLost then d
      else ({ d with twin := { d.twin with refLost := true } }).report uNODE 0x1009
    if !active then d
    else
      match d.nextRef with
      | none => d
      | some k =>
        let m := { d.twinLease 0 with rank := BitVec.ofNat 2 k }
        d.toRef (d.refs.getD k 0) (.lease lCLAIM true true m)

/-- REFEREE_LOST (R657). -/
def execRefereeLost (t : Nat) (s : State) : Host.Outcome State Fault Refusal :=
  .next { s with dev := actRefereeLost t s.dev }

/-- The links of this twin's lanes, told to the partner (R396). -/
def Dev.tellLanes (d : Dev) : Dev :=
  ((upTo 256).filter (d.has .lane)).foldl (fun d l => d.tellPartner l (d.lane.at l).up) d

/-- PAIR: the partner's identity over LP (R93); with REQ 1 the active streams a snapshot, and a twin that is not active
remembers the request (R650). Pairing ends where one of them holds an epoch. -/
def actPair (t : Nat) (m : PairMsg) (d : Dev) : Dev :=
  let d := d.enter t 7
  if !d.isTwin ∨ !d.lpUp ∨ m.node.toNat ≠ d.partner then d
  else
    let d := d.accept 4 (.pair m)
    let first := !d.twin.met
    let d := { d with twin := { d.twin with
      met := true, alone := false, partnerSerial := m.serial.toNat, partnerCompat := m.liningCompat.toNat
      partnerPairCrc := m.pairCrc.toNat
      paired := d.twin.paired || 0 < d.twin.epoch || 0 < m.epoch.toNat } }
    let d := if first then d.tellLanes else d
    let d := if first && d.twin.role == .unlined then d.resync else d
    if !m.req then d
    else if d.twin.role == .active then (d.solo).streamSnapshot
    else { d with twin := { d.twin with partnerReq := true } }

/-- PAIR (R650). -/
def execPair (t : Nat) (m : PairMsg) (s : State) : Host.Outcome State Fault Refusal :=
  .next { s with dev := actPair t m s.dev }

/-- The mirror of field outputs is refreshed (R635). -/
def Dev.mirrored (d : Dev) : Dev := { d with twin := { d.twin with mirrorAt := d.clk.now, mirrorStale := false } }

/-- A lined standby drives a mirrored output of this unit (R634). -/
def Dev.mirrors (d : Dev) (u : Nat) : Bool := d.twin.role == .lined && d.drives u

/-- p, v and the target of a profile of the lining (R492). -/
def Dev.lineProf (u : Nat) (p v tgt : Int) (d : Dev) : Dev := d.updProf u (fun x => { x with p := p, v := v, tgt := tgt })

/-- An axis of the lining: control state always, duties and gates where the standby drives (R465). -/
def Dev.lineAxis (a : Nat) (y : AxisLine) (d : Dev) : Dev :=
  let live := d.mirrors (uid cAXIS a)
  let d := d.updAxis a (fun x =>
    { x with intD := y.intD, intQ := y.intQ, iW := y.iW, wR := y.wR, zero := y.zero, cnt := y.cnt, cntAt := y.cntAt })
  let d := { d with enc := d.enc.upd (d.cfgN .axis a .ENC) (fun e => { e with z := if y.z.isSome then y.z else e.z }) }
  ((if live then d.mirrorAxis a y else d).lineProf (uid cAXIS a) y.p y.v y.tgt).mirrored

/-- A stepper of the lining (R492). -/
def Dev.lineStep (i : Nat) (y : StepLine) (d : Dev) : Dev :=
  let live := d.mirrors (uid cSTEP i)
  let d := d.updStep i (fun x =>
    { x with
      icA := y.icA, icB := y.icB, count0 := y.count0, stallHold := y.stallHold, held := y.heldFor.map (d.clk.now - ·) })
  let d := if live then d.mirrorStep i y else d
  (d.lineProf (uid cSTEP i) y.p y.v y.tgt).mirrored

/-- A loop of the lining (R530): its timers count from as long ago as the active's. -/
def Dev.lineLoop (i : Nat) (y : LoopLine) (d : Dev) : Dev :=
  (d.updLoop i (fun x =>
    { x with
      r := y.r, target := y.target, iAcc := y.iAcc, dAcc := y.dAcc, u1 := y.u1, u2 := y.u2, v1 := y.v1, v2 := y.v2
      yPrev := y.yPrev, out := y.out, satAt := y.satFor.map (d.clk.now - ·), satWin := y.satWin.map (d.clk.now - ·), holdAt := y.holdFor.map (d.clk.now - ·)
      charge := y.charge.map (fun c =>
        { (x.charge.getD {}) with
          job := c.job.toNat, page := c.page.toNat, charge := c.charge, samples := c.samples
          stn := d.cfgN .loop i .CHARGE_STN }) })).mirrored

/-- A lamp of the lining (R530): its debt and diagnosis always, the on-time where the standby drives. -/
def Dev.lineLamp (i : Nat) (y : LampLine) (d : Dev) : Dev :=
  let live := d.mirrors (uid cLAMP i)
  ({ d with lamp := d.lamp.upd i (fun x =>
      { x with debt := y.debt, k := y.k, opens := y.opens, deferred := y.deferred, brimK := y.brimK, on := if live then y.on else x.on }) }).mirrored

/-- An open job of the active's snapshot that this twin has neither open nor closed (R133, R648); what the tickets of both
hosts open and close later, each twin does itself (R156, log entry 91). -/
def Dev.lineJob (job mask : Nat) (d : Dev) : Dev :=
  if (d.jobs.isOpen.get? job).isSome ∨ d.jobs.closed.contains job then d
  else { d with jobs := { d.jobs with isOpen := d.jobs.isOpen.set job mask } }

/-- The active's leading edge of a page at a station takes the place of the own one (R648), so that both twins build the same
frames. -/
def Dev.lineBinding (job page n : Nat) (le : Int) (d : Dev) : Dev :=
  match d.pageJ job page with
  | some p => d.updPg p.order n (fun s => { s with le := s.le.map (fun _ => le) })
  | none => d

/-- The active's placement of a station (R648): leading edge, G, P_reg, and what remains of its glides. -/
def Dev.linePlaced (n : Nat) (le g pReg : Int) (glides : List (Int × Int)) (d : Dev) : Dev :=
  d.updStn n (fun s =>
    { s with
      leLast := some le, g := g, pReg := pReg
      glides := if s.glides.length = glides.length then
          s.glides.zipWith (fun x y => { x with rem := y.1, slope := y.2 }) glides
        else s.glides })

/-- The calibration generation of the active (R425): one that differs is reported with 0x080B; in a snapshot its records
are adopted. -/
def Dev.lineCal (snapshot : Bool) (g : Nat) (bs : List Byte) (d : Dev) : Dev :=
  let busy := d.cal.job.isSome || d.cal.step != 0 || d.cal.waitMask != 0
  let d := if g ≠ d.cal.gen ∧ (snapshot ∨ !busy ∨ d.cal.newGen ≠ g) then d.report uNODE 0x080B else d
  if snapshot ∧ g ≠ d.cal.gen then
    ({ d with twin := { d.twin with partnerGen := some g, partnerRecs := bs } }).calAdopt
  else d

/-- A final completion that still waits to be posted takes DIVERGED (R158); one that stands in host memory cannot (log
entry 67). -/
def Dev.markDiverged (rs : Nat) (d : Dev) : Dev :=
  { d with host := { d.host with
      keptCq := d.host.keptCq.map (fun c =>
        if c.slot % 65536 = rs ∧ bit c.flags fFINAL then { c with flags := flag c.flags fDIVERGED } else c) } }

/-- The partner's outcome of a ticket (R158): compared with the own one, or kept for it; it ends a TWIN_SWAP that waits
for it (R157). -/
def Dev.lineOutcome (rs outcome : Nat) (d : Dev) : Dev :=
  match d.twin.myOutcomes.get? rs with
  | some o =>
    let d := { d with twin := { d.twin with myOutcomes := d.twin.myOutcomes.del rs } }
    if o = outcome then d else (d.markDiverged rs).report uNODE 0x0E19
  | none =>
    let d := { d with twin := { d.twin with outcomes := d.twin.outcomes.set rs outcome } }
    match d.twin.swap with
    | some (some slot) =>
      if slot % 65536 = rs ∧ d.twin.role ≠ .active then
        ({ d with twin := { d.twin with swap := none } }).finish slot outcome (if outcome = 1 then 0x100D else 0)
      else d
    | _ => d

/-- The partner's link to a lane (R396). -/
def Dev.linePartner (l : Nat) (up : Bool) (d : Dev) : Dev :=
  let d := d.updLane l (fun x => { x with partnerUp := up, viaPartner := x.viaPartner && up })
  if up && !(d.lane.at l).up && (d.lane.at l).wasDown then d.viaPartner l else d

/-- An entry of the lining at a standby (R648). Ledgers are compared by eye only and replace nothing; counters are taken at
resynchronisation (R377). -/
def Dev.applyEntry (snapshot : Bool) (e : LiningEntry) (d : Dev) : Dev :=
  match e with
  | .engagement st session => d.lineSession snapshot st.toNat session
  | .page job page st aborted =>
    let d := { d with twin := { d.twin with
        pages := (job.toNat, page.toNat, st.toNat) ::
          d.twin.pages.filter (fun x => !(x.1 == job.toNat && x.2.1 == page.toNat)) } }
    if !aborted then d
    else
      let d := { d with twin := { d.twin with aborts := (job.toNat, page.toNat) :: d.twin.aborts } }
      (d.jobs.pages.filter (fun p => p.job == job.toNat && p.id == page.toNat && p.state == .marking)).foldl
        (fun d p => d.abort p) d
  | .ticket slot o => d.lineOutcome slot.toNat o.toNat
  | .job job mask isOpen => if snapshot && isOpen then d.lineJob job.toNat mask.toNat else d
  | .binding job page n le => d.lineBinding job.toNat page.toNat n.val le
  | .placement n le g p glides => d.linePlaced n.val le g p glides
  | .seq l next => if snapshot then d.updLane l.val (fun x => { x with seq := next.toNat }) else d
  | .nozzle l m st => { d with twin := { d.twin with noz := d.twin.noz.set (l.val * 4096 + m.toNat) st.toNat } }
  | .ledger _ _ _ _ _ => d
  | .axis a x => d.lineAxis a.val x
  | .stepper i x => d.lineStep i.val x
  | .loop i x => d.lineLoop i.val x
  | .act i duty =>
    let d := { d with act := d.act.upd i.val (fun x => { x with mirror := some duty }) }
    (if d.mirrors (uid cACT i.val) then d.actTo i.val duty else d).mirrored
  | .lamp i x => d.lineLamp i.val x
  | .calibration g bs => d.lineCal snapshot g.toNat bs
  | .partnerLane l up => d.linePartner l.val up

/-- A standby takes the frames of the active's lining in the order of their SEQ; those of an older epoch have no effect. The
flag says that the frame is the next one (R633, R649). -/
def Dev.liningNext (d : Dev) (snapshot : Bool) (f : LiningFrame) : Bool :=
  match d.twin.linSeq with
  | some n => f.seq.toNat == n
  | none => snapshot && !d.twin.snapped

/-- What a frame beside the sections brings: SEQ 0, from either twin (log entry 20). -/
def Dev.besideFrame (e : LiningEntry) (d : Dev) : Dev :=
  match e with
  | .partnerLane l up => d.linePartner l.val up
  | .ticket s o => d.lineOutcome s.toNat o.toNat
  | .seq l next =>
    if seqAfter next.toNat (d.lane.at l.val).seq then d.updLane l.val (fun x => { x with seq := next.toNat }) else d
  | _ => d

/-- A lining frame at a standby: its epoch and number, its lag and its entry (R648 to R650). It tells that a referee has named
the active, which ends pairing once identities are exchanged (R93). -/
def Dev.liningTake (snapshot : Bool) (f : LiningFrame) (d : Dev) : Dev :=
  if f.seq = 0 then d.besideFrame f.entry
  else if d.twin.role = .active ∨ d.twin.role = .fenced ∨ f.epoch.toNat < d.twin.epoch then d
  else
    let d := { d with twin := { d.twin with paired := d.twin.paired || d.twin.met, epoch := f.epoch.toNat } }
    if !d.liningNext snapshot f then
      if d.twin.snapped then d.unline else { d with twin := { d.twin with linSeq := some 0 } }
    else
      let lag := (d.qns - f.stamp.toNat) / 4
      let d := { d with twin := { d.twin with linSeq := some (nextSeq f.seq.toNat) } }
      let d := if snapshot then d else { d with twin := { d.twin with linLag := lag } }
      if !snapshot && below (1000 * d.cfgN .twin 0 .LINING_LAG_US) lag then d.unline
      else
        let d := if snapshot || d.twin.snapped then d.applyEntry snapshot f.entry else d
        let d := if snapshot && f.last then
            { d with twin := { d.twin with snapped := true, sentSince := [] } } else d
        d.tryLined

/-- A lining frame on LP of a twin. -/
def Dev.liningFrame (snapshot : Bool) (f : LiningFrame) (d : Dev) : Dev :=
  if !d.isTwin || !d.lpUp then d else (d.accept 4 (.lining snapshot f)).liningTake snapshot f

/-- LINING_SNAPSHOT (R650 step 4). -/
def actLiningSnapshot (t : Nat) (f : LiningFrame) (d : Dev) : Dev := (d.enter t 7).liningFrame true f

/-- LINING_SNAPSHOT (R650). -/
def execLiningSnapshot (t : Nat) (f : LiningFrame) (s : State) : Host.Outcome State Fault Refusal :=
  .next { s with dev := actLiningSnapshot t f s.dev }

/-- LINING_DELTA (R648). -/
def actLiningDelta (t : Nat) (f : LiningFrame) (d : Dev) : Dev := (d.enter t 7).liningFrame false f

/-- LINING_DELTA (R648). -/
def execLiningDelta (t : Nat) (f : LiningFrame) (s : State) : Host.Outcome State Fault Refusal :=
  .next { s with dev := actLiningDelta t f s.dev }

/-- LINING_LAG_EXCEEDED: a lag, a gap or the loss of LP ends STANDBY_LINED (R649). -/
def actLiningLagExceeded (t : Nat) (_why : LagCause) (d : Dev) : Dev :=
  let d := d.enter t 7
  if d.isTwin ∧ (d.twin.role = .lined ∨ (d.twin.role = .unlined ∧ d.twin.snapped)) then d.unline else d

/-- LINING_LAG_EXCEEDED (R649). -/
def execLiningLagExceeded (t : Nat) (why : LagCause) (s : State) : Host.Outcome State Fault Refusal :=
  .next { s with dev := actLiningLagExceeded t why s.dev }

/-- RESYNC_TIMEOUT: a resynchronisation beyond 2 s is reported with 0x1008 and restarted (R650). -/
def actResyncTimeout (t : Nat) (d : Dev) : Dev :=
  let d := d.enter t 7
  match d.twin.resyncAt with
  | none => d
  | some a => if d.twin.role ≠ .unlined ∨ d.clk.now < a + msq 2000 then d else (d.report uNODE 0x1008).resync

/-- RESYNC_TIMEOUT (R650). -/
def execResyncTimeout (t : Nat) (s : State) : Host.Outcome State Fault Refusal :=
  .next { s with dev := actResyncTimeout t s.dev }

/-- MIRROR_HOLD_EXPIRED: a standby's mirror has not been refreshed for HOLD_MAX_MS: its outputs go safe with 0x100F
(R635). -/
def actMirrorHoldExpired (t : Nat) (d : Dev) : Dev :=
  let d := d.enter t 7
  if !d.isTwin ∨ d.twin.role ≠ .lined ∨ d.twin.mirrorStale
      ∨ d.clk.now < d.twin.mirrorAt + msq (d.cfgN .twin 0 .HOLD_MAX_MS) then d
  else
    ((({ d with twin := { d.twin with mirrorStale := true } }).outputsSafe).bump uNODE .HOLD_EXPIRIES 1).report uNODE 0x100F

/-- MIRROR_HOLD_EXPIRED (R635). -/
def execMirrorHoldExpired (t : Nat) (s : State) : Host.Outcome State Fault Refusal :=
  .next { s with dev := actMirrorHoldExpired t s.dev }

end Sys2Proof.Machine
end

