-- ==== Sys2Proof/Machine/HostPort.lean ====
section
/-! DEFINITION. The host port (R112 to R129, R685): registers of BAR0, rings, the fetch of tickets, acknowledgement, the
reset of the HOST region, and STAGE_IMAGE (R67 to R72). -/

namespace Sys2Proof.Machine

/-- One of the three rings. -/
def HostSt.ring (h : HostSt) : Ring → RingSt
  | .ticket => h.tq
  | .completion => h.cq
  | .event => h.eq

/-- One of the three rings replaced. -/
def HostSt.setRing (h : HostSt) (r : Ring) (x : RingSt) : HostSt :=
  match r with
  | .ticket => { h with tq := x }
  | .completion => { h with cq := x }
  | .event => { h with eq := x }

/-- A ring changed. -/
def Dev.setRing (r : Ring) (x : RingSt) (d : Dev) : Dev := { d with host := d.host.setRing r x }

/-- A write that is ignored and reported (R119, R123). -/
def Dev.badWrite (code : Nat) (d : Dev) : Dev := d.report uNODE code

/-- A ring size that turns a ring on (R115). -/
def ringSizeOk (v : Nat) : Bool := [16, 32, 64, 128, 256, 512, 1024, 2048, 4096].contains v

/-- A ring may be turned off (R119). -/
def Dev.ringsMayStop (d : Dev) : Bool :=
  d.eng.st == .idle || d.eng.st == .refused || d.boot.stage == .recovery

/-- After a reset of the HOST region the first event on the new ring carries 0x0E1A; what was kept follows (R113, R114). It
arises as the ring is turned on (log entry 107). -/
def Dev.eventRingOn (d : Dev) : Dev :=
  match d.host.linkReset with
  | none => d.pump
  | some head =>
    let kept := d.host.keptEq
    let d := ({ d with host := { d.host with linkReset := none, keptEq := [] } }).report uNODE 0x0E1A none head
    ({ d with host := { d.host with keptEq := d.host.keptEq ++ kept } }).pump

/-- RING_SIZE_WRITE (R119). -/
def Dev.ringSize (r : Ring) (v : Nat) (d : Dev) : Dev :=
  let x := d.host.ring r
  if v = 0 then
    if d.ringsMayStop then d.setRing r { x with size := 0 }
    else d.badWrite 0x0E11
  else if x.size = 0 ∧ ringSizeOk v then
    let d := d.setRing r { base := x.base, size := BitVec.ofNat 32 v }
    match r with
    | .ticket => d
    | .completion => d.pump
    | .event => d.eventRingOn
  else d.badWrite 0x0E11

/-- RING_SIZE_WRITE: a write of TQ_SIZE, CQ_SIZE or EQ_SIZE (R119). -/
def actRingSizeWrite (t : Nat) (r : Ring) (v : Nat) (d : Dev) : Dev := (d.enter t 7).ringSize r v

/-- RING_SIZE_WRITE (R119). -/
def execRingSizeWrite (t : Nat) (ring : Ring) (v : Word) (s : State) : Host.Outcome State Fault Refusal :=
  .next { s with dev := actRingSizeWrite t ring v.toNat s.dev }

/-- RING_BASE_WRITE: a 4 KiB aligned base of a ring that is off (R115, R119). -/
def Dev.ringBase (r : Ring) (v : DWord) (d : Dev) : Dev :=
  let x := d.host.ring r
  if x.size = 0 ∧ v.toNat % 4096 = 0 then d.setRing r { x with base := v } else d.badWrite 0x0E11

/-- RING_BASE_WRITE: a write of TQ_BASE, CQ_BASE or EQ_BASE (R119). -/
def actRingBaseWrite (t : Nat) (r : Ring) (v : DWord) (d : Dev) : Dev := (d.enter t 7).ringBase r v

/-- RING_BASE_WRITE (R119). -/
def execRingBaseWrite (t : Nat) (ring : Ring) (v : DWord) (s : State) : Host.Outcome State Fault Refusal :=
  .next { s with dev := actRingBaseWrite t ring v s.dev }

/-- TQ_TAIL: the doorbell of the ticket ring; it also ends the halt after a failed read (R123, R685). -/
def actTqTail (t : Nat) (v : Word) (d : Dev) : Dev :=
  let d := d.enter t 7
  let x := d.host.tq
  if x.size.toNat ≤ v.toNat then d.badWrite 0x0E12
  else { d with host := { d.host with tq := { x with hostIdx := v }, fetchHalt := false } }

/-- TQ_TAIL (R123). -/
def execTqTail (t : Nat) (v : Word) (s : State) : Host.Outcome State Fault Refusal :=
  .next { s with dev := actTqTail t v s.dev }

/-- Entries a head write returns, where it is accepted: it does not pass the device's write position (R119). -/
def RingSt.returned (x : RingSt) (v : Nat) : Option Nat :=
  if x.size.toNat ≤ v then none
  else
    let n := (v + x.size.toNat - x.hostIdx.toNat) % x.size.toNat
    if n ≤ x.used then some n else none

/-- A write of CQ_HEAD or EQ_HEAD returns the entries read, and what waits for room is posted (R114, R119). -/
def Dev.ringHead (r : Ring) (v : Word) (d : Dev) : Dev :=
  let x := d.host.ring r
  match x.returned v.toNat with
  | none => d.badWrite 0x0E11
  | some n => (d.setRing r { x with hostIdx := v, used := x.used - n }).pump

/-- CQ_HEAD: entries of the completion ring are returned (R119). -/
def actCqHead (t : Nat) (v : Word) (d : Dev) : Dev := (d.enter t 7).ringHead .completion v

/-- CQ_HEAD (R119). -/
def execCqHead (t : Nat) (v : Word) (s : State) : Host.Outcome State Fault Refusal :=
  .next { s with dev := actCqHead t v s.dev }

/-- EQ_HEAD: entries of the event ring are returned (R119). -/
def actEqHead (t : Nat) (v : Word) (d : Dev) : Dev := (d.enter t 7).ringHead .event v

/-- EQ_HEAD (R119). -/
def execEqHead (t : Nat) (v : Word) (s : State) : Host.Outcome State Fault Refusal :=
  .next { s with dev := actEqHead t v s.dev }

/-- The read-write registers of a ring at their defaults, which turns it off; the device's own index stays (R113). -/
def RingSt.hostReset (r : RingSt) : RingSt := { r with base := 0, size := 0, hostIdx := 0 }

/-- The HOST region reset (R113): every read-write register of BAR0 and both latches at their defaults; tickets fetched,
entries kept and the read-only registers stay. TQ_HEAD is remembered for the event with 0x0E1A. -/
def HostSt.regionReset (h : HostSt) : HostSt :=
  { h with
    tq := h.tq.hostReset, cq := h.cq.hostReset, eq := h.eq.hostReset, visorT := 0, visorScope := 0, msixTable := []
    timeLatch := 0, engLatch := 0, fetchHalt := false
    linkReset := if h.tq.size = 0 ∧ h.linkReset.isSome then h.linkReset else some (h.tq.devIdx.toNat % 65536) }

/-- The power state after a reset of the HOST region (R112, log entry 71). -/
def powerAfter : HostResetKind → DevPower
  | .d3hot => .d3hot
  | .hotReset | .linkDown | .functionLevel | .perst => .d0

/-- HOST_RESET: hot reset, link down, Function Level Reset, a move to D3hot, or PERST, which acts once the pin's bank is up
(R78, R113). -/
def actHostReset (t : Nat) (kind : HostResetKind) (d : Dev) : Dev :=
  let d := d.enter t 7
  if kind = .perst ∧ !d.bankUp .perst then d
  else { d with host := { d.host.regionReset with power := powerAfter kind } }

/-- HOST_RESET (R113). -/
def execHostReset (t : Nat) (kind : HostResetKind) (s : State) : Host.Outcome State Fault Refusal :=
  .next { s with dev := actHostReset t kind s.dev }

/-- A ticket may be fetched (R122, R124, R685): the ring holds one, and four completions fit beyond the room set aside. -/
def HostSt.mayFetch (h : HostSt) : Bool :=
  h.tq.size != 0 && !h.fetchHalt && h.tq.devIdx != h.tq.hostIdx
    && h.tickets.foldl (fun a k => a + k.room) 0 + 4 ≤ h.cq.room + (4096 - h.keptCq.length)

/-- A ticket is fetched into the device (R122). -/
def HostSt.fetch (e : Entry) (h : HostSt) : HostSt :=
  { h with
    tq := { h.tq with devIdx := if h.tq.devIdx + 1 = h.tq.size then 0 else h.tq.devIdx + 1 }
    fetched := h.fetched + 1
    tickets := h.tickets ++ [{ slot := h.fetched * 65536 + h.tq.devIdx.toNat % 65536, entry := e }] }

/-- The format of a fetched ticket (R27, R132). -/
def ticketFinding (e : Entry) : Option Nat :=
  if !ticketFormatOk e then some 0x0E01 else if ticketNodeAny e then some 0x0E02 else none

/-- TICKET_FETCH: the 64 bytes of the next ticket have been read (R122, R685); one that breaks its format is refused
(R132). -/
def actTicketFetch (t : Nat) (e : Entry) (d : Dev) : Dev :=
  let d := d.enter t 7
  if !d.host.mayFetch then d
  else
    let d := { d with host := d.host.fetch e }
    match ticketFinding e, d.host.tickets.getLast? with
    | some code, some k => d.refuse k code
    | _, _ => d

/-- TICKET_FETCH (R122). -/
def execTicketFetch (t : Nat) (entry : Entry) (s : State) : Host.Outcome State Fault Refusal :=
  .next { s with dev := actTicketFetch t entry s.dev }

/-- TICKET_FETCH_ERROR: the read fails; nothing more is fetched until TQ_TAIL is written (R685). -/
def actTicketFetchError (t : Nat) (why : PcieError) (d : Dev) : Dev :=
  let d := d.enter t 7
  if !d.host.mayFetch then d
  else
    let slot := d.host.tq.devIdx.toNat % 65536
    ({ d with host := { d.host with fetchHalt := true } }).report uNODE 0x0E1C none (put 16 slot + pcieCode why)

/-- TICKET_FETCH_ERROR (R685). -/
def execTicketFetchError (t : Nat) (why : PcieError) (s : State) : Host.Outcome State Fault Refusal :=
  .next { s with dev := actTicketFetchError t why s.dev }

/-- Unit addresses an acknowledgement covers: the unit, and those beneath a mitten (R128). -/
def Dev.ackCovers (d : Dev) : Nat → Nat → List Nat
  | 0, a => [a]
  | fuel + 1, a => a :: (d.fingersOf a).flatMap (d.ackCovers fuel)

/-- One unit of this node is acknowledged (R128), with what its chapter ties to that: a stall HOLD (R483), TEMP (R577,
R580), T_crit (R576) and FENCED (R647). -/
def Dev.ackUnit (u : Nat) (d : Dev) : Dev :=
  let d := { d with units := d.units.upd u (fun s => { s with unacked := false }) }
  if uclass u = cSTEP then d.stallRelease (uindex u)
  else if u = uTEMP then d.tempLeave
  else if u = uNODE then (d.leaveCritical).askRejoin
  else d

/-- EVENT_ACK: a unit, or every unit beneath a mitten, is acknowledged (R128). -/
def actEventAck (t a : Nat) (d : Dev) : Dev :=
  let d := d.enter t 7
  ((d.ackCovers 8 (replaceNode d.node a)).filter (fun x => x / 65536 == d.node && uvalid (x % 65536))).foldl
    (fun d x => d.ackUnit (x % 65536)) d

/-- EVENT_ACK (R128). -/
def execEventAck (t : Nat) (unit : Word) (s : State) : Host.Outcome State Fault Refusal :=
  .next { s with dev := actEventAck t unit.toNat s.dev }

/-- TIME_NOW (R115): seconds, nanoseconds and the 2^-16 ns fraction of the time counter. -/
def Dev.timeNow (d : Dev) : BitVec 128 :=
  let ns := d.clk.tai / 2 ^ 48
  BitVec.ofNat 128 (put 48 (ns / 1000000000 % 2 ^ 48) + put 16 (ns % 1000000000) + d.clk.tai / 2 ^ 32 % 65536)

/-- TIME_NOW_LATCH_READ: a read of the lowest word latches the register (R117). -/
def actTimeNowLatchRead (t : Nat) (d : Dev) : Dev :=
  let d := d.enter t 7
  let v := d.timeNow
  ({ d with host := { d.host with timeLatch := v } }).emit (.readData (v &&& 0xFFFFFFFF#128))

/-- TIME_NOW_LATCH_READ (R117). -/
def execTimeNowLatchRead (t : Nat) (s : State) : Host.Outcome State Fault Refusal :=
  .next { s with dev := actTimeNowLatchRead t s.dev }

/-- ENGAGE_STATUS_LATCH_READ: a read of the lowest word latches the register (R103, R117). -/
def actEngageStatusLatchRead (t : Nat) (d : Dev) : Dev :=
  let d := d.enter t 7
  let v := d.eng.status
  ({ d with host := { d.host with engLatch := v } }).emit (.readData ((v &&& 0xFFFFFFFF#64).setWidth 128))

/-- ENGAGE_STATUS_LATCH_READ (R117). -/
def execEngageStatusLatchRead (t : Nat) (s : State) : Host.Outcome State Fault Refusal :=
  .next { s with dev := actEngageStatusLatchRead t s.dev }

/-- A 64-bit register with one of its 32-bit words written. -/
def setWord (old : DWord) (high : Bool) (v : Word) : DWord :=
  if high then BitVec.ofNat 64 (put 32 v.toNat + old.toNat % 2 ^ 32)
  else BitVec.ofNat 64 (put 32 (old.toNat / 2 ^ 32) + v.toNat)

/-- A write of one word of the MSI-X table (R115). A vector unmasked with its pending bit set is signalled (log entry
31). -/
def HostSt.msixWrite (off : Nat) (v : Word) (h : HostSt) : HostSt :=
  let vec := off / 16
  let lo := 32 * (off / 4 % 4)
  let old := h.msixEntry vec
  let new := (old &&& ~~~(0xFFFFFFFF#128 <<< lo)) ||| (v.setWidth 128 <<< lo)
  let h := { h with msixTable := h.msixTable.set vec new }
  if h.pba.getLsbD vec && !new.getLsbD 96 then
    ({ h with pba := h.pba &&& ~~~(1#256 <<< vec) }).emit (.msix vec)
  else h

/-- A write to a 32-bit word of BAR0 (R115, R118): a register with a command of its own acts as that command, and a write
elsewhere is ignored. A write of ENGAGE_CTL with both bits is DISENGAGE alone (log entry 105). -/
def actRegisterWrite (t off : Nat) (v : Word) (d : Dev) : Dev :=
  let base (r : Ring) (high : Bool) (d : Dev) : Dev := d.ringBase r (setWord (d.host.ring r).base high v)
  let d := d.enter t (if off = 0x100 ∧ v.getLsbD 1 then 5 else 7)
  match off with
  | 0x0100 => if v.getLsbD 1 then d.disengage else if v.getLsbD 0 then d.ringDoorbell else d
  | 0x0200 => base .ticket false d
  | 0x0204 => base .ticket true d
  | 0x0208 => d.ringSize .ticket v.toNat
  | 0x020C => actTqTail t v d
  | 0x0220 => base .completion false d
  | 0x0224 => base .completion true d
  | 0x0228 => d.ringSize .completion v.toNat
  | 0x022C => d.ringHead .completion v
  | 0x0240 => base .event false d
  | 0x0244 => base .event true d
  | 0x0248 => d.ringSize .event v.toNat
  | 0x024C => d.ringHead .event v
  | 0x0300 => { d with host := { d.host with visorT := setWord d.host.visorT false v } }
  | 0x0304 => { d with host := { d.host with visorT := setWord d.host.visorT true v } }
  | 0x0308 => { d with host := { d.host with visorScope := v } }
  | 0x030C => actVisorReq t v d
  | 0x0400 => actEventAck t v.toNat d
  | _ =>
    if 0x8000 ≤ off ∧ off < 0x9000 then { d with host := d.host.msixWrite (off - 0x8000) v } else d

/-- REGISTER_WRITE (R115). -/
def execRegisterWrite (t : Nat) (offset : BitVec 16) (v : Word) (s : State) : Host.Outcome State Fault Refusal :=
  .next { s with dev := actRegisterWrite t (offset.toNat / 4 * 4) v s.dev }

/-- BAR2_WRITE: discarded, and logged in AER as an Unsupported Request of advisory non-fatal severity (R121). -/
def actBar2Write (t : Nat) (d : Dev) : Dev :=
  let d := d.enter t 7
  { d with host := { d.host with aer := (.unsupportedRequest, .advisoryNonFatal) :: d.host.aer } }

/-- BAR2_WRITE (R121). -/
def execBar2Write (t : Nat) (_offset : BitVec 24) (_v : Word) (s : State) : Host.Outcome State Fault Refusal :=
  .next { s with dev := actBar2Write t s.dev }

/-- MSIX_COALESCE_EXPIRY: a held vector is raised (R129). -/
def actMsixCoalesceExpiry (t vec : Nat) (d : Dev) : Dev :=
  let d := d.enter t 7
  match d.host.coalesce.get? vec with
  | some at_ =>
    if d.clk.now < at_ then d
    else { d with host := HostSt.signal { d.host with coalesce := d.host.coalesce.del vec } vec }
  | none => d

/-- MSIX_COALESCE_EXPIRY (R129). -/
def execMsixCoalesceExpiry (t : Nat) (vec : Fin 256) (s : State) : Host.Outcome State Fault Refusal :=
  .next { s with dev := actMsixCoalesceExpiry t vec.val s.dev }

/-- NODE_STATUS (R116). -/
def Dev.nodeStatus (d : Dev) : DWord :=
  let b := d.boot
  BitVec.ofNat 64 (put 32 (if b.loaded then hdrGen b.image.header else 0) + put 16 b.reason.toNat
    + put 8 ((upTo 8).foldl (fun a n => a + (if d.isScan n then 2 ^ n else 0)) 0) + put 7 (b2n d.pins.ready)
    + put 6 (b2n b.recovery) + put 5 b.slot + put 4 (b2n d.isTwin) + put 3 (b2n (b.keyHash != 0)) + put 2 (b2n b.enforce))

/-- STAGE_STATUS (R115). -/
def Boot.stageStatus (b : Boot) : Word := b.stState.setWidth 32 <<< 28 ||| b.stKib.setWidth 32

/-- A 32-bit word of BAR0 as a read returns it (R115 to R117); reads of the lowest words of the two latched registers are
commands of their own. -/
def Dev.bar0Word (d : Dev) (off : Nat) : Nat :=
  let h := d.host
  let pick (v : Nat) (base : Nat) : Nat := v / 2 ^ (8 * (off - base)) % 2 ^ 32
  if off < 0x0008 then pick (put 32 0x534F5656 + put 16 0x8256 + put 8 Config.siliconRevision.toNat + 1) 0
  else if off = 0x0008 then d.node
  else if 0x0010 ≤ off ∧ off < 0x0018 then pick d.nodeStatus.toNat 0x0010
  else if 0x0018 ≤ off ∧ off < 0x0020 then pick Config.serial.toNat 0x0018
  else if 0x0108 ≤ off ∧ off < 0x0110 then pick h.engLatch.toNat 0x0108
  else if 0x0200 ≤ off ∧ off < 0x0208 then pick h.tq.base.toNat 0x0200
  else if off = 0x0208 then h.tq.size.toNat
  else if off = 0x020C then h.tq.hostIdx.toNat
  else if off = 0x0210 then h.tq.devIdx.toNat
  else if 0x0220 ≤ off ∧ off < 0x0228 then pick h.cq.base.toNat 0x0220
  else if off = 0x0228 then h.cq.size.toNat
  else if off = 0x022C then h.cq.hostIdx.toNat
  else if 0x0240 ≤ off ∧ off < 0x0248 then pick h.eq.base.toNat 0x0240
  else if off = 0x0248 then h.eq.size.toNat
  else if off = 0x024C then h.eq.hostIdx.toNat
  else if off = 0x0250 then h.eqDropped.toNat
  else if 0x0300 ≤ off ∧ off < 0x0308 then pick h.visorT.toNat 0x0300
  else if off = 0x0308 then h.visorScope.toNat
  else if off = 0x0310 then b2n d.visorPending
  else if 0x0500 ≤ off ∧ off < 0x0510 then pick h.timeLatch.toNat 0x0500
  else if off = 0x0600 then d.boot.stageStatus.toNat
  else if 0x8000 ≤ off ∧ off < 0x9000 then (h.msixEntry ((off - 0x8000) / 16)).toNat / 2 ^ (8 * (off % 16)) % 2 ^ 32
  else if 0xA000 ≤ off ∧ off < 0xA020 then pick h.pba.toNat 0xA000
  else 0

/-- The word of a unit in the status window (R28, R120): a mitten stands there on its home, under its index (R613). -/
def Dev.windowWord (d : Dev) (u : Nat) : Word :=
  if uclass u = cMITTEN then
    match d.homes.find? (fun m => m % 65536 == u) with
    | some m => d.wordAt m
    | none => 0
  else if d.unitOn u then d.wordOf u
  else 0

/-- A byte of BAR2 (R109, R120, R618). -/
def Dev.bar2Byte (d : Dev) (off : Nat) : Nat :=
  if off < 0x20000 then
    (d.windowWord (off / 4)).toNat / 2 ^ (8 * (off % 4)) % 256
  else if off < 0x20400 then (d.eng.report.getD ((off - 0x20000) / 16) 0).toNat / 2 ^ (8 * (off % 16)) % 256
  else if off < 0x100000 then 0
  else (d.fab.shadow.getD (off - 0x100000) 0).toNat

/-- A staging changes its step and STAGE_STATUS state (R71, R115). -/
def Dev.stageAt (step : StageStep) (st : BitVec 4) (d : Dev) : Dev :=
  { d with boot := { d.boot with stStep := step, stState := st } }

/-- A staging is refused (outcome 1) or fails (outcome 3): STAGE_STATUS 6 and the ticket's completion (R69, R71). -/
def Dev.stageEnd (outcome code : Nat) (d : Dev) : Dev :=
  let slot := d.boot.stTicket
  (({ d with boot := { d.boot with stData := [], xspi := { d.boot.xspi with stageOp := none } } }).stageAt .none 6).finish
    slot outcome code

/-- A STAGE_IMAGE ticket (R68 to R71). -/
def Dev.stage1 (k : Tkt) (d : Dev) : Dev :=
  let e := k.entry
  let len := tf e 447 416
  if d.boot.stage ≠ .recovery ∧ tf e 143 128 ≠ d.node then d.finish k.slot 2 0
  else if d.boot.stStep ≠ .none then d.refuse k 0x011A
  else
    let d := ({ d with boot := { d.boot with stTicket := k.slot, stKib := 0 } }).stageAt .reading 1
    if len % 4 ≠ 0 ∨ len < 88 ∨ 0x4000000 < len then d.stageEnd 1 0x0104
    else d.readHost (tf e 511 448) len

/-- STAGE_IMAGE: a STAGE_IMAGE ticket starts (R69). -/
def actStageImage (t : Nat) (d : Dev) : Dev := (d.enter t 7).ticket 0x0B (fun k d => d.stage1 k)

/-- STAGE_IMAGE (R69). -/
def execStageImage (t : Nat) (s : State) : Host.Outcome State Fault Refusal :=
  .next { s with dev := actStageImage t s.dev }

/-- The checks of R69 and R70 on the bytes of a staged image: the code of the first that fails. -/
def Dev.stageFinding (d : Dev) (k : Tkt) (bs : List Byte) : Option Nat :=
  let len := tf k.entry 447 416
  let h := leNat (bs.take 64)
  let rec_ := d.boot.stage == .recovery
  match headerCheck bs with
  | some code => some code
  | none =>
    if hdrLen h ≠ len then some 0x0104
    else if hdrNode h ≠ (if rec_ then tf k.entry 143 128 else d.node) then some 0x0119
    else if !rec_ ∧ hdrGen h ≤ hdrGen d.boot.image.header then some 0x0118
    else match fullCheck d.boot.fuses bs with
      | .ok _ => none
      | .error code => some code

/-- The slot a staging writes (R67, R70). -/
def Dev.stageSlot (d : Dev) : Nat :=
  if d.boot.stage = .recovery then (if d.boot.bootsel = 2 then 1 else 0) else 1 - d.boot.slot

/-- One staging program operation writes at most 256 bytes, inside one 256-byte page of the flash (R73, log entry 63). -/
def stageChunk (bs : List Byte) (off : Nat) : List Byte := (bs.drop off).take (256 - off % 256)

/-- A read of host memory has returned the bytes asked for; any other count is a read error (DESIGN CHOICE, log entry 64). -/
def readExactly (n : Nat) : ReadResult → Option (List Byte)
  | .error _ => none
  | .data bs => if bs.length = n then some bs else none

/-- STAGE_BUFFER_READ_DONE: the image has been read; it is checked, and the erase begins (R69, R71). -/
def actStageBufferReadDone (t : Nat) (r : ReadResult) (d : Dev) : Dev :=
  let d := d.enter t 7
  match d.boot.stStep, d.tkt d.boot.stTicket with
  | .reading, some k =>
    match readExactly (tf k.entry 447 416) r with
    | none => d.stageEnd 1 0x011B
    | some bs =>
      match d.stageFinding k bs with
      | some code => d.stageEnd 1 code
      | none =>
        let slot := d.stageSlot
        let d := { d with boot := { d.boot with stData := bs, stSlot := slot, stOff := 64 } }
        (d.stageAt .erasing 2).xspiStage (.erase 0 (slotOff slot) slotSize)
  | _, _ => d

/-- STAGE_BUFFER_READ_DONE (R69). -/
def execStageBufferReadDone (t : Nat) (r : ReadResult) (s : State) : Host.Outcome State Fault Refusal :=
  .next { s with dev := actStageBufferReadDone t r s.dev }

/-- The staging asks for a write at an offset of the slot, in a step and a STAGE_STATUS state of R71. -/
def Dev.stageWrite (step : StageStep) (off : Nat) (xs : List Byte) (d : Dev) : Dev :=
  (d.stageAt step 3).xspiStage (.write 0 (slotOff d.boot.stSlot + off) xs)

/-- The staging asks for a read-back. -/
def Dev.stageRead (step : StageStep) (off len : Nat) (d : Dev) : Dev :=
  (d.stageAt step 4).xspiStage (.read 0 (slotOff d.boot.stSlot + off) len)

/-- KiB of the image that stand in the flash (R115). -/
def Dev.stageKib (n : Nat) (d : Dev) : Dev := { d with boot := { d.boot with stKib := BitVec.ofNat 28 (n / 1024) } }

/-- The body's next program operation, or the read-back once the body is written (R71). -/
def Dev.stageBody (d : Dev) : Dev :=
  let bs := d.boot.stData
  if d.boot.stOff < bs.length then d.stageWrite .writing d.boot.stOff (stageChunk bs d.boot.stOff)
  else d.stageRead .comparing 64 (bs.length - 64)

/-- The next step of a staging once a flash operation has ended well (R71); the header goes in two parts, its CRC last
(R72). -/
def Dev.stageNext (op : FlashOp) (d : Dev) : Dev :=
  let bs := d.boot.stData
  let d := match op with | .write cs off xs => d.flashWritten cs off xs | .erase .. => d | .read .. => d
  match d.boot.stStep with
  | .none | .reading => d
  | .erasing => d.stageBody
  | .writing =>
    let off := d.boot.stOff + (stageChunk bs d.boot.stOff).length
    (({ d with boot := { d.boot with stOff := off } }).stageKib (off - 64)).stageBody
  | .comparing =>
    if d.boot.flashBytes 0 (slotOff d.boot.stSlot + 64) (bs.length - 64) = bs.drop 64 then
      d.stageWrite .header 0 (bs.take 60)
    else d.stageEnd 3 0x011B
  | .header => d.stageWrite .headerLast 60 ((bs.take 64).drop 60)
  | .headerLast => (d.stageKib bs.length).stageRead .headerCheck 0 64
  | .headerCheck =>
    if (headerCheck (d.boot.slotHeader d.boot.stSlot)).isNone then
      (({ d with boot := { d.boot with stData := [] } }).stageAt .none 5).finish d.boot.stTicket 0 0 0
        (hdrGen (leNat (bs.take 64)))
    else d.stageEnd 3 0x011B

/-- STAGE_FLASH_OP_DONE: the flash operation that runs for a staging has ended, good or not (R71); what waits for the
flash goes on, the calibration store first (R73). -/
def actStageFlashOpDone (t : Nat) (good : Bool) (d : Dev) : Dev :=
  let d := d.enter t 7
  match d.xspiRuns false with
  | none => d
  | some op =>
    let d := d.xspiFree
    (if good then d.stageNext op else d.stageEnd 3 0x011B).xspiGo

/-- STAGE_FLASH_OP_DONE (R71). -/
def execStageFlashOpDone (t : Nat) (good : Bool) (s : State) : Host.Outcome State Fault Refusal :=
  .next { s with dev := actStageFlashOpDone t good s.dev }

end Sys2Proof.Machine
end

