-- ==== Sys2Proof/Machine/Power.lean ====
section
/-! DEFINITION. The loss of a power domain after READY (R586), and the domains that T_crit switches off (R574). -/

namespace Sys2Proof.Machine

/-- The stations a domain serves whose loss is a station fault that cannot be contained: its own, those of its banks, and
every one for table memory, DMA, SYSPLL and TPLL (R586). -/
def Dev.stnsServed (d : Dev) (k : Nat) : List Nat :=
  if 64 ≤ k ∧ k < 72 then [k - 64].filter d.stnOn
  else if 72 ≤ k ∧ k < 88 then
    d.stations.filter (fun n => (d.banksOf n).any (fun b => b / 2 == k - 72))
  else if k = 88 ∨ k = 127 ∨ k = 116 ∨ k = 117 then d.stations
  else []

/-- A unit is in FAULT with 0x0C0A; one that is FENCED stays so (R586, R643). -/
def Dev.powerFault (u : Nat) (d : Dev) : Dev :=
  d.report u 0x0C0A (if d.ust u = .fenced then none else some .fault)

/-- A station fault that cannot be contained: the station in FAULT, its pages in MARKING aborted (R153, R586). -/
def Dev.stationLost (n : Nat) (d : Dev) : Dev :=
  ((d.jobs.pages.filter (fun p => bit p.mask n && p.state == .marking && p.abortAt.isNone)).foldl
    (fun d p => (d.abort p).report uNODE 0x0E15) d).powerFault (uid cSTN n)

/-- A unit without power: its lane or port is down and does not train, its outputs are safe (R433, R477, R517, R551,
R586). -/
def Dev.unpower (u : Nat) (d : Dev) : Dev :=
  let i := uindex u
  let c := uclass u
  if c = cLANE then
    (if (d.lane.at i).up then d.laneDown i else d).updLane i (fun x => { x with training := false, lock := false })
  else if c = cAXIS then d.axisSafe i
  else if c = cSTEP then d.stepSafe i
  else if c = cLOOP then d.loopSafe i
  else if c = cACT then d.actSafe i
  else if c = cLAMP then d.lampOff i
  else if c = cCLKO then d.park i
  else if c = cPLL then
    (if 2 ≤ i then d.refLoss (i - 2) 0x0206 else d).updPll i (fun x => { x with locked := false, ref := false })
  else if c = cXPORT then
    (if (d.fab.ports.at i).up then d.portLost i else d).updPort i (fun x => { x with training := false })
  else d

/-- A loop or axis without power has left its condition as an interlock (R149, R512). -/
def Dev.interlockLost (u : Nat) (d : Dev) : Dev :=
  let i := uindex u
  if uclass u = cLOOP then
    d.leaveBand i
  else if uclass u = cAXIS then d.interlockLeft u (fun p => bit p.axisMask i)
  else d

/-- DOMAIN_LOST: a domain leaves good after READY; it and its units are in FAULT with 0x0C0A, with the consequences of
R586. -/
def actDomainLost (t k : Nat) (d : Dev) : Dev :=
  let d := d.enter t 4
  if !d.boot.ran || !(d.dom.at k).good then d
  else
    let stns := d.stnsServed k
    let us := (d.unitsIn k).filter (fun u => uclass u != cSTN)
    let d := { d with dom := d.dom.upd k (fun x => { x with good := false }) }
    let d := d.powerFault (uid cDOMAIN k)
    let d := us.foldl (fun d u => ((d.unpower u).powerFault u).interlockLost u) d
    stns.foldl (fun d n => d.stationLost n) d

/-- DOMAIN_LOST (R586). -/
def execDomainLost (t : Nat) (dom : Fin 128) (s : State) : Host.Outcome State Fault Refusal :=
  .next { s with dev := actDomainLost t dom.val s.dev }

/-- With their stations' domains off, the pages that T_crit aborted end (R142, R154, R574). -/
def Dev.endAborted (d : Dev) : Dev :=
  (d.jobs.pages.filter (fun p => p.state == .marked || (p.state == .marking && p.abortAt.isSome))).foldl
    (fun d p => d.endRest p.order) d

/-- TCRIT_DOMAIN_OFF: 1 ms after T_crit SPINE switches off every domain but those of R574 that R584 allows. -/
def actTcritDomainOff (t : Nat) (d : Dev) : Dev :=
  let d := d.enter t 7
  let ended : Bool := match d.temp.critAt with
    | some a => a + msq 1 ≤ d.clk.now
    | none => false
  if d.boot.stage ≠ .critical ∨ !ended then d
  else
    (((upTo 128).filter (fun k => (d.dom.at k).on && !(critKept.contains k && d.domWanted k))).foldl
      (fun d k => d.domOff k) d).endAborted

/-- TCRIT_DOMAIN_OFF (R574). -/
def execTcritDomainOff (t : Nat) (s : State) : Host.Outcome State Fault Refusal :=
  .next { s with dev := actTcritDomainOff t s.dev }

end Sys2Proof.Machine
end

