-- ==== Sys2Proof/Machine/Dispatch.lean ====
section
/-! DEFINITION. One arm per command: its meaning, or its rejection by name. -/

namespace Sys2Proof.Machine

/-- The effect of a command on everything but the queue. -/
def exec (i : Instr) (s : State) : Host.Outcome State Fault Refusal :=
  match i with
  | .spineRelease t x => Sys2Proof.Machine.execSpineRelease t x s
  | .rstN t lowNs => Sys2Proof.Machine.execRstN t lowNs s
  | .brownout t rail => Sys2Proof.Machine.execBrownout t rail s
  | .supplyLoss t cause => Sys2Proof.Machine.execSupplyLoss t cause s
  | .wakeRequest t lowUs => Sys2Proof.Machine.execWakeRequest t lowUs s
  | .imageLoadDone t => Sys2Proof.Machine.execImageLoadDone t s
  | .domainStep t => Sys2Proof.Machine.execDomainStep t s
  | .domainGoodTimeout t dom => Sys2Proof.Machine.execDomainGoodTimeout t dom s
  | .pllLock t pll band code rateMilliHz => Sys2Proof.Machine.execPllLock t pll band code rateMilliHz s
  | .pllLockAttemptFail t pll => Sys2Proof.Machine.execPllLockAttemptFail t pll s
  | .bandSearchFail t pll => Sys2Proof.Machine.execBandSearchFail t pll s
  | .pllHandover t pll band code rateMilliHz => Sys2Proof.Machine.execPllHandover t pll band code rateMilliHz s
  | .pllUnlock t pll => Sys2Proof.Machine.execPllUnlock t pll s
  | .pllRefLost t pll => Sys2Proof.Machine.execPllRefLost t pll s
  | .holdoverTick t pll => Sys2Proof.Machine.execHoldoverTick t pll s
  | .pllRefReturn t pll => Sys2Proof.Machine.execPllRefReturn t pll s
  | .ppllFollow t stn => Sys2Proof.Machine.execPpllFollow t stn s
  | .crownWaitTimeout t => Sys2Proof.Machine.execCrownWaitTimeout t s
  | .pairingTimeout t => Sys2Proof.Machine.execPairingTimeout t s
  | .ready t => Sys2Proof.Machine.execReady t s
  | .engageDoorbell t => Sys2Proof.Machine.execEngageDoorbell t s
  | .disengage t => Sys2Proof.Machine.execDisengage t s
  | .engagePinRise t => Sys2Proof.Machine.execEngagePinRise t s
  | .engagePinFall t => Sys2Proof.Machine.execEngagePinFall t s
  | .timeWaitTimeout t => Sys2Proof.Machine.execTimeWaitTimeout t s
  | .gauntletDone t badInputs => Sys2Proof.Machine.execGauntletDone t badInputs s
  | .rundownStart t => Sys2Proof.Machine.execRundownStart t s
  | .axisRest t unit => Sys2Proof.Machine.execAxisRest t unit s
  | .stopTimeout t => Sys2Proof.Machine.execStopTimeout t s
  | .hostReset t kind => Sys2Proof.Machine.execHostReset t kind s
  | .tqTail t v => Sys2Proof.Machine.execTqTail t v s
  | .cqHead t v => Sys2Proof.Machine.execCqHead t v s
  | .eqHead t v => Sys2Proof.Machine.execEqHead t v s
  | .ringSizeWrite t ring v => Sys2Proof.Machine.execRingSizeWrite t ring v s
  | .ringBaseWrite t ring v => Sys2Proof.Machine.execRingBaseWrite t ring v s
  | .visorReq t v => Sys2Proof.Machine.execVisorReq t v s
  | .eventAck t unit => Sys2Proof.Machine.execEventAck t unit s
  | .timeNowLatchRead t => Sys2Proof.Machine.execTimeNowLatchRead t s
  | .engageStatusLatchRead t => Sys2Proof.Machine.execEngageStatusLatchRead t s
  | .registerWrite t offset v => Sys2Proof.Machine.execRegisterWrite t offset v s
  | .bar2Write t offset v => Sys2Proof.Machine.execBar2Write t offset v s
  | .ticketFetch t entry => Sys2Proof.Machine.execTicketFetch t entry s
  | .ticketFetchError t why => Sys2Proof.Machine.execTicketFetchError t why s
  | .openJob t => Sys2Proof.Machine.execOpenJob t s
  | .page t => Sys2Proof.Machine.execPage t s
  | .plane t => Sys2Proof.Machine.execPlane t s
  | .cal t => Sys2Proof.Machine.execCal t s
  | .calBufferReadDone t r => Sys2Proof.Machine.execCalBufferReadDone t r s
  | .testpage t => Sys2Proof.Machine.execTestpage t s
  | .nozzle t => Sys2Proof.Machine.execNozzle t s
  | .glide t => Sys2Proof.Machine.execGlide t s
  | .spit t => Sys2Proof.Machine.execSpit t s
  | .visor t => Sys2Proof.Machine.execVisor t s
  | .twinSwap t => Sys2Proof.Machine.execTwinSwap t s
  | .stageImage t => Sys2Proof.Machine.execStageImage t s
  | .stageBufferReadDone t r => Sys2Proof.Machine.execStageBufferReadDone t r s
  | .stageFlashOpDone t good => Sys2Proof.Machine.execStageFlashOpDone t good s
  | .closeJob t => Sys2Proof.Machine.execCloseJob t s
  | .msixCoalesceExpiry t vec => Sys2Proof.Machine.execMsixCoalesceExpiry t vec s
  | .pageArm t job page => Sys2Proof.Machine.execPageArm t job page s
  | .armDeadline t job page => Sys2Proof.Machine.execArmDeadline t job page s
  | .cueEdge t cue rising widthNs => Sys2Proof.Machine.execCueEdge t cue rising widthNs s
  | .virtualLeadingEdge t stn => Sys2Proof.Machine.execVirtualLeadingEdge t stn s
  | .lePosReached t job page => Sys2Proof.Machine.execLePosReached t job page s
  | .pageEdge t node stn seq tEdge => Sys2Proof.Machine.execPageEdge t node stn seq tEdge s
  | .markingStart t job page => Sys2Proof.Machine.execMarkingStart t job page s
  | .latticeStamp t stn edges counts => Sys2Proof.Machine.execLatticeStamp t stn edges counts s
  | .ssiWord t enc word => Sys2Proof.Machine.execSsiWord t enc word s
  | .quadError t enc => Sys2Proof.Machine.execQuadError t enc s
  | .encFault t enc => Sys2Proof.Machine.execEncFault t enc s
  | .overspeed t stn => Sys2Proof.Machine.execOverspeed t stn s
  | .coastSpent t stn => Sys2Proof.Machine.execCoastSpent t stn s
  | .glideStep t stn => Sys2Proof.Machine.execGlideStep t stn s
  | .fireEventBuildStart t x => Sys2Proof.Machine.execFireEventBuildStart t x s
  | .fireEventStep4 t stn => Sys2Proof.Machine.execFireEventStep4 t stn s
  | .fireFrameIssue t stn => Sys2Proof.Machine.execFireFrameIssue t stn s
  | .spitLineIssue t stn => Sys2Proof.Machine.execSpitLineIssue t stn s
  | .idleSpitStart t stn => Sys2Proof.Machine.execIdleSpitStart t stn s
  | .idleSpitLine t stn => Sys2Proof.Machine.execIdleSpitLine t stn s
  | .brimAudit t stn => Sys2Proof.Machine.execBrimAudit t stn s
  | .bandGrant t bank => Sys2Proof.Machine.execBandGrant t bank s
  | .bandReturn t bank band => Sys2Proof.Machine.execBandReturn t bank band s
  | .overholdCutoff t bank requester lock => Sys2Proof.Machine.execOverholdCutoff t bank requester lock s
  | .scatterFetchDone t ch entries => Sys2Proof.Machine.execScatterFetchDone t ch entries s
  | .scatterFetchFail t ch => Sys2Proof.Machine.execScatterFetchFail t ch s
  | .dmaReadIssue t ch => Sys2Proof.Machine.execDmaReadIssue t ch s
  | .tokenRefill t ch mtPerS width => Sys2Proof.Machine.execTokenRefill t ch mtPerS width s
  | .dmaReadCompletion t ch tag r => Sys2Proof.Machine.execDmaReadCompletion t ch tag r s
  | .dmaReadTimeout t ch tag => Sys2Proof.Machine.execDmaReadTimeout t ch tag s
  | .except t lane f => Sys2Proof.Machine.execExcept t lane f s
  | .suspectWindowClose t lane nozzle => Sys2Proof.Machine.execSuspectWindowClose t lane nozzle s
  | .ack t lane f => Sys2Proof.Machine.execAck t lane f s
  | .hello t lane f => Sys2Proof.Machine.execHello t lane f s
  | .telem t lane f => Sys2Proof.Machine.execTelem t lane f s
  | .mismatch t lane f => Sys2Proof.Machine.execMismatch t lane f s
  | .rxFrameDiscard t lane x => Sys2Proof.Machine.execRxFrameDiscard t lane x s
  | .timeExchange t lane => Sys2Proof.Machine.execTimeExchange t lane s
  | .timeNoEcho t lane => Sys2Proof.Machine.execTimeNoEcho t lane s
  | .blockLock t lane => Sys2Proof.Machine.execBlockLock t lane s
  | .laneUp t lane => Sys2Proof.Machine.execLaneUp t lane s
  | .trainAttemptTimeout t lane => Sys2Proof.Machine.execTrainAttemptTimeout t lane s
  | .linkDown t lane => Sys2Proof.Machine.execLinkDown t lane s
  | .sosEdge t x => Sys2Proof.Machine.execSosEdge t x s
  | .sosWindowTimeout t x => Sys2Proof.Machine.execSosWindowTimeout t x s
  | .eosEdge t x => Sys2Proof.Machine.execEosEdge t x s
  | .eosWindowTimeout t stn => Sys2Proof.Machine.execEosWindowTimeout t stn s
  | .sweepDataIssue t stn => Sys2Proof.Machine.execSweepDataIssue t stn s
  | .calStoreWriteDone t good => Sys2Proof.Machine.execCalStoreWriteDone t good s
  | .calCommitTimeout t => Sys2Proof.Machine.execCalCommitTimeout t s
  | .currentLoop t ax x => Sys2Proof.Machine.execCurrentLoop t ax x s
  | .axisOvercurrent t ax => Sys2Proof.Machine.execAxisOvercurrent t ax s
  | .sdmLost t sdm => Sys2Proof.Machine.execSdmLost t sdm s
  | .alignDone t ax => Sys2Proof.Machine.execAlignDone t ax s
  | .hallEdge t ax code => Sys2Proof.Machine.execHallEdge t ax code s
  | .encZEdge t enc count => Sys2Proof.Machine.execEncZEdge t enc count s
  | .followingError t ax => Sys2Proof.Machine.execFollowingError t ax s
  | .curveSample t ax => Sys2Proof.Machine.execCurveSample t ax s
  | .stepperPhaseLoop t st x => Sys2Proof.Machine.execStepperPhaseLoop t st x s
  | .stepperOvercurrent t st => Sys2Proof.Machine.execStepperOvercurrent t st s
  | .coilOpen t st => Sys2Proof.Machine.execCoilOpen t st s
  | .holdCurrentDelay t st => Sys2Proof.Machine.execHoldCurrentDelay t st s
  | .stepZeroCapture t st => Sys2Proof.Machine.execStepZeroCapture t st s
  | .stall t st => Sys2Proof.Machine.execStall t st s
  | .profileTick t unit => Sys2Proof.Machine.execProfileTick t unit s
  | .adcConversion t ain raw scheduled => Sys2Proof.Machine.execAdcConversion t ain raw scheduled s
  | .loopExecution t lp => Sys2Proof.Machine.execLoopExecution t lp s
  | .sourceHoldTimeout t lp => Sys2Proof.Machine.execSourceHoldTimeout t lp s
  | .saturationFinding t lp => Sys2Proof.Machine.execSaturationFinding t lp s
  | .lampPeriod t lm => Sys2Proof.Machine.execLampPeriod t lm s
  | .lampOvercurrent t lm => Sys2Proof.Machine.execLampOvercurrent t lm s
  | .xasonTime t port f => Sys2Proof.Machine.execXasonTime t port f s
  | .fabricTimeExchange t => Sys2Proof.Machine.execFabricTimeExchange t s
  | .ptpSync t m => Sys2Proof.Machine.execPtpSync t m s
  | .ptpAnnounceTimeout t => Sys2Proof.Machine.execPtpAnnounceTimeout t s
  | .ppsEdge x => Sys2Proof.Machine.execPpsEdge x s
  | .todFrame t f => Sys2Proof.Machine.execTodFrame t f s
  | .ppsLost t => Sys2Proof.Machine.execPpsLost t s
  | .scratchWrite t => Sys2Proof.Machine.execScratchWrite t s
  | .diodeConversion t r => Sys2Proof.Machine.execDiodeConversion t r s
  | .thermalPageTest t => Sys2Proof.Machine.execThermalPageTest t s
  | .tcritDomainOff t => Sys2Proof.Machine.execTcritDomainOff t s
  | .thermalQ t node => Sys2Proof.Machine.execThermalQ t node s
  | .thermalA t node temp sensor => Sys2Proof.Machine.execThermalA t node temp sensor s
  | .thermalQueryTimeout t => Sys2Proof.Machine.execThermalQueryTimeout t s
  | .thermalRecheck t => Sys2Proof.Machine.execThermalRecheck t s
  | .thermalSwapTimeout t => Sys2Proof.Machine.execThermalSwapTimeout t s
  | .domainLost t dom => Sys2Proof.Machine.execDomainLost t dom s
  | .xportTrained t port oneLane => Sys2Proof.Machine.execXportTrained t port oneLane s
  | .xportLinkDown t port => Sys2Proof.Machine.execXportLinkDown t port s
  | .xasonHello t port f => Sys2Proof.Machine.execXasonHello t port f s
  | .candidacy t port m => Sys2Proof.Machine.execCandidacy t port m s
  | .route t port f => Sys2Proof.Machine.execRoute t port f s
  | .credit t port f => Sys2Proof.Machine.execCredit t port f s
  | .auditPeriod t => Sys2Proof.Machine.execAuditPeriod t s
  | .crownLost t => Sys2Proof.Machine.execCrownLost t s
  | .status t finger word => Sys2Proof.Machine.execStatus t finger word s
  | .mittenJoin t m => Sys2Proof.Machine.execMittenJoin t m s
  | .audit t mitten unit reason => Sys2Proof.Machine.execAudit t mitten unit reason s
  | .visorReqMsg t m => Sys2Proof.Machine.execVisorReqMsg t m s
  | .visorLatch t node visorId => Sys2Proof.Machine.execVisorLatch t node visorId s
  | .visorData t m => Sys2Proof.Machine.execVisorData t m s
  | .visorEnd t m => Sys2Proof.Machine.execVisorEnd t m s
  | .visorTimeout t visorId => Sys2Proof.Machine.execVisorTimeout t visorId s
  | .heartbeatSend t watchdogsGood => Sys2Proof.Machine.execHeartbeatSend t watchdogsGood s
  | .heartbeat t m => Sys2Proof.Machine.execHeartbeat t m s
  | .renew t m => Sys2Proof.Machine.execRenew t m s
  | .leaseExpired t => Sys2Proof.Machine.execLeaseExpired t s
  | .leaseTimeout t pairLo => Sys2Proof.Machine.execLeaseTimeout t pairLo s
  | .fenceReadback t pairLo low => Sys2Proof.Machine.execFenceReadback t pairLo low s
  | .grant t m => Sys2Proof.Machine.execGrant t m s
  | .grantRefused t m => Sys2Proof.Machine.execGrantRefused t m s
  | .rejoinReq t m => Sys2Proof.Machine.execRejoinReq t m s
  | .rejoinOk t m => Sys2Proof.Machine.execRejoinOk t m s
  | .claim t m => Sys2Proof.Machine.execClaim t m s
  | .claimOk t m => Sys2Proof.Machine.execClaimOk t m s
  | .swapReq t m => Sys2Proof.Machine.execSwapReq t m s
  | .swapRefused t m => Sys2Proof.Machine.execSwapRefused t m s
  | .swapReqPin t lowMs => Sys2Proof.Machine.execSwapReqPin t lowMs s
  | .fence t m => Sys2Proof.Machine.execFence t m s
  | .fenceN t high => Sys2Proof.Machine.execFenceN t high s
  | .refereeLost t => Sys2Proof.Machine.execRefereeLost t s
  | .pair t m => Sys2Proof.Machine.execPair t m s
  | .liningSnapshot t f => Sys2Proof.Machine.execLiningSnapshot t f s
  | .liningDelta t f => Sys2Proof.Machine.execLiningDelta t f s
  | .liningLagExceeded t why => Sys2Proof.Machine.execLiningLagExceeded t why s
  | .resyncTimeout t => Sys2Proof.Machine.execResyncTimeout t s
  | .mirrorHoldExpired t => Sys2Proof.Machine.execMirrorHoldExpired t s
  | .vstbyApplied t => Sys2Proof.Machine.execVstbyApplied t s
  | .vstbyLost t => Sys2Proof.Machine.execVstbyLost t s
  | .ioBankSupplyGood t bank => Sys2Proof.Machine.execIoBankSupplyGood t bank s
  | .fuseProgramming t cmd => Sys2Proof.Machine.execFuseProgramming t cmd s
  | .xasonFrameDiscard t x => Sys2Proof.Machine.execXasonFrameDiscard t x s

end Sys2Proof.Machine
end

