-- ==== Sys2Proof/WellFormed.lean ====
section
/-! DEFINITION. Well-formed commands: the limits the manual puts on what a command brings, where the types of
`Sys2Proof.Instr` do not already hold them. -/

namespace Sys2Proof

/-- A full address names a unit of some node (R24, R25). -/
def uvalidAt (a : Word) : Bool := Machine.uvalid (a.toNat % 65536)

/-- A full address names a mitten (R24, R25). -/
def mittenAt (a : Word) : Bool := uvalidAt a && Machine.uclass (a.toNat % 65536) == Machine.cMITTEN

/-- A local unit of an input class the gauntlet tests for opens and shorts (R105). -/
def inputUnit (u : Nat) : Bool :=
  Machine.uvalid u && [Machine.cENC, Machine.cCUE, Machine.cSOS, Machine.cSDM].contains (Machine.uclass u)

/-- A local unit that is an axis or a stepper (R25). -/
def driveUnit (u : Nat) : Bool :=
  Machine.uvalid u && (Machine.uclass u == Machine.cAXIS || Machine.uclass u == Machine.cSTEP)

/-- A read answers with at most `n` bytes. -/
def ReadResult.within (n : Nat) : ReadResult → Bool
  | .data bytes => bytes.length ≤ n
  | .error _ => true

/-- A ROUTE message carries 1 to 22 ranges of node ids, each from its first to its last (R602); a routed frame has at most
16 blocks on the urgent channel and 256 on the bulk one (R599). -/
def RoutedFrame.wf : RoutedFrame → Bool
  | .route m => 1 ≤ m.ranges.length && m.ranges.length ≤ 22 && m.ranges.all (fun r => r.1.toNat ≤ r.2.toNat)
  | .transit h => h.body.length + 4 ≤ (if h.bulk then 256 else 16)

/-- The codes of a lining entry are codes of the manual: ENG_STATE (R103), a page state (R142), an outcome (R141), a
nozzle state (R315). -/
def LiningEntry.wf : LiningEntry → Bool
  | .engagement st _ => st.toNat ≤ 5
  | .page _ _ st _ => st.toNat ≤ 6
  | .ticket _ o => o.toNat ≤ 3
  | .nozzle _ _ st => st.toNat ≤ 2
  | .job .. | .binding .. | .placement .. | .seq .. | .ledger .. | .axis .. | .stepper .. | .loop .. | .act .. | .lamp .. => true
  | .calibration .. | .partnerLane .. => true

/-- A command the outside world can bring: a stamp of the lattice brings at least one edge (R201), a piece of a scatter
list has 1 to 256 entries (R183), a read answers with at most 4 KiB (R185), an EXCEPT frame has 1 to 64 entries (R375), a
ToD frame has 16 bytes (R557), a reported state code is none of 8 to 15 (R29), a
MITTEN_JOIN has 1 to 14 fingers and at most 7 ancestors, and a VISOR_DATA 8 to 2,000 bytes in whole words (R602), and
KIND of a FENCE is 0 or 1 (R646). -/
def Instr.wf : Instr → Bool
  | .spineRelease .. | .rstN .. | .brownout .. | .supplyLoss .. | .wakeRequest .. | .imageLoadDone ..
  | .domainStep .. | .domainGoodTimeout .. | .pllLock .. | .pllLockAttemptFail .. | .bandSearchFail ..
  | .pllHandover .. | .pllUnlock .. | .pllRefLost .. | .holdoverTick .. | .pllRefReturn .. | .ppllFollow ..
  | .crownWaitTimeout .. | .pairingTimeout .. | .ready .. | .engageDoorbell .. | .disengage .. | .engagePinRise ..
  | .engagePinFall .. | .timeWaitTimeout .. => true
  | .gauntletDone _ badInputs => badInputs.all (fun u => inputUnit u.toNat)
  | .rundownStart .. => true
  | .axisRest _ unit => driveUnit unit.toNat
  | .stopTimeout .. | .hostReset .. | .tqTail .. | .cqHead .. | .eqHead .. | .ringSizeWrite .. | .ringBaseWrite ..
  | .visorReq .. | .eventAck .. | .timeNowLatchRead .. | .engageStatusLatchRead .. | .registerWrite ..
  | .bar2Write .. | .ticketFetch .. | .ticketFetchError .. | .openJob .. | .page .. | .plane .. | .cal ..
  | .calBufferReadDone .. | .testpage .. | .nozzle .. | .glide .. | .spit .. | .visor .. | .twinSwap ..
  | .stageImage .. | .stageBufferReadDone .. | .stageFlashOpDone .. | .closeJob .. | .msixCoalesceExpiry ..
  | .pageArm .. | .armDeadline .. | .cueEdge .. | .virtualLeadingEdge .. | .lePosReached .. | .pageEdge ..
  | .markingStart .. => true
  | .latticeStamp _ _ edges _ => edges != 0
  | .ssiWord .. | .quadError .. | .encFault .. | .overspeed .. | .coastSpent .. | .glideStep ..
  | .fireEventBuildStart .. | .fireEventStep4 .. | .fireFrameIssue .. | .spitLineIssue .. | .idleSpitStart ..
  | .idleSpitLine .. | .brimAudit .. | .bandGrant .. | .bandReturn .. | .overholdCutoff .. => true
  | .scatterFetchDone _ _ entries => 1 ≤ entries.length && entries.length ≤ 256
  | .scatterFetchFail .. | .dmaReadIssue .. => true
  | .tokenRefill _ _ mtPerS width => 0 < mtPerS && 0 < width
  | .dmaReadCompletion _ _ _ r => r.within 4096
  | .dmaReadTimeout .. => true
  | .except _ _ f => 1 ≤ f.entries.length && f.entries.length ≤ 64
  | .suspectWindowClose .. | .ack .. | .hello .. | .telem .. | .mismatch .. | .rxFrameDiscard .. | .timeExchange ..
  | .timeNoEcho .. | .blockLock .. | .laneUp .. | .trainAttemptTimeout .. | .linkDown .. | .sosEdge ..
  | .sosWindowTimeout .. | .eosEdge .. | .eosWindowTimeout .. | .sweepDataIssue .. | .calStoreWriteDone ..
  | .calCommitTimeout .. => true
  | .currentLoop .. | .axisOvercurrent .. | .sdmLost .. | .alignDone .. | .hallEdge .. | .encZEdge .. | .followingError ..
  | .curveSample .. | .stepperPhaseLoop .. | .stepperOvercurrent .. | .coilOpen .. | .holdCurrentDelay ..
  | .stepZeroCapture .. | .stall .. => true
  | .profileTick _ unit => driveUnit unit.toNat
  | .adcConversion .. | .loopExecution .. | .sourceHoldTimeout .. | .saturationFinding .. | .lampPeriod ..
  | .lampOvercurrent .. | .xasonTime .. | .fabricTimeExchange .. | .ptpSync .. | .ptpAnnounceTimeout .. | .ppsEdge .. => true
  | .todFrame _ f => f.bytes.length == 16
  | .ppsLost .. | .scratchWrite .. | .diodeConversion .. | .thermalPageTest .. | .tcritDomainOff .. | .thermalQ ..
  | .thermalA .. | .thermalQueryTimeout .. | .thermalRecheck .. | .thermalSwapTimeout .. | .domainLost ..
  | .xportTrained .. | .xportLinkDown .. | .xasonHello .. | .candidacy .. => true
  | .route _ _ f => f.wf
  | .credit .. | .auditPeriod .. | .crownLost .. => true
  | .status _ finger word => uvalidAt finger && word.toNat / 2 ^ 28 ≤ 7
  | .mittenJoin _ m => 1 ≤ m.fingers.length && m.fingers.length ≤ 14 && m.ancestors.length ≤ 7
  | .audit _ mitten unit _ => mittenAt mitten && uvalidAt unit
  | .visorReqMsg .. | .visorLatch .. => true
  | .visorData _ m => m.bytes.length % 8 == 0 && 8 ≤ m.bytes.length && m.bytes.length ≤ 2000
  | .visorEnd .. | .visorTimeout .. | .heartbeatSend .. | .heartbeat .. | .renew .. | .leaseExpired ..
  | .leaseTimeout .. | .fenceReadback .. | .grant .. | .grantRefused .. | .rejoinReq .. | .rejoinOk .. | .claim ..
  | .claimOk .. | .swapReq .. | .swapRefused .. | .swapReqPin .. => true
  | .fence _ m => m.kind.toNat ≤ 1
  | .fenceN .. | .refereeLost .. | .pair .. => true
  | .liningSnapshot _ f => f.entry.wf
  | .liningDelta _ f => f.entry.wf
  | .liningLagExceeded .. | .resyncTimeout .. | .mirrorHoldExpired .. | .vstbyApplied .. | .vstbyLost ..
  | .ioBankSupplyGood .. | .fuseProgramming .. | .xasonFrameDiscard .. => true

end Sys2Proof
end

