-- ==== Sys2Proof/Safety.lean ====
section
/-! DEFINITION. The terms in which claims about the device are stated: what a report does to the device, what a send
does, and the form of a state that every step keeps. -/

namespace Sys2Proof.Machine

/-- `d` is `e` but for what a send touches: the host port's interfaces, the ports of the fabric, frames that wait for a
route, and the counters FRAMES_TX and CREDIT_STALLS (R604, R605, R609, R626). What stands in the host port is left open. -/
def Dev.Sent (e d : Dev) : Prop :=
  { d with host := e.host, fab := e.fab, ctr := e.ctr } = e
  ∧ d.fab = { e.fab with ports := d.fab.ports, held := d.fab.held }
  ∧ ∀ v k, k ≠ .FRAMES_TX → k ≠ .CREDIT_STALLS → d.ctrAt v k = e.ctrAt v k

/-- `d` is `e` after a message of another node, with what accepting it and answering it touch: FRAMES_RX of the port it came
on, and what a send touches (R604, R609, R626). -/
def Dev.Took (e d : Dev) : Prop := e.Sent d ∨ ∃ p, (e.bump (uid cXPORT p) .FRAMES_RX 1).Sent d

/-- `d` is `e` after one report of reason `code` on the local unit `u`, with the new STATE `st` where one is given: the
unit's status word takes the event (R28, R30, R686), every other unit's stays, BOOT_REASON notes an image or start-up code
(R116), and nothing else changes but what posting the event in the host port and sending the status on touch. -/
def Dev.Reports (e : Dev) (u code : Nat) (st : Option UState) (d : Dev) : Prop :=
  d.us u = (e.us u).event (e.clk.now / 4) e.clk.rank e.host.order (kindOf code).severity code st (kindOf code).needsAck
  ∧ (∀ v, v ≠ u → d.us v = e.us v)
  ∧ Dev.Sent { e with units := d.units, boot := e.boot.noted code } d

/-- `d` is `e` after several reports, one after another. -/
def Dev.ReportsAll (e : Dev) : List (Nat × Nat × Option UState) → Dev → Prop
  | [], d => d = e
  | (u, code, st) :: r, d => ∃ m, e.Reports u code st m ∧ m.ReportsAll r d

/-- From `e` to `d` the status word of the local unit `u` has taken one event and no other: that of a report of reason
`code` with the new STATE `st` where one is given (R28, R30, R686). -/
def Dev.Heard (e : Dev) (u code : Nat) (st : Option UState) (d : Dev) : Prop :=
  ∃ o, d.us u = (e.us u).event (e.clk.now / 4) e.clk.rank o (kindOf code).severity code st (kindOf code).needsAck

/-- The command runs: it answers a next state that keeps the queue, with a device that meets `P`. -/
def Runs (i : Instr) (s : State) (P : Dev → Prop) : Prop := ∃ d, exec i s = .next { s with dev := d } ∧ P d

/-- From `e` to `d` the final completion of a ticket has arisen (R124, R141): it has the next SEQ, the ticket's slot and
the given OUTCOME and REASON, it waits to be posted or stands in the ring, and the ticket has ended. -/
def Dev.Completes (e : Dev) (slot outcome reason : Nat) (d : Dev) : Prop :=
  d.host.cqSeq = nextSeq e.host.cqSeq ∧ d.tkt slot = none
  ∧ ∃ c : Compl, c.seq = e.host.cqSeq ∧ c.slot = slot ∧ c.outcome = outcome ∧ c.reason = reason
    ∧ c.flags.testBit fFINAL = true
    ∧ (c ∈ d.host.keptCq
        ∨ ∃ n p, Out.entryBody .completion n ((withPhase (c.entry d.stamp d.node) p).extractLsb' 32 480) ∈ d.host.out
          ∧ Out.entryHead .completion n ((withPhase (c.entry d.stamp d.node) p).extractLsb' 0 32) ∈ d.host.out)

/-- The parts of the device. -/
inductive Part
  | clk | units | ctr | host | boot | pins | eng | jobs | plane | stn | lane | enc | cueHold | cal | axis | prof | step
  | ain | loop | act | lamp | pll | clko | temp | dom | fab | twin | ref | free
  deriving DecidableEq, Repr

/-- A part is the same in two devices. -/
def Part.Same (d e : Dev) : Part → Prop
  | .clk => d.clk = e.clk
  | .units => d.units = e.units
  | .ctr => d.ctr = e.ctr
  | .host => d.host = e.host
  | .boot => d.boot = e.boot
  | .pins => d.pins = e.pins
  | .eng => d.eng = e.eng
  | .jobs => d.jobs = e.jobs
  | .plane => d.plane = e.plane
  | .stn => d.stn = e.stn
  | .lane => d.lane = e.lane
  | .enc => d.enc = e.enc
  | .cueHold => d.cueHold = e.cueHold
  | .cal => d.cal = e.cal
  | .axis => d.axis = e.axis
  | .prof => d.prof = e.prof
  | .step => d.step = e.step
  | .ain => d.ain = e.ain
  | .loop => d.loop = e.loop
  | .act => d.act = e.act
  | .lamp => d.lamp = e.lamp
  | .pll => d.pll = e.pll
  | .clko => d.clko = e.clko
  | .temp => d.temp = e.temp
  | .dom => d.dom = e.dom
  | .fab => d.fab = e.fab
  | .twin => d.twin = e.twin
  | .ref => d.ref = e.ref
  | .free => d.free = e.free

/-- Whatever the state, a command answers a next state that keeps the queue and every part of the device but the clock
and those listed. -/
def TouchesOnly (i : Instr) (ps : List Part) : Prop :=
  ∀ s, Runs i s fun d => ∀ p, p ≠ .clk → p ∉ ps → p.Same d s.dev

/-- What outlasts a reset of the device (R80, R589, R591): flash, fuses, the AON island, what the pins read from outside,
and what the device has put on its interfaces. -/
def Dev.outlasting (e : Dev) : Dev :=
  { State.reset.dev with
    clk := { State.reset.dev.clk with now := e.clk.now, rank := e.clk.rank }
    boot := { State.reset.dev.boot with
      flash0 := e.boot.flash0, flash1 := e.boot.flash1, keyHash := e.boot.keyHash, enforce := e.boot.enforce
      brownout := e.boot.brownout, vstby := e.boot.vstby, scratch := e.boot.scratch, cause := e.boot.cause
      wakeHeld := e.boot.wakeHeld }
    pins := { State.reset.dev.pins with
      fenceLow := e.pins.fenceLow, engage := e.pins.engage, supply := e.pins.supply }
    host := { State.reset.dev.host with out := e.host.out }
    free := e.free }

/-- The form of a device that every step keeps: the flash devices and plane memory in canonical form, completion and event
numbers from 1 to 0xFFFF_FFFF (R127, R141), and pages with different orders of fetch, each below the next one. -/
structure Dev.Sound (d : Dev) : Prop where
  flash0 : Mem.wf 0xFF d.boot.flash0 = true
  flash1 : Mem.wf 0xFF d.boot.flash1 = true
  plane : Mem.wf 0 d.plane.mem = true
  cqSeq : 1 ≤ d.host.cqSeq ∧ d.host.cqSeq ≤ 0xFFFFFFFF
  eqSeq : 1 ≤ d.host.eqSeq ∧ d.host.eqSeq ≤ 0xFFFFFFFF
  distinct : (d.jobs.pages.map (·.order)).Nodup
  fetched : ∀ p ∈ d.jobs.pages, p.order < d.jobs.order

end Sys2Proof.Machine
end

