-- ==== Sys2Proof/Certificates/Slice0/Obligations.lean ====
section
/-! DEFINITION. The statements for the provers. The terms they use are those of Sys2Proof/Safety.lean. -/

open Sys2Proof Sys2Proof.Machine

/-- For every command c, every queue cs and every state s: a step of s with c in front of cs is exec of c on s with the
queue cs. On an empty queue a step leaves the state as it is; the latter is the model's choice (log entry 2). -/
def Obligations.StepRunsTheFrontCommand : Prop :=
  ∀ (c : Instr) (cs : List Instr) (s : State),
    step { s with pending := c :: cs } = exec c { s with pending := cs }
    ∧ step { s with pending := [] } = .next { s with pending := [] }

/-- Whatever the state, every command answers a next state in which the commands that wait are those that waited: no
command of the table stops the device. -/
def Obligations.EveryCommandAnswersAndKeepsTheQueue : Prop :=
  ∀ (i : Instr) (s : State), ∃ d, exec i s = .next { s with dev := d }

/-- Right after reset the pins READY and ACTIVE are low, ENGAGE_STATUS and NODE_STATUS bits are 0, every ring is off
with PHASE 1 to come, the completion and event numbers start at 1, the latches, VISOR_T, VISOR_SCOPE, EQ_DROPPED and
STAGE_STATUS are 0, every unit is OFF with SEVERITY, LAST_REASON and EVENT_COUNT 0, every counter is 0, no band is
allocated and no job is open; the device has the form that every step keeps. The values of R103, R115, R116 and R28
are the manual's; the rest is log entry 10. -/
def Obligations.ResetHoldsTheDefaultsOfTheRegisters : Prop :=
  let d := State.reset.dev
  d.pins.ready = false ∧ d.pins.active = false ∧ d.eng.status = 0#64
    ∧ d.host.tq.size = 0 ∧ d.host.cq.size = 0 ∧ d.host.eq.size = 0
    ∧ d.host.tq.phase = true ∧ d.host.cq.phase = true ∧ d.host.eq.phase = true
    ∧ d.host.cqSeq = 1 ∧ d.host.eqSeq = 1 ∧ d.host.eqDropped = 0
    ∧ d.host.visorT = 0 ∧ d.host.visorScope = 0 ∧ d.host.timeLatch = 0 ∧ d.host.engLatch = 0
    ∧ d.boot.recovery = false ∧ d.boot.loaded = false ∧ d.boot.reason = 0 ∧ d.boot.stState = 0 ∧ d.boot.stKib = 0
    ∧ (∀ u, (d.us u).word = 0#32) ∧ (∀ u k, d.ctrAt u k = 0#64)
    ∧ d.plane.bands = [] ∧ d.jobs.isOpen = [] ∧ State.reset.pending = [] ∧ d.Sound

/-- For the status word of a unit and one report on it: EVENT_COUNT rises by one modulo 256. A report in a CORE cycle of
its own with a reason takes LAST_REASON and SEVERITY, even when the reason equals the present one, and takes STATE
where it comes with one; without a reason LAST_REASON and SEVERITY stay, without a STATE the STATE stays. Two
reports with reasons in one cycle on a unit quiet before it leave the reason of the higher SEVERITY, a tie going to
the lower code, and EVENT_COUNT two higher. -/
def Obligations.AnEventCountsAndTakesItsReason : Prop :=
  ∀ (x : UnitStat) (cycle rank rank' o o' sev sev' code code' : Nat) (st st' : Option UState) (ack ack' : Bool),
    x.cycle ≠ cycle → sev < 16 → sev' < 16 → code < 65536 → code' < 65536 → o ≠ 0 →
    let y := x.event cycle rank o sev code st ack
    let z := y.event cycle rank' o' sev' code' st' ack'
    y.count = x.count + 1#8 ∧ z.count = x.count + 2#8
    ∧ y.state = st.getD x.state
    ∧ (code ≠ 0 → y.reason.toNat = code ∧ y.sev.toNat = sev)
    ∧ (code = 0 → y.reason = x.reason ∧ y.sev = x.sev)
    ∧ (code ≠ 0 → code' ≠ 0 →
        (z.reason.toNat, z.sev.toNat) =
          if sev < sev' ∨ (sev = sev' ∧ code' ≤ code) then (code', sev') else (code, sev))
    ∧ (st'.isSome → st.isSome → rank < rank' → z.state = y.state)

/-- For a mitten whose home is this node: its SEVERITY is the highest of its fingers', its LAST_REASON that of a finger
of this SEVERITY of which none has a more recent event, its EVENT_COUNT their sum modulo 256. The STATE of one that
is no twin pair is the worst of theirs, in the order FENCED, FAULT, STOPPING, HOLD, OFF, IDLE, ARMED, RUN from worst
to best; that of a twin pair is the STATE of the active twin, which is this one. -/
def Obligations.AMittenShowsTheWorstOfItsFingers : Prop :=
  [UState.fenced, .fault, .stopping, .hold, .off, .idle, .armed, .run].map UState.order = [0, 1, 2, 3, 4, 5, 6, 7]
  ∧ ∀ (d : Dev) (fuel a : Nat) (x : Rec), d.homed a = true → d.mittenRec a = some x →
    let m := d.statOf (fuel + 1) a
    let fs := (d.fingersOf a).map (d.statOf fuel)
    m.count = (fs.foldl (fun n f => n + f.count) 0) % 256
    ∧ (∀ f ∈ fs, f.sev ≤ m.sev)
    ∧ (fs ≠ [] → ∃ f ∈ fs, f.sev = m.sev ∧ f.reason = m.reason ∧ ∀ g ∈ fs, g.sev = m.sev → g.order ≤ f.order)
    ∧ (bit x.body 31 = false → (∀ f ∈ fs, m.state.order ≤ f.state.order) ∧ (fs ≠ [] → ∃ f ∈ fs, f.state = m.state))
    ∧ (bit x.body 31 = true → m.state = d.ust uNODE)

/-- For every class below 64 and every index below 1,024: the local unit id is 16 bits wide, with the class in bits
[15:10] and the index in bits [9:0]; and an id is valid exactly when its class is one of the table and its index
lies in the range of the class. The full address of a unit is 32 bits wide, with the node id in bits [31:16] and the
local unit id in bits [15:0]. -/
def Obligations.UnitAddressesSplitIntoClassAndIndex : Prop :=
  (∀ c i : Nat, c < 64 → i < 1024 →
    uid c i < 65536 ∧ bits (uid c i) 15 10 = c ∧ bits (uid c i) 9 0 = i ∧ uclass (uid c i) = c ∧ uindex (uid c i) = i
    ∧ (uvalid (uid c i) = true ↔ c ≤ 0x14 ∧ i < classSize c))
  ∧ ∀ (d : Dev) (u : Nat), u < 65536 → d.addr u < 2 ^ 32 ∧ bits (d.addr u) 31 16 = d.node ∧ bits (d.addr u) 15 0 = u

/-- RST_N completes: a low pulse of at least 1 us reports 0x1119 on NODE where a gauntlet is pending or runs, and then
resets everything but the AON island, the flash, the fuses, the levels outside drives on the pins, and the list of
what the device has put on its interfaces; with VSTBY good AON records cause 4, else the cause stays. A shorter
pulse does nothing but pass time. BROWNOUT completes: a main rail lost before READY, also between the reset and the
release, gives the release condition, leaves 0x1109 owed, and its banks without supply. SUPPLY_LOSS completes: after
READY it gives the release condition with the cause of the loss recorded, where VSTBY is good, and the lost rail's
banks without supply; the list of what was put on the interfaces is left open there. -/
def Obligations.ResetReturnsTheDeviceToItsRelease : Prop :=
  ∀ (s : State) (t n : Nat) (r : Rail) (c : SupplyCause),
    (1000 ≤ n → Runs (.rstN t n) s fun d => ∃ m : Dev,
      let e := s.dev.enter t 1
      (if s.dev.eng.st = .waitTime ∨ s.dev.eng.st = .gauntlet then
        Dev.Reports { e with eng := { e.eng with
          st := e.eng.before.1, firstUnit := e.eng.before.2.1, firstReason := e.eng.before.2.2 } } uNODE 0x1119 none m
        else m = e)
      ∧ d = { m.outlasting with
          boot := { m.outlasting.boot with cause := if s.dev.boot.vstby then 4 else s.dev.boot.cause } })
    ∧ (n < 1000 → Runs (.rstN t n) s fun d => d = s.dev.enter t 1)
    ∧ (railMain r = true → s.dev.boot.stage ≠ .up → s.dev.boot.stage ≠ .critical →
      Runs (.brownout t r) s fun d =>
        let e := (s.dev.enter t 1).outlasting
        d = { e with
          boot := { e.boot with brownout := true }, pins := { e.pins with supply := railLeft r s.dev.pins.supply } })
    ∧ (s.dev.boot.stage = .up ∨ s.dev.boot.stage = .critical → Runs (.supplyLoss t c) s fun d =>
      ∃ o : List Out,
        let e := (s.dev.enter t 1).outlasting
        d = { e with
          host := { e.host with out := o }
          boot := { e.boot with cause := if s.dev.boot.vstby then causeCode c else s.dev.boot.cause }
          pins := { e.pins with
            supply := match c with | .rail r => railLeft r s.dev.pins.supply | .difference => s.dev.pins.supply } })

/-- VSTBY applied starts AON with cause 0; VSTBY lost clears the wake function, the scratch word and the cause. WAKE_N
low for at least 100 us with VSTBY good is remembered before the release, and after it reported with 0x0C0F on NODE.
An I/O bank whose supply becomes good leaves high impedance once SPINE has been released, not before; where that
brings up the bank of the control pins, a device with an image under a low FENCE_N is FENCED, else a latched ring
under a high ENGAGE pin is an engage request, and else nothing follows. KEY_HASH is programmed once, ENFORCE not
while KEY_HASH is all zeros. Nothing else changes but the time. -/
def Obligations.TheAonIslandKeepsItsOwnState : Prop :=
  ∀ (s : State) (t us : Nat) (b : IoBank) (h : BitVec 256),
    let e := s.dev.enter t 7
    (Runs (.vstbyApplied t) s fun d => d = { e with boot := { e.boot with vstby := true, cause := 0 } })
    ∧ (Runs (.vstbyLost t) s fun d =>
        d = { e with boot := { e.boot with vstby := false, scratch := 0, cause := 0, wakeHeld := false } })
    ∧ (100 ≤ us → s.dev.boot.vstby = true → s.dev.boot.stage = .unpowered → Runs (.wakeRequest t us) s fun d =>
        d = { e with boot := { e.boot with wakeHeld := true } })
    ∧ (100 ≤ us → s.dev.boot.vstby = true → s.dev.boot.stage ≠ .unpowered → Runs (.wakeRequest t us) s fun d =>
        e.Reports uNODE 0x0C0F none d)
    ∧ (let m := { e with pins := { e.pins with
          supply := e.pins.supply ||| bankMask b
          banks := if e.boot.stage = .unpowered then e.pins.banks else e.pins.banks ||| bankMask b } }
      let rings : Prop := s.dev.engageSrc = 3 ∧ s.dev.eng.latch = true ∧ s.dev.pins.engage = true
      let low : Prop := s.dev.boot.loaded = true ∧ s.dev.pins.fenceLow = true
      (s.dev.bankUp .control = true ∨ m.bankUp .control = false → Runs (.ioBankSupplyGood t b) s fun d => d = m)
      ∧ (s.dev.bankUp .control = false → m.bankUp .control = true →
        (¬ low → ¬ rings → Runs (.ioBankSupplyGood t b) s fun d => d = m)
        ∧ (¬ low → rings → s.dev.pins.ready = false → Runs (.ioBankSupplyGood t b) s fun d =>
          Dev.Reports { m with eng := { m.eng with
            latch := false, st := .refused, firstReason := 0x1101, firstUnit := BitVec.ofNat 32 (m.addr uNODE), count := 0
            trunc := false } } uNODE 0x1101 none d)
        ∧ (low → Runs (.ioBankSupplyGood t b) s fun d => d.twin.role = .fenced ∧ d.twin.resetFenced = true)))
    ∧ (s.dev.boot.keyHash = 0 → Runs (.fuseProgramming t (.keyHash h)) s fun d =>
        d = { e with boot := { e.boot with keyHash := h } })
    ∧ (s.dev.boot.keyHash ≠ 0 → Runs (.fuseProgramming t (.keyHash h)) s fun d => d = e)
    ∧ (s.dev.boot.keyHash ≠ 0 → Runs (.fuseProgramming t .enforce) s fun d =>
        d = { e with boot := { e.boot with enforce := true } })
    ∧ (s.dev.boot.keyHash = 0 → Runs (.fuseProgramming t .enforce) s fun d => d = e)

/-- In the release condition SPINE_RELEASE completes: it samples BOOTSEL, notes which flash devices answer, powers the
table-memory and DMA domains, and lists the slots to try among those whose headers are valid: with BOOTSEL 0 the
higher GENERATION first, slot 0 on equal ones; with 3 the lower, slot 1 on equal ones; with 1 and 2 the forced slot
alone. With none, the device is in boot recovery: RECOVERY is set, FAULT_N is low, and BOOT_REASON is 0x0113. -/
def Obligations.TheReleaseChoosesASlot : Prop :=
  ∀ (s : State) (t : Nat) (sel ans : BitVec 2), s.dev.boot.stage = .unpowered →
    let h0 := { s.dev.boot with answers := ans }.slotHeader 0
    let h1 := { s.dev.boot with answers := ans }.slotHeader 1
    let ok0 := (headerCheck h0).isNone
    let ok1 := (headerCheck h1).isNone
    let newer1 : Prop := hdrGen (leNat h0) < hdrGen (leNat h1)
    Runs (.spineRelease t ⟨sel, ans⟩) s fun d =>
      d.boot.bootsel = sel ∧ d.boot.answers = ans ∧ (d.dom.at 88).on = true ∧ (d.dom.at 127).on = true
      ∧ (sel = 0 → newer1 → ok0 = true → ok1 = true → d.boot.trySlots = [1, 0])
      ∧ (sel = 0 → ¬newer1 → ok0 = true → ok1 = true → d.boot.trySlots = [0, 1])
      ∧ (sel = 3 → newer1 → ok0 = true → ok1 = true → d.boot.trySlots = [0, 1])
      ∧ (sel = 3 → ¬newer1 → ok0 = true → ok1 = true → d.boot.trySlots = [1, 0])
      ∧ (sel = 1 → ok0 = true → d.boot.trySlots = [0]) ∧ (sel = 2 → ok1 = true → d.boot.trySlots = [1])
      ∧ (sel ≠ 2 → ok0 = true → ok1 = false → d.boot.trySlots = [0])
      ∧ (sel ≠ 1 → ok0 = false → ok1 = true → d.boot.trySlots = [1])
      ∧ ((if (sel = 1 → ok0 = false) ∧ (sel = 2 → ok1 = false) ∧ (sel = 0 ∨ sel = 3 → ok0 = false ∧ ok1 = false) then
            d.boot.stage = .recovery ∧ d.boot.recovery = true ∧ d.pins.faultLow = true ∧ d.boot.reason = 0x0113
          else d.boot.stage = .released))

/-- IMAGE_LOAD_DONE completes while an image is being loaded from a slot. Where the full check of that image passes, the
image becomes effective, with its slot, and the domains are stepped next. Where it fails and no slot is left, the
device enters boot recovery with 0x0113 in BOOT_REASON and FAULT_N low, and the image in effect stays as it was.
Where it fails and a slot is left, NODE takes one event with the failure's code, and the slots left are tried; the
image in effect stays. -/
def Obligations.AnImageIsLoadedOnlyWhenItsFullCheckPasses : Prop :=
  ∀ (s : State) (t slot : Nat) (rest : List Nat), s.dev.boot.stage = .released → s.dev.boot.trySlots = slot :: rest →
    let e := s.dev.enter t 7
    match fullCheck s.dev.boot.fuses (s.dev.boot.slotImage slot) with
    | .ok (img, _) => Runs (.imageLoadDone t) s fun d =>
        d.boot.loaded = true ∧ d.boot.image = img ∧ d.boot.slot = slot ∧ d.boot.stage = .stepping ∧ d.boot.trySlots = []
    | .error c =>
      if rest = [] then Runs (.imageLoadDone t) s fun d =>
        d.boot.stage = .recovery ∧ d.boot.recovery = true ∧ d.pins.faultLow = true ∧ d.boot.reason = 0x0113
        ∧ d.boot.loaded = s.dev.boot.loaded ∧ d.boot.image = s.dev.boot.image
      else Runs (.imageLoadDone t) s fun d =>
        e.Heard uNODE c none d ∧ d.boot.trySlots = rest ∧ d.boot.fellBack = true ∧ d.boot.stage = .released
        ∧ d.boot.loaded = s.dev.boot.loaded ∧ d.boot.image = s.dev.boot.image

/-- Of a queue of domains that is not empty a step takes at least one; more than one only if their weights, WEIGHT_M1 +
1 each, add up to at most DOMAIN_STEP_MAX; and it stops only at the end of the queue or before a domain with which
the sum would be greater. While domains are being stepped, DOMAIN_STEP at the first step, and at a later one once
DOMAIN_STEP_US have passed since the one before, powers the domains of the next step and leaves the rest in the
queue; with the last one the stage of stepping is over. Before READY, a powered domain that is not good 100 us after
its step is off again, every unit in it is OFF with no event, and the domain is reported in FAULT with 0x1104, which
BOOT_REASON shows but in boot recovery. READY is asserted exactly where an image is in effect, the domains are
stepped, SYSPLL and TPLL are locked and not in HOLD, the crown is known and reached, the mittens are joined and
their fingers are up, the time is known, and a twin is paired and not FENCED; a crown then runs, from 0 s where it
began to run with TIME_SRC 0, and each station's place PLL that is IDLE without a reference is reported with 0x1106.
A domain that leaves good after READY is reported with 0x0C0A; its axes and steppers are safe, its lanes and ports
down and not trained; where it is table memory, DMA, SYSPLL or TPLL, every station is reported with 0x0C0A and the
pages in MARKING at one are aborted. That a domain counts as good from its step on is the model's choice (log entry
24). -/
def Obligations.DomainsComeGoodAndAreLost : Prop :=
  ∀ (s : State) (t : Nat) (k : Fin 128),
    (∀ (d : Dev) (max : Nat) (q : List Nat), q ≠ [] →
      let n := takeStep d.domWeight max 0 q
      let sum (l : List Nat) : Nat := l.foldl (fun a j => a + (d.cfgN .domain j .WEIGHT_M1 + 1)) 0
      1 ≤ n ∧ n ≤ q.length ∧ (n = 1 ∨ sum (q.take n) ≤ max) ∧ (n < q.length → max < sum (q.take (n + 1))))
    ∧ (let due : Prop := s.dev.boot.stage = .stepping ∧ (s.dev.boot.stepOnce = false ∨
        s.dev.boot.stepAt + 4000 * s.dev.cfgN .startup 0 .DOMAIN_STEP_US ≤ (s.dev.enter t 7).clk.now)
      (¬ due → Runs (.domainStep t) s fun d => d = s.dev.enter t 7)
      ∧ (due →
      let q := s.dev.boot.domQueue
      let n := takeStep s.dev.domWeight (s.dev.cfgN .startup 0 .DOMAIN_STEP_MAX) 0 q
      Runs (.domainStep t) s fun d =>
        (∀ j ∈ q.take n, (d.dom.at j).on = true ∧ (d.dom.at j).good = true)
        ∧ (∀ j, j ∉ q.take n → d.dom.at j = s.dev.dom.at j)
        ∧ d.boot.domQueue = q.drop n ∧ d.boot.stepped = (q.drop n == [])
        ∧ d.boot.stage = if q.drop n = [] then .locking else .stepping))
    ∧ (s.dev.boot.stage ≠ .up → s.dev.boot.stage ≠ .critical → (s.dev.dom.at k.val).on = true →
      (s.dev.dom.at k.val).since + 400000 ≤ (s.dev.enter t 7).clk.now →
      Runs (.domainGoodTimeout t k) s fun d => ∃ m : Dev,
        m.Reports (uid cDOMAIN k.val) 0x1104 (some .fault) d
        ∧ (m.dom.at k.val).on = false ∧ (m.dom.at k.val).good = false ∧ m.boot = s.dev.boot
        ∧ (s.dev.boot.stage ≠ .recovery → d.boot.reason = 0x1104)
        ∧ (∀ u ∈ s.dev.unitsIn k.val, m.us u = {}) ∧ (∀ u, u ∉ s.dev.unitsIn k.val → m.us u = s.dev.us u))
    ∧ (let e := s.dev.enter t 7
      let g := s.dev.fab
      let due : Prop := s.dev.pins.ready = false ∧ s.dev.boot.loaded = true ∧ s.dev.boot.stepped = true
        ∧ s.dev.boot.domQueue = [] ∧ (s.dev.boot.stage = .locking ∨ s.dev.boot.stage = .up)
        ∧ (s.dev.pll.at 0).locked = true ∧ (s.dev.pll.at 0).hold = false
        ∧ (s.dev.pll.at 1).locked = true ∧ (s.dev.pll.at 1).hold = false
        ∧ (g.crown = some s.dev.node ∨ (g.crown ≠ none ∧ g.parent ≠ none)) ∧ g.joined = true ∧ e.mittensUp = true
        ∧ s.dev.clk.got = true
        ∧ (s.dev.isTwin = false ∨ s.dev.twin.paired = true) ∧ s.dev.twin.role ≠ .fenced
      (¬ due → Runs (.ready t) s fun d => d = e)
      ∧ (due → Runs (.ready t) s fun d =>
        d.pins = { s.dev.pins with ready := true } ∧ d.boot.stage = .up
        ∧ (d.fab.running = true ↔ g.crown = some s.dev.node)
        ∧ (let starts : Prop := g.crown = some s.dev.node ∧ g.running = false ∧ s.dev.cfgN .time 0 .TIME_SRC = 0
          (starts → d.clk = { e.clk with tai := 0 }) ∧ (¬ starts → d.clk = e.clk))
        ∧ (∀ n ∈ s.dev.stations, s.dev.ust (uid cPLL (n + 2)) = .idle → (s.dev.pll.at (n + 2)).ref = false →
          e.Heard (uid cPLL (n + 2)) 0x1106 none d)))
    ∧ (let e := s.dev.enter t 4
      let ran : Prop := s.dev.boot.stage = .up ∨ s.dev.boot.stage = .critical
      let st (u : Nat) : Option UState := if s.dev.ust u = .fenced then none else some .fault
      let inIt (u : Nat) : Prop := u ∈ s.dev.unitsIn k.val
      (¬ ran ∨ (s.dev.dom.at k.val).good = false → Runs (.domainLost t k) s fun d => d = e)
      ∧ (ran → (s.dev.dom.at k.val).good = true → Runs (.domainLost t k) s fun d =>
        d.dom = s.dev.dom.upd k.val (fun x => { x with good := false })
        ∧ e.Heard (uid cDOMAIN k.val) 0x0C0A (st (uid cDOMAIN k.val)) d
        ∧ (∀ a, inIt (uid cAXIS a) → a < 24 → (d.axis.at a).on = false ∧ (d.axis.at a).safe = true)
        ∧ (∀ a, inIt (uid cSTEP a) → a < 16 → (d.step.at a).on = false ∧ (d.step.at a).safe = true)
        ∧ (∀ l, inIt (uid cLANE l) → l < 256 → (d.lane.at l).up = false ∧ (d.lane.at l).training = false)
        ∧ (∀ p, inIt (uid cXPORT p) → p < 5 → (d.fab.ports.at p).up = false ∧ (d.fab.ports.at p).training = false)
        ∧ (k.val ∈ [88, 116, 117, 127] →
          (∀ n ∈ s.dev.stations, e.Heard (uid cSTN n) 0x0C0A (st (uid cSTN n)) d)
          ∧ ((s.dev.jobs.pages.map (·.order)).Nodup → ∀ p ∈ s.dev.jobs.pages, p.state = .marking →
            (∃ n ∈ s.dev.stations, bit p.mask n = true) → ∀ q ∈ d.jobs.pages, q.order = p.order → q.abortAt.isSome = true))))

/-- PLL_LOCK completes: a powered PLL that is not locked, or follows, and after a loss of its reference has it back,
takes the band, code and rate with which the spare locked, once four edges lie within LOCK_TOL_PS and the reference
of a place PLL is at least 2.5 kHz, SYSPLL and TPLL at 4.000 GHz; its two DCOs exchange roles: it is locked, has its
reference, and is neither in FOLLOW nor in HOLD; no other PLL changes; LOCKS rises by one, the time spent in HOLD,
or else in FOLLOW, is counted, and its unit takes one event, 0x0204 at the first lock and 0x0208 after it, with
STATE RUN but from FAULT and FENCED. With TPLL the TIME clock runs; with SYSPLL the first domains leave the boot
clock. The station of a place PLL that coasts resumes where it is in a brim. PLL_HANDOVER completes: a handover of a
powered PLL that is locked and does not follow takes the new band, code and rate, is counted in HANDOVERS and
reported with 0x0207; m goes up by one below 3.1 GHz, down by one above 6.6 GHz. The m at a lock is the lowest of 3
to 26 that brings the DCO to 3.2 GHz or above. -/
def Obligations.APllLocksAndTheOutputPasses : Prop :=
  ∀ (s : State) (t : Nat) (i : Fin 10) (band : BitVec 6) (code : BitVec 24) (x : PllSearch) (rate : Nat),
    let e := s.dev.enter t 7
    let p := s.dev.pll.at i
    let u := uid cPLL i
    s.dev.pllOn i = true →
    let swapped : Pll := { p with
      second := !p.second, spareBand := p.band, spareCode := p.code, band := band, code := code }
    (s.dev.boot.lockFails.at i < 3 → (p.locked = true → p.follow = true) → (p.hold = true → p.ref = true) → p.refLost = false →
      4 ≤ x.errs.length → (∀ v ∈ x.errs.take 4, absI v ≤ s.dev.cfg .pll i .LOCK_TOL_PS) →
      (2 ≤ i.val → 2500000 ≤ x.refRate) → Runs (.pllLock t i band code x) s fun d =>
        d.pll.at i = { swapped with
          everLocked := true, locked := true, follow := false, hold := false, ref := true, refLost := false
          m := if i.val < 2 then 0 else lockM x.rate, rate := if i.val < 2 then 4000000000000 else x.rate
          since := e.clk.now }
        ∧ (∀ j, j ≠ i.val → d.pll.at j = s.dev.pll.at j)
        ∧ d.ctrAt u .LOCKS = s.dev.ctrAt u .LOCKS + 1
        ∧ (p.hold = true →
            d.ctrAt u .HOLD_NS = s.dev.ctrAt u .HOLD_NS + BitVec.ofNat 64 ((e.clk.now - p.since) / 4))
        ∧ (p.hold = false → p.follow = true →
            d.ctrAt u .FOLLOW_NS = s.dev.ctrAt u .FOLLOW_NS + BitVec.ofNat 64 ((e.clk.now - p.since) / 4))
        ∧ e.Heard u (if p.everLocked then 0x0208 else 0x0204)
            (if s.dev.ust u = .fenced ∨ s.dev.ust u = .fault then none else some .run) d
        ∧ d.clk.running = (s.dev.clk.running || i.val == 1) ∧ d.boot.sysClk = (s.dev.boot.sysClk || i.val == 0)
        ∧ (2 ≤ i.val → (s.dev.stn.at (i - 2)).coasting = true →
            (d.stn.at (i - 2)).coasting = !s.dev.inBrim (i - 2)))
    ∧ (p.locked = true → p.follow = false →
      Runs (.pllHandover t i band code rate) s fun d =>
        Dev.Reports
          (({ e.keepPhase i with pll := e.pll.set i { swapped with
              rate := if i.val < 2 then 4000000000000 else rate
              m := if i.val < 2 then 0 else if rate * 2 ^ p.m < 3100000000000 then p.m + 1
                   else if 6600000000000 < rate * 2 ^ p.m then p.m - 1 else p.m } }).bump u .HANDOVERS 1) u 0x0207 none d)
    ∧ 3 ≤ lockM rate ∧ lockM rate ≤ 26 ∧ (∀ k, 3 ≤ k → k < lockM rate → rate * 2 ^ k < 3200000000000)
    ∧ (lockM rate < 26 → 3200000000000 ≤ rate * 2 ^ lockM rate)

/-- A PLL that has locked and is not in HOLD freezes its code with the present temperature and enters HOLD when its
phase error exceeds UNLOCK_TOL_PS on four edges while locked, with 0x0205, or when its reference is lost, with
0x0206; HOLDOVERS rises by one; the station of a place PLL coasts with 0x0304. A reference lost in HOLD is reported
with 0x0206. In HOLD each tick sets the code to the frozen one corrected by the change of the temperature curve, one
step for 1 ppb, held in 24 bits, and counts HOLD_NS; nothing else changes. A returned reference is noted; the PLL
goes on in HOLD until its spare locks. One code step for 1 ppb is the model's choice (log entry 23). -/
def Obligations.ALostReferenceGivesHoldover : Prop :=
  ∀ (s : State) (t : Nat) (i : Fin 10) (errs : List Int),
    let e := s.dev.enter t 7
    let p := s.dev.pll.at i
    let u := uid cPLL i
    let frozen : Pll := { p with
      hold := true, follow := false, locked := false, code0 := p.code.toNat, t0 := s.dev.temp.now, since := e.clk.now }
    let coasts (d : Dev) : Prop := ∀ n, n + 2 = i.val → s.dev.stnOn n = true → (s.dev.stn.at n).coasting = false →
      (d.stn.at n).coasting = true ∧ e.Heard (uid cSTN n) 0x0304 none d
      ∧ d.ctrAt (uid cSTN n) .COAST_EVENTS = s.dev.ctrAt (uid cSTN n) .COAST_EVENTS + 1
    s.dev.pllOn i = true →
    (p.everLocked = true → p.hold = false →
      (p.locked = true → 4 ≤ errs.length → (∀ v ∈ errs.take 4, s.dev.cfg .pll i .UNLOCK_TOL_PS < absI v) →
        Runs (.pllUnlock t ⟨i, errs⟩) s fun d =>
        d.pll.at i = frozen ∧ e.Heard u 0x0205 (some .hold) d
        ∧ d.ctrAt u .HOLDOVERS = s.dev.ctrAt u .HOLDOVERS + 1 ∧ coasts d)
      ∧ Runs (.pllRefLost t i) s fun d =>
        d.pll.at i = { frozen with ref := false, refLost := true } ∧ e.Heard u 0x0206 (some .hold) d
        ∧ d.ctrAt u .HOLDOVERS = s.dev.ctrAt u .HOLDOVERS + 1 ∧ coasts d)
    ∧ (p.hold = true → p.ref = true → Runs (.pllRefLost t i) s fun d =>
        d.pll.at i = { p with ref := false, refLost := true } ∧ e.Heard u 0x0206 none d)
    ∧ (p.hold = true → Runs (.holdoverTick t i) s fun d =>
        let ns := (e.clk.now - p.since) / 4
        d = ({ e with pll := e.pll.set i { p with
              code := BitVec.ofInt 24 (clampI 0 16777215
                (p.code0 + s.dev.pllCurve i s.dev.temp.now - s.dev.pllCurve i p.t0))
              since := p.since + 4 * ns } }).bump u .HOLD_NS ns)
    ∧ (i.val < 2 → Runs (.pllRefReturn t i) s fun d => d = { e with pll := e.pll.set i { p with ref := true, refLost := false } })
    ∧ (∀ n, n + 2 = i.val → s.dev.stnOn n = true → Runs (.pllRefReturn t i) s fun d =>
        d = { e with
          pll := e.pll.set i { p with ref := true, refLost := false }
          enc := e.enc.upd (s.dev.cfgN .stnPlace n .PRI_ENC) fun x => { x with bad := false, ssiFails := 0 } })

/-- A failed attempt of SYSPLL or TPLL before its first lock is counted; the third leaves the device in start-up with
FAULT_N low, BOOT_REASON 0x1105 and the PLL in FAULT with 0x1105. A powered PLL that finds no band reports 0x020B. A
locked place PLL of a jet station that begins to follow goes on as locked and reports 0x0209. -/
def Obligations.PllsThatDoNotLockAreReported : Prop :=
  ∀ (s : State) (t : Nat) (i : Fin 10) (n : Fin 8),
    let e := s.dev.enter t 7
    let p := s.dev.pll.at i
    (s.dev.pllOn i = true → i.val < 2 → p.everLocked = false → s.dev.boot.lockFails.at i < 2 →
      Runs (.pllLockAttemptFail t i) s fun d =>
        d = { e with boot := { e.boot with lockFails := e.boot.lockFails.set i (s.dev.boot.lockFails.at i + 1) } })
    ∧ (s.dev.pllOn i = true → i.val < 2 → p.everLocked = false → s.dev.boot.lockFails.at i = 2 →
      Runs (.pllLockAttemptFail t i) s fun d =>
        Dev.Reports { e with
          boot := { e.boot with lockFails := e.boot.lockFails.set i 3 }
          pins := { e.pins with faultLow := true } } (uid cPLL i) 0x1105 (some .fault) d)
    ∧ (s.dev.pllOn i = true → Runs (.bandSearchFail t i) s fun d => e.Reports (uid cPLL i) 0x020B none d)
    ∧ (s.dev.pllOn (n + 2) = true → s.dev.isJet n = true → (s.dev.pll.at (n + 2)).locked = true →
        (s.dev.pll.at (n + 2)).follow = false →
        Runs (.ppllFollow t n) s fun d =>
          Dev.Reports { e with pll := e.pll.upd (n + 2) fun q => { q with follow := true, since := e.clk.now } }
            (uid cPLL (n + 2)) 0x0209 none d)

/-- With ENGAGE_SRC 0 or 1 the doorbell is an engage request, with 2 it is nothing, with 3 it is one while the pin is
high and is latched while the pin is low or its bank not up, but on an engaged device; a rising pin, once its I/O
bank is up, is a request with 0 and 2, with 3 where a ring is latched, and none with 1; before, its level alone is
noted. A request before READY is refused with 0x1101 and one while a gauntlet is pending or runs gets 0x1102; one
while the device is engaged or disengages does nothing; one at 105.0 degrees C or above is refused with 0x0C08; any
other, where TEMP is not in FAULT, waits for settled time where REQUIRE_TIME asks for it, or the gauntlet runs, and
the state before the request is kept. -/
def Obligations.AnEngageRequestIsHeldOrRefused : Prop :=
  ∀ (s : State) (t : Nat),
    let e := s.dev.enter t 7
    let src := s.dev.engageSrc
    let refused (b : Dev) (code : Nat) : Dev := { b with eng := { b.eng with
      st := .refused, firstReason := BitVec.ofNat 16 code, firstUnit := BitVec.ofNat 32 (b.addr uNODE), count := 0
      trunc := false } }
    let asked (i : Instr) (b : Dev) : Prop :=
      (s.dev.pins.ready = false → Runs i s fun d => (refused b 0x1101).Reports uNODE 0x1101 none d)
      ∧ (s.dev.pins.ready = true →
        (s.dev.eng.st = .waitTime ∨ s.dev.eng.st = .gauntlet → Runs i s fun d => b.Reports uNODE 0x1102 none d)
        ∧ (s.dev.eng.st = .engaged ∨ s.dev.eng.st = .disengaging → Runs i s fun d => d = b)
        ∧ (s.dev.eng.st = .idle ∨ s.dev.eng.st = .refused →
          (1050 ≤ s.dev.temp.now → Runs i s fun d => (refused b 0x0C08).Reports uNODE 0x0C08 none d)
          ∧ (s.dev.temp.now < 1050 → s.dev.ust uTEMP ≠ .fault → Runs i s fun d =>
            d.eng = { b.eng with
              before := (b.eng.st, b.eng.firstUnit, b.eng.firstReason), requestAt := e.clk.now
              gauntletAt := e.clk.now, st := if s.dev.cfgB .startup 0 .REQUIRE_TIME && !s.dev.timeSettled then .waitTime else .gauntlet }
            ∧ d.pins = b.pins)))
    let high := { e with pins := { e.pins with engage := true } }
    let unlatched (b : Dev) : Dev := { b with eng := { b.eng with latch := false } }
    (src < 2 → asked (.engageDoorbell t) e)
    ∧ (src = 2 → Runs (.engageDoorbell t) s fun d => d = e)
    ∧ (src = 3 → s.dev.eng.st ≠ .engaged →
      (s.dev.pins.engage = true → s.dev.bankUp .control = true → asked (.engageDoorbell t) (unlatched e))
      ∧ (s.dev.pins.engage = false ∨ s.dev.bankUp .control = false → Runs (.engageDoorbell t) s fun d =>
          d = { e with eng := { e.eng with latch := true } }))
    ∧ (s.dev.bankUp .control = false → Runs (.engagePinRise t) s fun d => d = high)
    ∧ (s.dev.bankUp .control = true →
     (src = 0 ∨ src = 2 → asked (.engagePinRise t) high)
     ∧ (src = 1 → Runs (.engagePinRise t) s fun d => d = high)
     ∧ (src = 3 → (s.dev.eng.latch = true → asked (.engagePinRise t) (unlatched high))
      ∧ (s.dev.eng.latch = false → Runs (.engagePinRise t) s fun d => d = high)))

/-- DISENGAGE completes; it, or a falling ENGAGE pin whose I/O bank is up with an ENGAGE_SRC other than 1, while the
device is engaged gives ENG_STATE DISENGAGING with the reason 0x0E14: every page that was QUEUED is REFUSED; every
page that was ARMED is MISSED with that reason; and the others keep their state. A pending or running gauntlet is
abandoned with 0x1119, ENG_STATE, FIRST_UNIT and FIRST_REASON as before the request. In every other state of the
engagement, and with ENGAGE_SRC 1 by the pin, nothing changes but the latch and, by the pin, its level; while the
pin's bank is not up its level alone is noted. -/
def Obligations.AStopEndsThePagesThatWait : Prop :=
  ∀ (s : State) (t : Nat),
    let e := s.dev.enter t 5
    let low := { e with pins := { e.pins with engage := false } }
    let unlatched (b : Dev) : Dev := { b with eng := { b.eng with latch := false } }
    let stops (i : Instr) (b : Dev) : Prop :=
      (s.dev.eng.st = .engaged → (s.dev.jobs.pages.map (·.order)).Nodup → Runs i s fun d =>
        d.eng = { s.dev.eng with st := .disengaging, stopReason := 0x0E14, rundownAt := none, latch := false }
        ∧ d.pins = b.pins
        ∧ ∀ p ∈ s.dev.jobs.pages, ∃ q ∈ d.jobs.pages, q.order = p.order
            ∧ (p.state = .queued → q.state = .refused ∧ q.reason = 0x0E14)
            ∧ (p.state = .armed → q.state = .missed ∧ q.reason = 0x0E14)
            ∧ (p.state ≠ .queued → p.state ≠ .armed → q.state = p.state))
      ∧ (s.dev.eng.st = .waitTime ∨ s.dev.eng.st = .gauntlet → Runs i s fun d =>
        Dev.Reports { b with eng := { b.eng with
          st := b.eng.before.1, firstUnit := b.eng.before.2.1, firstReason := b.eng.before.2.2, latch := false } }
          uNODE 0x1119 none d)
      ∧ (s.dev.eng.st = .idle ∨ s.dev.eng.st = .refused ∨ s.dev.eng.st = .disengaging → Runs i s fun d => d = unlatched b)
    stops (.disengage t) e
    ∧ (s.dev.eng.st = .engaged → Runs (.disengage t) s fun d => d.pins = s.dev.pins
      ∧ d.eng = { s.dev.eng with st := .disengaging, stopReason := 0x0E14, rundownAt := none, latch := false })
    ∧ (s.dev.bankUp .control = true → s.dev.engageSrc ≠ 1 → stops (.engagePinFall t) low)
    ∧ (s.dev.bankUp .control = true → s.dev.engageSrc = 1 → Runs (.engagePinFall t) s fun d => d = unlatched low)
    ∧ (s.dev.bankUp .control = false → Runs (.engagePinFall t) s fun d => d = low)

/-- A request that waits for settled time is refused with 0x1103 once TIME_WAIT_S have passed without it, and not
before; with settled time the gauntlet runs. While check 11 still waits for a lane, the gauntlet is not done. When
it is, below 105.0 degrees C and with TEMP not in FAULT: with no finding that refuses, the device is ENGAGED with
the SESSION_ID of R380, every band free; otherwise it is REFUSED, and the pages, jobs and plane memory stay. Either
way the report holds the first 64 findings, REPORT_COUNT their number, TRUNCATED whether there were more, and
FIRST_UNIT and FIRST_REASON those of the first. -/
def Obligations.TheGauntletEngagesOrRefuses : Prop :=
  ∀ (s : State) (t : Nat) (bad : List Half),
    let e := s.dev.enter t 7
    (s.dev.eng.st = .waitTime →
      (s.dev.timeSettled = true → Runs (.timeWaitTimeout t) s fun d => d = { e with eng := { e.eng with st := .gauntlet, gauntletAt := e.clk.now } })
      ∧ (s.dev.timeSettled = false →
        let due := s.dev.eng.requestAt + 4000000000 * s.dev.cfgN .startup 0 .TIME_WAIT_S
        (e.clk.now < due → Runs (.timeWaitTimeout t) s fun d => d = e)
        ∧ (due ≤ e.clk.now → Runs (.timeWaitTimeout t) s fun d =>
          Dev.Reports { e with eng := { e.eng with
            st := .refused, firstReason := 0x1103, firstUnit := BitVec.ofNat 32 (e.addr uNODE), count := 0
            trunc := false } } uNODE 0x1103 none d)))
    ∧ (s.dev.eng.st = .gauntlet → e.liveWaited = false → Runs (.gauntletDone t bad) s fun d => d = e)
    ∧ (s.dev.eng.st = .gauntlet → e.liveWaited = true → s.dev.temp.now < 1050 → s.dev.ust uTEMP ≠ .fault →
      let fs := e.gauntlet (bad.map (·.toNat))
      let first := fs.headD { check := 0, code := 0, unit := 0 }
      let filled := { s.dev.eng with
        report := (fs.take 64).map Finding.entry, count := min 64 fs.length, trunc := 64 < fs.length
        firstUnit := BitVec.ofNat 32 first.unit, firstReason := BitVec.ofNat 16 first.code }
      ((∃ f ∈ fs, (kindOf f.code).refuses = true) → Runs (.gauntletDone t bad) s fun d =>
        d.eng = { filled with st := .refused } ∧ d.jobs = s.dev.jobs ∧ d.plane = s.dev.plane)
      ∧ ((∀ f ∈ fs, (kindOf f.code).refuses = false) → Runs (.gauntletDone t bad) s fun d =>
        d.eng = { filled with
          st := .engaged, session := e.newSession, hadSession := true, stopReason := 0, rundownAt := none
          stopAtBrim := false, sessionNew := false, sessionWait := !e.isActive && !s.dev.eng.sessionNew }
        ∧ d.plane.bands = [] ∧ d.clk.adjBase = s.dev.clk.adj))

/-- In a stop, with no page ARMED, MARKING or MARKED, the drives run down from that instant: every axis in use ramps,
and a stop with every drive already safe ends. An axis at rest takes its safe state: gates off and duties 0; no
other axis and no stepper changes. Once STOP_MAX_MS have passed since the run-down began, every drive is in its safe
state and the stop has ended; before, the timeout does nothing. When the stop ends, which is when every drive in use
is safe, ENG_STATE is IDLE. -/
def Obligations.TheDrivesRunDownAndTheStopEnds : Prop :=
  ∀ (s : State) (t : Nat) (a : Fin 24), s.dev.eng.st = .disengaging →
    let e := s.dev.enter t 7
    let u := uid cAXIS a
    (s.dev.eng.rundownAt = none →
      (∀ p ∈ s.dev.jobs.pages, p.state ≠ .armed ∧ p.state ≠ .marking ∧ p.state ≠ .marked) →
      (s.dev.allAtRest = false → Runs (.rundownStart t) s fun d =>
        d.eng = { s.dev.eng with rundownAt := some e.clk.now } ∧ d.step = s.dev.step
        ∧ ∀ i, d.axis.at i = if i < 24 ∧ s.dev.has .axis i = true then { s.dev.axis.at i with ramp := true }
            else s.dev.axis.at i)
      ∧ (s.dev.allAtRest = true → Runs (.rundownStart t) s fun d => d.eng.st = .idle ∧ d.eng.rundownAt = none))
    ∧ (s.dev.eng.rundownAt.isSome = true → s.dev.runsDown u = true → e.atRest u = true →
      Runs (.axisRest t (BitVec.ofNat 16 u)) s fun d =>
        d.axis.at a = { s.dev.axis.at a with
          on := false, safe := true, ramp := false, du := 0, dv := 0, dw := 0, dutyAt := 0, wR := 0, alignAt := none
          safeAt := some e.ctlCycle }
        ∧ (∀ i, i ≠ a.val → d.axis.at i = s.dev.axis.at i) ∧ d.step = s.dev.step
        ∧ d.eng.st = (if d.allAtRest then .idle else .disengaging))
    ∧ (∀ since, s.dev.eng.rundownAt = some since →
      let due := since + 4000000 * s.dev.cfgN .startup 0 .STOP_MAX_MS
      (e.clk.now < due → Runs (.stopTimeout t) s fun d => d = e)
      ∧ (due ≤ e.clk.now → Runs (.stopTimeout t) s fun d =>
        d.allAtRest = true ∧ d.eng.st = .idle ∧ d.eng.rundownAt = none ∧ d.eng.stopReason = 0))

/-- HOST_RESET completes, whatever its cause, PERST once its I/O bank is up: it leaves every word of BAR0 from 0x0100 to
0x05FF but the read-only TQ_HEAD, EQ_DROPPED and VISOR_STATUS at 0 and every MSI-X vector masked, keeps TQ_HEAD and
EQ_DROPPED, the pending-bit array, the fetched tickets, the kept entries and both sequence numbers, and changes
nothing beyond the host port. A read of the lowest word of TIME_NOW or ENGAGE_STATUS completes: it latches the
register, whose words then read as latched, and nothing else changes but what is put on the interface. BAR2_WRITE
completes: it is logged in AER as an Unsupported Request of advisory non-fatal severity and changes nothing else.
MSIX_COALESCE_EXPIRY completes: a held vector that is not due stays held; one that is due is held no more, and is
signalled where it is unmasked and noted in the pending-bit array where it is masked. The masked default of the
MSI-X table is log entry 31. -/
def Obligations.TheHostRegionResets : Prop :=
  ∀ (s : State) (t : Nat) (kind : HostResetKind) (off : BitVec 24) (v : Word) (vec : Fin 256),
    let e := s.dev.enter t 7
    (kind ≠ .perst ∨ s.dev.bankUp .perst = true → Runs (.hostReset t kind) s fun d =>
      d = { e with host := d.host }
      ∧ (∀ o, 0x0100 ≤ o → o < 0x0600 → o ≠ 0x0210 → o ≠ 0x0250 → o ≠ 0x0310 → d.bar0Word o = 0)
      ∧ (∀ k, (d.host.msixEntry k).getLsbD 96 = true)
      ∧ d.host.tq.devIdx = s.dev.host.tq.devIdx ∧ d.host.pba = s.dev.host.pba
      ∧ d.host.tickets = s.dev.host.tickets ∧ d.host.keptCq = s.dev.host.keptCq ∧ d.host.keptEq = s.dev.host.keptEq
      ∧ d.host.cqSeq = s.dev.host.cqSeq ∧ d.host.eqSeq = s.dev.host.eqSeq ∧ d.host.eqDropped = s.dev.host.eqDropped)
    ∧ (Runs (.timeNowLatchRead t) s fun d =>
      d = { e with host := { e.host with
        timeLatch := e.timeNow, out := .readData (e.timeNow &&& 0xFFFFFFFF#128) :: e.host.out } }
      ∧ ∀ i, i < 4 → d.bar0Word (0x0500 + 4 * i) = e.timeNow.toNat / 2 ^ (32 * i) % 2 ^ 32)
    ∧ (Runs (.engageStatusLatchRead t) s fun d =>
      d = { e with host := { e.host with
        engLatch := e.eng.status, out := .readData ((e.eng.status &&& 0xFFFFFFFF#64).setWidth 128) :: e.host.out } }
      ∧ ∀ i, i < 2 → d.bar0Word (0x0108 + 4 * i) = e.eng.status.toNat / 2 ^ (32 * i) % 2 ^ 32)
    ∧ (Runs (.bar2Write t off v) s fun d => 
      d = { e with host := { e.host with aer := (.unsupportedRequest, .advisoryNonFatal) :: e.host.aer } })
    ∧ (∀ due, s.dev.host.coalesce.get? vec = some due →
        (e.clk.now < due → Runs (.msixCoalesceExpiry t vec) s fun d => d = e)
        ∧ (due ≤ e.clk.now → (s.dev.host.msixEntry vec).getLsbD 96 = false →
          Runs (.msixCoalesceExpiry t vec) s fun d =>
            d = { e with host := { e.host with
              coalesce := e.host.coalesce.del vec, out := .msix vec :: e.host.out } })
        ∧ (due ≤ e.clk.now → (s.dev.host.msixEntry vec).getLsbD 96 = true →
          Runs (.msixCoalesceExpiry t vec) s fun d =>
            d = { e with host := { e.host with
              coalesce := e.host.coalesce.del vec, pba := e.host.pba ||| (1#256 <<< vec.val) } }))

/-- RING_SIZE_WRITE, RING_BASE_WRITE, TQ_TAIL, CQ_HEAD and EQ_HEAD complete. A size of 16 to 4,096 that is a power of 2
turns a ring that is off on, from index 0 with PHASE 1, its base kept; 0 turns a ring off and changes nothing else
where the device is IDLE, REFUSED or in boot recovery; any other write of a size is ignored with 0x0E11. A base
aligned to 4 KiB is written while the ring is off, any other write of a base is ignored with 0x0E11. TQ_TAIL below
the size is written and ends a halt of the fetch, any other is ignored with 0x0E12. A head below the size that does
not pass the entries written is taken and returns the entries before it; any other is ignored with 0x0E11. Where no
entry is kept and no event is owed, neither a ring that turns on nor a head changes anything else. -/
def Obligations.RingRegistersAreWrittenUnderR119 : Prop :=
  ∀ (s : State) (t : Nat) (r : Ring) (v : Word) (b : DWord),
    let e := s.dev.enter t 7
    let x := s.dev.host.ring r
    let quiet : Prop := s.dev.host.keptCq = [] ∧ s.dev.host.keptEq = [] ∧ s.dev.host.overflow = false
      ∧ s.dev.host.linkReset = none
    let ok : Prop := ∃ k, 4 ≤ k ∧ k ≤ 12 ∧ v.toNat = 2 ^ k
    (ok → x.size = 0 → Runs (.ringSizeWrite t r v) s fun d =>
      (d.host.ring r).base = x.base ∧ (d.host.ring r).size = v ∧ (d.host.ring r).hostIdx = 0
      ∧ (quiet → d = e.setRing r { base := x.base, size := v }))
    ∧ (v = 0 → s.dev.ringsMayStop = true → Runs (.ringSizeWrite t r v) s fun d => d = e.setRing r { x with size := 0 })
    ∧ ((v ≠ 0 → ok → x.size ≠ 0) → (v = 0 → s.dev.ringsMayStop = false) →
      Runs (.ringSizeWrite t r v) s fun d => e.Reports uNODE 0x0E11 none d)
    ∧ (x.size = 0 → b.toNat % 4096 = 0 → Runs (.ringBaseWrite t r b) s fun d => d = e.setRing r { x with base := b })
    ∧ (x.size ≠ 0 ∨ b.toNat % 4096 ≠ 0 → Runs (.ringBaseWrite t r b) s fun d => e.Reports uNODE 0x0E11 none d)
    ∧ (v.toNat < s.dev.host.tq.size.toNat → Runs (.tqTail t v) s fun d =>
      d = { e with host := { e.host with tq := { e.host.tq with hostIdx := v }, fetchHalt := false } })
    ∧ (s.dev.host.tq.size.toNat ≤ v.toNat → Runs (.tqTail t v) s fun d => e.Reports uNODE 0x0E12 none d)
    ∧ (let freed (q : Ring) : Nat := (v.toNat + (s.dev.host.ring q).size.toNat - (s.dev.host.ring q).hostIdx.toNat)
          % (s.dev.host.ring q).size.toNat
      let fits (q : Ring) : Prop := v.toNat < (s.dev.host.ring q).size.toNat ∧ freed q ≤ (s.dev.host.ring q).used
      let moved (q : Ring) (d : Dev) : Prop := (d.host.ring q).hostIdx = v ∧ (d.host.ring q).size = (s.dev.host.ring q).size
        ∧ (quiet → d = e.setRing q { s.dev.host.ring q with hostIdx := v, used := (s.dev.host.ring q).used - freed q })
      (fits .completion → Runs (.cqHead t v) s fun d => moved .completion d)
      ∧ (¬ fits .completion → Runs (.cqHead t v) s fun d => e.Reports uNODE 0x0E11 none d)
      ∧ (fits .event → Runs (.eqHead t v) s fun d => moved .event d)
      ∧ (¬ fits .event → Runs (.eqHead t v) s fun d => e.Reports uNODE 0x0E11 none d))

/-- A write of a 32-bit word of BAR0 that has a command of its own does what that command does: the ring sizes, TQ_TAIL,
the heads, VISOR_REQ, EVENT_ACK and ENGAGE_CTL, in which DISENGAGE wins; a half of a base is written into the base.
VISOR_T and VISOR_SCOPE take what is written. A write below 0x8000 to any other word, and one from 0x9000 on,
changes nothing but the time; one between changes only the MSI-X table with what it releases. EVENT_ACK of a unit of
this node that is no STEP, TEMP, NODE or mitten clears what was unacknowledged of that unit and changes nothing
else. -/
def Obligations.ARegisterWordActsAsItsCommand : Prop :=
  ∀ (s : State) (t : Nat) (v : Word) (u : Nat),
    let e := s.dev.enter t 7
    let w (off : BitVec 16) := exec (.registerWrite t off v) s
    let half (old : DWord) (hi : Bool) : DWord :=
      if hi then v ++ old.extractLsb' 0 32 else old.extractLsb' 32 32 ++ v
    w 0x0208 = exec (.ringSizeWrite t .ticket v) s ∧ w 0x0228 = exec (.ringSizeWrite t .completion v) s
    ∧ w 0x0248 = exec (.ringSizeWrite t .event v) s ∧ w 0x020C = exec (.tqTail t v) s
    ∧ w 0x022C = exec (.cqHead t v) s ∧ w 0x024C = exec (.eqHead t v) s
    ∧ w 0x030C = exec (.visorReq t v) s ∧ w 0x0400 = exec (.eventAck t v) s
    ∧ (v.getLsbD 1 = true → w 0x0100 = exec (.disengage t) s)
    ∧ (v.getLsbD 1 = false → v.getLsbD 0 = true → w 0x0100 = exec (.engageDoorbell t) s)
    ∧ w 0x0200 = exec (.ringBaseWrite t .ticket (half s.dev.host.tq.base false)) s
    ∧ w 0x0204 = exec (.ringBaseWrite t .ticket (half s.dev.host.tq.base true)) s
    ∧ w 0x0220 = exec (.ringBaseWrite t .completion (half s.dev.host.cq.base false)) s
    ∧ w 0x0224 = exec (.ringBaseWrite t .completion (half s.dev.host.cq.base true)) s
    ∧ w 0x0240 = exec (.ringBaseWrite t .event (half s.dev.host.eq.base false)) s
    ∧ w 0x0244 = exec (.ringBaseWrite t .event (half s.dev.host.eq.base true)) s
    ∧ w 0x0300 = .next { s with dev := { e with host := { e.host with visorT := half e.host.visorT false } } }
    ∧ w 0x0304 = .next { s with dev := { e with host := { e.host with visorT := half e.host.visorT true } } }
    ∧ w 0x0308 = .next { s with dev := { e with host := { e.host with visorScope := v } } }
    ∧ (∀ off : BitVec 16, (off.toNat < 0x8000 ∨ 0x9000 ≤ off.toNat) →
        off.toNat / 4 * 4 ∉ [0x0100, 0x0200, 0x0204, 0x0208, 0x020C, 0x0220, 0x0224, 0x0228, 0x022C, 0x0240, 0x0244,
          0x0248, 0x024C, 0x0300, 0x0304, 0x0308, 0x030C, 0x0400] → Runs (.registerWrite t off v) s fun d => d = e)
    ∧ (∀ off : BitVec 16, 0x8000 ≤ off.toNat → off.toNat < 0x9000 → Runs (.registerWrite t off v) s fun d =>
        d = { e with host := d.host } ∧ d.host = { e.host with msixTable := d.host.msixTable, pba := d.host.pba, out := d.host.out })
    ∧ (uvalid u = true → s.dev.node < 65536 → s.dev.mittenRec (s.dev.addr u) = none → uclass u ≠ cSTEP → u ≠ uTEMP →
        u ≠ uNODE → Runs (.eventAck t (BitVec.ofNat 32 (s.dev.addr u))) s fun d =>
          d = { e with units := e.units.upd u fun x => { x with unacked := false } })

/-- A ticket is fetched while its ring is on and not halted, TQ_HEAD is not TQ_TAIL, and four completions fit beyond the
room set aside; then TQ_HEAD advances by one, back to 0 at the size. A ticket that keeps its format waits behind
those fetched before it, and nothing else changes; one that breaks its format ends at once with OUTCOME 1 and
0x0E01, one that names node 0xFFFF with 0x0E02. A failed read leaves TQ_HEAD, halts the fetch and is reported with
0x0E1C. Where no ticket may be fetched neither command does anything. -/
def Obligations.TicketsAreFetchedInOrder : Prop :=
  ∀ (s : State) (t : Nat) (x : Entry) (why : PcieError),
    let e := s.dev.enter t 7
    let h := s.dev.host
    let next : Word := if h.tq.devIdx + 1 = h.tq.size then 0 else h.tq.devIdx + 1
    let slot := h.fetched * 65536 + h.tq.devIdx.toNat % 65536
    let fetched : Dev := { e with host := { h with
      tq := { h.tq with devIdx := next }, fetched := h.fetched + 1
      tickets := h.tickets ++ [{ slot := slot, entry := x, started := false, room := 4 }] } }
    let may : Prop := h.tq.size ≠ 0 ∧ h.fetchHalt = false ∧ h.tq.devIdx ≠ h.tq.hostIdx
      ∧ (h.tickets.map (·.room)).sum + 4 ≤ (h.cq.size.toNat - 1 - h.cq.used) + (4096 - h.keptCq.length)
    (may →
      (ticketFormatOk x = true → ticketNodeAny x = false → Runs (.ticketFetch t x) s fun d => d = fetched)
      ∧ (ticketFormatOk x = false → Runs (.ticketFetch t x) s fun d =>
          fetched.Completes slot 1 0x0E01 d ∧ d.host.tq = fetched.host.tq)
      ∧ (ticketFormatOk x = true → ticketNodeAny x = true → Runs (.ticketFetch t x) s fun d =>
          fetched.Completes slot 1 0x0E02 d ∧ d.host.tq = fetched.host.tq)
      ∧ (Runs (.ticketFetchError t why) s fun d =>
          Dev.Reports { e with host := { h with fetchHalt := true } } uNODE 0x0E1C none d))
    ∧ (¬ may → (Runs (.ticketFetch t x) s fun d => d = e) ∧ Runs (.ticketFetchError t why) s fun d => d = e)

/-- A ticket starts when it is the oldest that has not started and, with WAIT_PRIOR, the oldest of all; its command does
nothing where no ticket of its type can start. One that starts in a state R131 does not accept it in ends with
OUTCOME 1 and 0x0E03: VISOR and CLOSE_JOB before READY, STAGE_IMAGE before READY and outside boot recovery,
TWIN_SWAP but on an engaged twin, and every other type while the device is not engaged. CAL tickets run one at a
time. -/
def Obligations.TicketsOutsideTheirStateAreRefused : Prop :=
  ∀ (s : State) (t : Nat),
    ∀ x ∈ [(0x01, Instr.openJob t), (0x02, .page t), (0x03, .plane t), (0x04, .cal t), (0x05, .testpage t),
        (0x06, .nozzle t), (0x07, .glide t), (0x08, .spit t), (0x09, .visor t), (0x0A, .twinSwap t), (0x0B, .stageImage t),
        (0x0C, .closeJob t)],
      (x.1 = 4 → s.dev.cal.job = none ∧ s.dev.cal.waitMask = 0 ∧ s.dev.cal.step = 0) →
      (s.dev.startable x.1 = none → Runs x.2 s fun d => d = s.dev.enter t 7)
      ∧ ∀ k, s.dev.startable x.1 = some k →
        (if x.1 = 0x09 ∨ x.1 = 0x0C then s.dev.pins.ready = false
          else if x.1 = 0x0B then s.dev.pins.ready = false ∧ s.dev.boot.stage ≠ .recovery
          else if x.1 = 0x0A then s.dev.eng.st ≠ .engaged ∨ s.dev.isTwin = false
          else s.dev.eng.st ≠ .engaged) →
        Runs x.2 s fun d => (s.dev.enter t 7).Completes k.slot 1 0x0E03 d ∧ d.jobs = s.dev.jobs ∧ d.boot = s.dev.boot

/-- On an engaged device OPEN_JOB opens a job that is neither open nor closed while fewer than 16 are open, and
completes with OUTCOME 0; a closed job gives 0x0E04, an open one or a seventeenth 0x0E05. After READY CLOSE_JOB
closes an open job and, where every page of the job is terminal, completes with OUTCOME 0; where one is not, the
ticket waits for it without a completion; a closed job gives 0x0E04, one that was never opened 0x0E03. That an empty
station mask gives 0x0E01 is the model's choice (log entry 16). -/
def Obligations.JobsOpenAndClose : Prop :=
  ∀ (s : State) (t : Nat) (k : Tkt),
    let e := s.dev.enter t 7
    let job := tJob k.entry
    let mask := tf k.entry 167 160
    let j := s.dev.jobs
    (s.dev.startable 0x01 = some k → s.dev.eng.st = .engaged →
      (mask = 0 → Runs (.openJob t) s fun d => e.Completes k.slot 1 0x0E01 d ∧ d.jobs = j)
      ∧ (mask ≠ 0 → job ∈ j.closed → Runs (.openJob t) s fun d => e.Completes k.slot 1 0x0E04 d ∧ d.jobs = j)
      ∧ (mask ≠ 0 → job ∉ j.closed → j.isOpen.get? job ≠ none ∨ 16 ≤ j.isOpen.length →
        Runs (.openJob t) s fun d => e.Completes k.slot 1 0x0E05 d ∧ d.jobs = j)
      ∧ (mask ≠ 0 → job ∉ j.closed → j.isOpen.get? job = none → j.isOpen.length < 16 →
        Runs (.openJob t) s fun d =>
          e.Completes k.slot 0 0 d ∧ d.jobs = { j with isOpen := j.isOpen.set job mask }
          ∧ d.jobs.isOpen.get? job = some mask))
    ∧ (s.dev.startable 0x0C = some k → s.dev.pins.ready = true →
      (job ∈ j.closed → Runs (.closeJob t) s fun d => e.Completes k.slot 1 0x0E04 d ∧ d.jobs = j)
      ∧ (job ∉ j.closed → j.isOpen.get? job = none → Runs (.closeJob t) s fun d =>
          e.Completes k.slot 1 0x0E03 d ∧ d.jobs = j)
      ∧ (job ∉ j.closed → j.isOpen.get? job ≠ none → j.closing = [] → (∀ p ∈ j.pages, p.job = job → p.state.terminal = true) →
        Runs (.closeJob t) s fun d =>
          e.Completes k.slot 0 0 d ∧ d.jobs = { j with isOpen := j.isOpen.del job, closed := job :: j.closed })
      ∧ (job ∉ j.closed → j.isOpen.get? job ≠ none → j.closing = [] → (∃ p ∈ j.pages, p.job = job ∧ p.state.terminal = false) →
        Runs (.closeJob t) s fun d =>
          d.jobs = { j with
            isOpen := j.isOpen.del job, closed := job :: j.closed, closing := [(job, k.slot)] }
          ∧ d.host.cqSeq = s.dev.host.cqSeq))

/-- On an engaged device a PAGE or TESTPAGE ticket without lines, or a TESTPAGE ticket whose PATTERN or PATTERN_PARAM is
reserved, ends with 0x0E01; one whose gauntlet finds something ends with OUTCOME 1 and the first finding's code, and
no page is added; any other adds one page, QUEUED, under the ticket's JOB_ID, PAGE_ID and slot, and uses the
PAGE_ID. A page passes only if its job is open, its PAGE_ID is not used, its stations are stations of the job in
use, and its interlocks name loops and axes in use. LENGTH_LINES 0 as a break of format is the model's choice (log
entry 16). -/
def Obligations.PagesQueueThroughTheirGauntlet : Prop :=
  ∀ (s : State) (t : Nat) (k : Tkt) (test : Bool),
    let e := s.dev.enter t 7
    let j := s.dev.jobs
    let run (P : Dev → Prop) : Prop := (test = true → Runs (.testpage t) s P) ∧ (test = false → Runs (.page t) s P)
    let p := if test then pageOfTestTicket k.entry k.slot j.order else pageOfTicket k.entry k.slot j.order
    let paramOk : Prop := test = true →
      1 ≤ p.pattern ∧ p.pattern ≤ 4 ∧ bits p.param 31 16 = 0 ∧ bits p.param 2 0 = 0
    s.dev.startable (if test then 0x05 else 0x02) = some k → s.dev.eng.st = .engaged →
    (p.lines = 0 ∨ ¬ paramOk → run fun d => e.Completes k.slot 1 0x0E01 d ∧ d.jobs = j)
    ∧ (p.lines ≠ 0 → paramOk → ∀ code, s.dev.pageGauntlet p = some code →
        run fun d => e.Completes k.slot 1 code d ∧ d.jobs.pages = j.pages)
    ∧ (p.lines ≠ 0 → paramOk → s.dev.pageGauntlet p = none →
        (run fun d =>
          d.jobs.pages.length = j.pages.length + 1 ∧ d.jobs.order = j.order + 1 ∧ d.jobs.used = (p.job, p.id) :: j.used
          ∧ ∃ q ∈ d.jobs.pages, q.order = j.order ∧ q.state = .queued ∧ q.job = p.job ∧ q.id = p.id ∧ q.slot = k.slot)
        ∧ (∃ mask, j.isOpen.get? p.job = some mask ∧ p.mask &&& mask = p.mask) ∧ (p.job, p.id) ∉ j.used ∧ p.mask ≠ 0
        ∧ (∀ n, n < 8 → bit p.mask n = true → s.dev.stnOn n = true)
        ∧ (∀ n, n < 64 → bit p.loopMask n = true → s.dev.has .loop n = true)
        ∧ (∀ n, n < 24 → bit p.axisMask n = true → s.dev.has .axis n = true))

/-- On an engaged device a PLANE ticket that R144 refuses ends with OUTCOME 1 and its code, and no page changes. A blank
span is added to its page and completes with OUTCOME 0. Image data are added to the page as a span of their channel;
an idle channel takes the job, starts with a full bucket, and reads the first piece of the scatter list, at most 256
entries. -/
def Obligations.PlaneTicketsDescribeLines : Prop :=
  ∀ (s : State) (t : Nat) (k : Tkt),
    let e := s.dev.enter t 7
    let j := s.dev.jobs
    let x := k.entry
    let c := tf x 168 164
    let q := s.dev.plane.ch.at c
    s.dev.startable 0x03 = some k → s.dev.eng.st = .engaged →
    (∀ code, s.dev.planeRefusal x = some code →
      Runs (.plane t) s fun d => e.Completes k.slot 1 code d ∧ d.jobs = j ∧ d.plane = s.dev.plane)
    ∧ ∀ p, s.dev.planeRefusal x = none → s.dev.pageJ (tJob x) (tf x 159 128) = some p →
      let span (blank : Bool) : Span :=
        { stn := tf x 162 160, first := tf x 367 336, count := tf x 399 368, blank := blank, slot := k.slot, ch := c }
      let pages (blank : Bool) := j.pages.map fun y =>
        if y.order = p.order then { p with spans := p.spans ++ [span blank] } else y
      (tf x 163 163 = 1 → Runs (.plane t) s fun d =>
        e.Completes k.slot 0 0 d ∧ d.jobs = { j with pages := pages true } ∧ d.plane = s.dev.plane)
      ∧ (tf x 163 163 ≠ 1 → q.jobs = [] → q.store = [] → q.sg = [] → q.waitBand = none → Runs (.plane t) s fun d =>
        let job : PlaneJob :=
          { slot := k.slot, job := p.job, page := p.id, ord := p.order, stn := tf x 162 160, sgAddr := tf x 511 448
            sgCount := tf x 447 432, lineBytes := tf x 431 400, lineCount := tf x 399 368, firstLine := tf x 367 336
            asked := min 256 (tf x 447 432) }
        d.jobs.pages = pages false ∧ (d.plane.ch.at c).jobs = [job]
        ∧ (d.plane.ch.at c).tokens = s.dev.cfgN .dma c .BURST_KIB * 1024 * 8192000
        ∧ (∀ r ∈ hostReads job.sgAddr (16 * job.asked), Out.pcieRead r.1 r.2 ∈ d.host.out) ∧ d.plane.mem = s.dev.plane.mem)

/-- On an engaged device a NOZZLE ticket for an enabled nozzle of a lane in use waits at its station, outside a brim
that is open, and nothing else changes; any other NOZZLE ticket ends with 0x0702. A GLIDE joins the queue of every
station it names, its slope held to that of the station, and no station changes otherwise; one without a station in
use ends with 0x0E08, one for which a queue has no room with 0x030B. A SPIT joins the spitting of every station it
names, all jet stations; one that names none or a station of another kind, a pattern that is not marked, or no
repetition ends with 0x040F. -/
def Obligations.TicketsForStationsWaitForTheirBrims : Prop :=
  ∀ (s : State) (t : Nat) (k : Tkt), s.dev.eng.st = .engaged →
    let e := s.dev.enter t 7
    let x := k.entry
    let l := tf x 135 128
    let m := tf x 159 148
    let mask := tf x 135 128
    let named (n : Nat) : Prop := n < 8 ∧ bit mask n = true
    let delta := sx 32 (tf x 191 160)
    let nozOk : Prop := tf x 161 160 ≤ 1 ∧ s.dev.isJet (l / 32) = true ∧ l ∈ s.dev.lanesOf (l / 32) ∧ m < s.dev.nozzles l
      ∧ nozEnabled (s.dev.nozWord l m) = true
    let spitOk : Prop := mask ≠ 0 ∧ tf x 159 144 ≠ 0
      ∧ ∀ n, named n → s.dev.isJet n = true ∧ s.dev.spitMarked n (tf x 143 136) = true
    (s.dev.startable 0x06 = some k →
      (nozOk → s.dev.brimOpen (l / 32) = false → Runs (.nozzle t) s fun d =>
        d = (e.start k).updStn (l / 32) fun y => { y with nozActs := y.nozActs ++ [(k.slot, tf x 161 160, l, m)] })
      ∧ (¬ nozOk → Runs (.nozzle t) s fun d => e.Completes k.slot 1 0x0702 d ∧ d.stn = s.dev.stn))
    ∧ (s.dev.startable 0x07 = some k →
      (mask ≠ 0 → (∀ n, named n → s.dev.stnOn n = true) →
        ((∀ n, named n → s.dev.glideFull n delta = false) → Runs (.glide t) s fun d =>
          d = { e.start k with stn := d.stn }
          ∧ (∀ n, named n → d.stn.at n = { s.dev.stn.at n with glides := (s.dev.stn.at n).glides ++ [
              { slot := k.slot, rem := 256 * delta, slope :=
                  let most := s.dev.cfgN .stnPlace n .GLIDE_SLOPE
                  ((if tf x 159 144 = 0 then most else min (tf x 159 144) most : Nat) : Int) }] })
          ∧ ∀ n, ¬ named n → d.stn.at n = s.dev.stn.at n)
        ∧ ((∃ n, named n ∧ s.dev.glideFull n delta = true) → Runs (.glide t) s fun d =>
          e.Completes k.slot 1 0x030B d ∧ d.stn = s.dev.stn))
      ∧ (mask = 0 ∨ (∃ n, named n ∧ s.dev.stnOn n = false) → Runs (.glide t) s fun d =>
          e.Completes k.slot 1 0x0E08 d ∧ d.stn = s.dev.stn))
    ∧ (s.dev.startable 0x08 = some k →
      (spitOk → Runs (.spit t) s fun d =>
        d = { e.start k with stn := d.stn }
        ∧ (∀ n, named n → (d.stn.at n).spitTickets
            = (s.dev.stn.at n).spitTickets ++ [(k.slot, tf x 143 136, tf x 159 144)])
        ∧ ∀ n, ¬ named n → d.stn.at n = s.dev.stn.at n)
      ∧ (¬ spitOk → Runs (.spit t) s fun d => e.Completes k.slot 1 0x040F d ∧ d.stn = s.dev.stn))

/-- STAGE_IMAGE for this node, or in boot recovery, with no staging under way and a length of 88 bytes to 64 MiB in
words, reads the image from host memory; one for another node ends with OUTCOME 2, one during a staging with 0x011A,
one of another length with 0x0104. On a flash that answers and is idle, an image that has arrived whole and passes
its checks erases the slot not in use, which then reads 0xFF, and no other byte of the flash; one that does not pass
ends with OUTCOME 1 and the code, a failed read, or one of another length, with 0x011B, STAGE_STATUS 6. A flash
operation of a staging that fails ends it with OUTCOME 3 and 0x011B, STAGE_STATUS 6; after a good program operation
its bytes stand in the flash, no other byte has changed, and the next part of the body is written, or all of it read
back. A good read of the header ends the staging with OUTCOME 0 and STAGE_STATUS 5. That a read of another length
counts as failed is the model's choice (log entry 64), and so is the size of a program operation (log entry 63). -/
def Obligations.AnImageIsStagedThroughTheFlash : Prop :=
  ∀ (s : State) (t : Nat) (k : Tkt) (bs : List Byte),
    let e := s.dev.enter t 7
    let b := s.dev.boot
    let x := k.entry
    let len := tf x 447 416
    let ended : Boot := { b with stStep := .none, stState := 6, stData := [] }
    (s.dev.startable 0x0B = some k → s.dev.pins.ready = true ∨ b.stage = .recovery →
      (b.stage ≠ .recovery → tf x 143 128 ≠ s.dev.node → Runs (.stageImage t) s fun d =>
        e.Completes k.slot 2 0 d ∧ d.boot = b)
      ∧ (b.stage = .recovery ∨ tf x 143 128 = s.dev.node →
        (b.stStep ≠ .none → Runs (.stageImage t) s fun d => e.Completes k.slot 1 0x011A d ∧ d.boot = b)
        ∧ (b.stStep = .none → len % 4 = 0 → 88 ≤ len → len ≤ 0x4000000 → Runs (.stageImage t) s fun d =>
          d.boot = { b with stTicket := k.slot, stKib := 0, stStep := .reading, stState := 1 }
          ∧ ∀ r ∈ hostReads (tf x 511 448) len, Out.pcieRead r.1 r.2 ∈ d.host.out)
        ∧ (b.stStep = .none → len % 4 ≠ 0 ∨ len < 88 ∨ 0x4000000 < len → Runs (.stageImage t) s fun d =>
          e.Completes k.slot 1 0x0104 d ∧ d.boot.stStep = .none ∧ d.boot.stState = 6)))
    ∧ (b.stStep = .reading → s.dev.tkt b.stTicket = some k →
      (bs.length = len → s.dev.stageFinding k bs = none → b.answers.getLsbD 0 = true → b.xspi.run = none →
          b.xspi.calOp = none → Runs (.stageBufferReadDone t (.data bs)) s fun d =>
        let slot := s.dev.stageSlot
        d.boot = { b with
          stStep := .erasing, stState := 2, stData := bs, stSlot := slot, stOff := 64
          xspi := d.boot.xspi, flash0 := d.boot.flash0 }
        ∧ d.xspiRuns false = some (.erase 0 (slotOff slot) slotSize)
        ∧ ∀ a, Mem.read 0xFF d.boot.flash0 a =
            if slotOff slot ≤ a ∧ a < slotOff slot + slotSize then 0xFF else Mem.read 0xFF b.flash0 a)
      ∧ (∀ code, bs.length = len → s.dev.stageFinding k bs = some code →
        Runs (.stageBufferReadDone t (.data bs)) s fun d =>
          e.Completes b.stTicket 1 code d ∧ d.boot = { ended with xspi := d.boot.xspi })
      ∧ (∀ r, readExactly len r = none → Runs (.stageBufferReadDone t r) s fun d =>
          e.Completes b.stTicket 1 0x011B d ∧ d.boot = { ended with xspi := d.boot.xspi }))
    ∧ (∀ op, s.dev.xspiRuns false = some op → b.xspi.calOp = none →
      (s.dev.tkt b.stTicket = some k → Runs (.stageFlashOpDone t false) s fun d =>
        e.Completes b.stTicket 3 0x011B d ∧ d.boot = { ended with xspi := { run := none, calOp := none, stageOp := none } })
      ∧ (∀ off xs, op = .write 0 off xs → b.stStep = .writing → b.answers.getLsbD 0 = true → Mem.wf 0xFF b.flash0 = true →
        Runs (.stageFlashOpDone t true) s fun d =>
          let done := b.stOff + (stageChunk b.stData b.stOff).length
          d.boot.stOff = done ∧ d.boot.stStep = (if done < b.stData.length then .writing else .comparing)
          ∧ ∀ a, Mem.read 0xFF d.boot.flash0 a =
              if off ≤ a ∧ a < off + xs.length then xs.getD (a - off) 0 else Mem.read 0xFF b.flash0 a)
      ∧ (∀ cs off n, op = .read cs off n → b.stStep = .headerCheck → s.dev.tkt b.stTicket = some k →
          (headerCheck (b.slotHeader b.stSlot)).isNone = true → Runs (.stageFlashOpDone t true) s fun d =>
        e.Completes b.stTicket 0 0 d ∧ d.boot.stStep = .none ∧ d.boot.stState = 5))

/-- A piece of the scatter list that was asked for and keeps to R137 is the channel's to split, and the channel goes on.
An inconsistent list, on a channel with nothing else to do, ends its ticket with OUTCOME 3 and 0x0E0F. A piece that
fails leaves the lines of its entries never to arrive, from the line of the first byte not yet split on: with the
last piece these are the rest of the list; of another piece the number of bytes is open, at least one for each
entry, and the model takes a free value for it (log entry 11). All three complete. -/
def Obligations.ScatterListsArriveInPieces : Prop :=
  ∀ (s : State) (t : Nat) (c : Fin 32) (es : List SgEntry) (j : PlaneJob),
    let e := s.dev.enter t 7
    let q := s.dev.plane.ch.at c
    let total := j.lineBytes * j.lineCount
    let got := listSum es
    let ok : Prop := (∀ x ∈ es, x.len ≠ 0 ∧ x.reserved = 0) ∧ j.listed + got ≤ total
      ∧ (j.asked = j.sgCount → total ≤ j.listed + got)
    q.active = some j → j.fetched < j.asked →
    (es.length = j.asked - j.fetched → ok → Runs (.scatterFetchDone t c es) s fun d =>
      d = ((e.updJob c j.slot fun x => { x with fetched := x.asked, listed := j.listed + got }).updChan c
        fun x => { x with sg := es }).chanRun c)
    ∧ (es.length = j.asked - j.fetched → ¬ ok → q.jobs = [j] → q.store = [] → (s.dev.tkt j.slot).isSome = true →
      Runs (.scatterFetchDone t c es) s fun d =>
        e.Completes j.slot 3 0x0E0F d ∧ (d.plane.ch.at c).jobs = [] ∧ d.plane.mem = s.dev.plane.mem)
    ∧ Runs (.scatterFetchFail t c) s fun d => ∃ n,
        d.plane.never = (j.ord, j.stn, j.firstLine + j.offset / j.lineBytes,
          j.firstLine + (j.offset + n - 1) / j.lineBytes) :: s.dev.plane.never
        ∧ (j.asked = j.sgCount → n = total - j.listed) ∧ (j.asked ≠ j.sgCount → j.asked - j.fetched ≤ n)

/-- Once a channel has done what it can, and the request slot is its own and a tag is free, it issues one read under
this tag for its oldest descriptor with bytes still to be asked for, while fewer than MAX_READS are outstanding and,
where it is metered, tokens for the bytes are in the bucket, which then loses them: at most 4 KiB, within one 4 KiB
page of host memory; the channel goes behind the others in the round of the slots. Where the slot is another
channel's, no tag is free, or MAX_READS are outstanding, nothing is asked for. Without enough tokens nothing is
asked for either, and the channel waits in its place. A refill adds the channel's share of the link rate over the
time since the last one, up to the burst. -/
def Obligations.ReadsAreIssuedWithinTheirLimits : Prop :=
  ∀ (s : State) (t mt width : Nat) (c : Fin 32) (x : Desc),
    let e := s.dev.enter t 7
    let m := e.chanRun c
    let q := m.plane.ch.at c
    let n := x.readLen
    let metered := m.cfgB .dma c .METERED = true
    (m.nextRead c = some x → q.reads.length < m.cfgN .dma c .MAX_READS →
      1 ≤ n ∧ n ≤ 4096 ∧ (x.src + x.issued) % 4096 + n ≤ 4096 ∧ x.issued + n ≤ x.len
      ∧ (∀ g, (metered → n * 8192000 ≤ q.tokens) → m.slotOf = some c.val → m.plane.freeTag = some g →
        Runs (.dmaReadIssue t c) s fun d =>
        Out.pcieRead (x.src + x.issued) n ∈ d.host.out
        ∧ (d.plane.ch.at c).reads = q.reads ++ [(g, x.id, n, x.issued)]
        ∧ g ∉ m.plane.tags ∧ d.plane.slots = m.plane.slots.filter (fun k => k != c.val) ++ [c.val]
        ∧ (metered → (d.plane.ch.at c).tokens + n * 8192000 = q.tokens) ∧ d.plane.mem = m.plane.mem)
      ∧ ((metered → n * 8192000 ≤ q.tokens) → m.slotOf ≠ some c.val ∨ m.plane.freeTag = none →
        Runs (.dmaReadIssue t c) s fun d => d = m)
      ∧ (metered → q.tokens < n * 8192000 → Runs (.dmaReadIssue t c) s fun d =>
        (d.plane.ch.at c).reads = q.reads ∧ (d.plane.ch.at c).tokens = q.tokens ∧ (d.plane.ch.at c).dry = true
        ∧ d.plane.slots = m.plane.slots))
    ∧ (m.nextRead c = some x → m.cfgN .dma c .MAX_READS ≤ q.reads.length → Runs (.dmaReadIssue t c) s fun d => d = m)
    ∧ (s.dev.cfgB .dma c .METERED = true → (s.dev.plane.ch.at c).jobs ≠ [] → Runs (.tokenRefill t c mt width) s fun d =>
      (d.plane.ch.at c).tokens = min (s.dev.cfgN .dma c .BURST_KIB * 1024 * 8192000)
        ((s.dev.plane.ch.at c).tokens
          + (e.clk.now - (s.dev.plane.ch.at c).refillAt) * mt * width * s.dev.cfgN .dma c .SHARE)
      ∧ (d.plane.ch.at c).refillAt = e.clk.now ∧ d.plane.mem = s.dev.plane.mem)

/-- When the one outstanding read of the only descriptor of a channel brings its bytes, they stand in plane memory from
the descriptor's destination on, the descriptor is written back as done, and DESC_DONE and BYTES rise. When it
fails, no byte is written, the descriptor is written back as BAD with the reason of the failure, and DESC_BAD rises.
A timeout is a failure with 0x0D0A. Whatever else the channel does, a byte of plane memory outside the answered
pieces of the descriptors in its store stays as it was, or reads 0 where its band has been allocated. -/
def Obligations.ACompletedReadWritesItsBytesAndNoOthers : Prop :=
  ∀ (s : State) (t : Nat) (c : Fin 32) (tag : BitVec 14) (bs : List Byte) (why : PcieError) (r : ReadResult) (x : Desc),
    let q := s.dev.plane.ch.at c
    let u := uid cDMA c
    exec (.dmaReadTimeout t c tag) s = exec (.dmaReadCompletion t c tag (.error .timeout)) s
    ∧ (q.store = [x] → q.reads = [(tag.toNat, x.id, x.len, 0)] → q.sg = [] → x.status = 0 → x.reason = 0 →
        x.issued = x.len → x.pieces = [] → s.dev.late x.ord x.stn x.line = false →
      (bs.length = x.len → Runs (.dmaReadCompletion t c tag (.data bs)) s fun d =>
        d.plane.mem = Mem.writeBytes 0 s.dev.plane.mem x.dst bs
        ∧ (d.plane.ch.at c).done.head? = some { x with status := 1, reason := 0, pieces := [] }
        ∧ (d.plane.ch.at c).reads = [] ∧ (d.plane.ch.at c).store = []
        ∧ d.ctrAt u .DESC_DONE = s.dev.ctrAt u .DESC_DONE + 1
        ∧ d.ctrAt u .BYTES = s.dev.ctrAt u .BYTES + BitVec.ofNat 64 x.len)
      ∧ Runs (.dmaReadCompletion t c tag (.error why)) s fun d =>
        d.plane.mem = s.dev.plane.mem
        ∧ (d.plane.ch.at c).done.head? = some { x with status := 2, reason := pcieCode why, pieces := [] }
        ∧ (d.plane.ch.at c).reads = [] ∧ (d.plane.ch.at c).store = []
        ∧ d.ctrAt u .DESC_BAD = s.dev.ctrAt u .DESC_BAD + 1)
    ∧ (q.store = [x] → q.reads = [(tag.toNat, x.id, x.len, 0)] → q.sg = [] → x.status = 0 → x.reason = 0 →
        x.issued = x.len → x.pieces = [] → s.dev.late x.ord x.stn x.line = false →
      Runs (.dmaReadTimeout t c tag) s fun d =>
        d.plane.mem = s.dev.plane.mem
        ∧ (d.plane.ch.at c).done.head? = some { x with status := 2, reason := 0x0D0A, pieces := [] }
        ∧ (d.plane.ch.at c).reads = [] ∧ (d.plane.ch.at c).store = []
        ∧ d.ctrAt u .DESC_BAD = s.dev.ctrAt u .DESC_BAD + 1)
    ∧ Runs (.dmaReadCompletion t c tag r) s fun d => ∀ a,
        (∀ y ∈ q.store, (∀ p ∈ y.pieces, a < y.dst + p.1 ∨ y.dst + p.1 + p.2.length ≤ a)
          ∧ ∀ k ∈ q.reads, k.1 = tag.toNat → k.2.1 = y.id →
              a < y.dst + k.2.2.2 ∨ y.dst + k.2.2.2 + k.2.2.1 ≤ a) →
        Mem.read 0 d.plane.mem a = Mem.read 0 s.dev.plane.mem a
        ∨ Mem.read 0 d.plane.mem a = 0 ∧ (d.plane.bands.get? (a / 65536)).isSome = true

/-- A band whose lines are done, which no descriptor in flight writes and which no audit withdrew, returns to its free
list and RETURNS rises; a band still in use stays; the return of a free band is rejected with 0x0D0D on the bank and
owed to the next brim. A grant gives the free band of lowest index below the reserve to the allocation that has
waited longest, a tie to the lower station; its bytes read 0 and carry no flaw of before, ALLOCS rises, and every
channel that awaited the band goes on. Both complete. -/
def Obligations.BandsAreGrantedAndReturned : Prop :=
  ∀ (s : State) (t : Nat) (k : Fin 32) (b : Fin 256) (w : Nat × Nat × Nat × Nat) (f : Nat),
    let e := s.dev.enter t 7
    let key := k.val * 256 + b.val
    (s.dev.plane.bands.get? key = none → Runs (.bandReturn t k b) s fun d =>
      ∃ m, e.Reports (uid cBANK k) 0x0D0D none m
        ∧ d = { m with plane := { m.plane with conserve := 8 :: m.plane.conserve } })
    ∧ (∀ o, s.dev.plane.bands.get? key = some o →
      let free : Prop := s.dev.bandUsed o = true ∧ s.dev.bandBusy key = false ∧ o.withdrawn = false
      (free → Runs (.bandReturn t k b) s fun d =>
        d = ({ e with plane := { e.plane with bands := e.plane.bands.del key } }).bump (uid cBANK k) .RETURNS 1)
      ∧ (¬ free → Runs (.bandReturn t k b) s fun d => d = e))
    ∧ (s.dev.firstWait k = some w → w ∈ s.dev.plane.waiting ∧ w.2.2.1 = k.val
        ∧ ∀ v ∈ s.dev.plane.waiting, v.2.2.1 = k.val → w.1 < v.1 ∨ (w.1 = v.1 ∧ w.2.1 ≤ v.2.1))
    ∧ (s.dev.freeOf k = some f → f < 256 - s.dev.cfgN .bank k .SYS_BANDS
        ∧ s.dev.plane.bands.get? (k.val * 256 + f) = none
        ∧ ∀ g, g < f → s.dev.plane.bands.get? (k.val * 256 + g) ≠ none)
    ∧ ∀ j bank group, s.dev.firstWait k = some w → s.dev.freeOf k = some f →
        (s.dev.plane.ch.at w.2.2.2).active = some j → (s.dev.plane.ch.at w.2.2.2).waitBand = some (bank, group) →
        Runs (.bandGrant t k) s fun d =>
          d = (({ e with plane := { e.plane with
              waiting := e.plane.waiting.filter (· ≠ w)
              bands := e.plane.bands.set (k.val * 256 + f)
                { stn := j.stn, job := j.job, page := j.page, ord := j.ord, group := group }
              mem := Mem.erase e.plane.mem ((k.val * 256 + f) * 65536) 65536
              flaws := unflaw ((k.val * 256 + f) * 65536) 65536 e.plane.flaws } }).bump
            (uid cBANK k) .ALLOCS 1).bandHere j.ord j.stn group

/-- A QUEUED page for which R145 holds becomes ARMED, and its stations take its media width; one for which it does not
stays. At the arm deadline, which has come once ARM_MARGIN_US or less is left before its bound edge is predicted at
its first station and is tested once, a page that may not arm is MISSED, with 0x0E17 if it had armed and 0x0E13
otherwise, and is counted at its stations; a QUEUED one that may is ARMED; before the deadline, or without a leading
edge, nothing changes. An ARMED page of the engaged device whose deadline has been tested is MARKING from the
arrival of its leading edge at its first station on, with the stamp of that instant; without this arrival nothing
changes. No other page changes. -/
def Obligations.PagesArmAndAreMarked : Prop :=
  ∀ (s : State) (t : Nat) (job id : Word) (p : Page),
    let e := s.dev.enter t 7
    let others (d : Dev) : Prop := ∀ q ∈ s.dev.jobs.pages, q.order ≠ p.order →
      ∃ r ∈ d.jobs.pages, r.order = q.order ∧ r.state = q.state ∧ r.stn = q.stn
    let becomes (d : Dev) (P : Page → Prop) : Prop := ∃ r ∈ d.jobs.pages, r.order = p.order ∧ P r
    s.dev.pageJ job.toNat id.toNat = some p → (s.dev.jobs.pages.map (·.order)).Nodup →
    (p.state = .queued → e.canArm p = true → Runs (.pageArm t job id) s fun d =>
      becomes d (fun r => r.state = .armed ∧ r.armedAt = e.qns) ∧ others d
      ∧ ∀ n, n < 8 → bit p.mask n = true → (d.stn.at n).width = p.width)
    ∧ (p.state ≠ .queued ∨ e.canArm p = false → Runs (.pageArm t job id) s fun d => d = e)
    ∧ (∀ le, (p.stn.at (s.dev.firstStn p)).le = some le → e.atDeadline (s.dev.firstStn p) le = true → p.deadline = false →
      (p.state = .queued ∨ p.state = .armed → e.canArm p = false → Runs (.armDeadline t job id) s fun d =>
        becomes d (fun r => r.state = .missed ∧ r.reason = (if p.state = .armed then 0x0E17 else 0x0E13)) ∧ others d
        ∧ ∀ n, n < 8 → bit p.mask n = true →
          d.ctrAt (uid cSTN n) .MISSED_PAGES = s.dev.ctrAt (uid cSTN n) .MISSED_PAGES + 1)
      ∧ (p.state = .queued → e.canArm p = true → Runs (.armDeadline t job id) s fun d =>
        becomes d (fun r => r.state = .armed ∧ r.deadline = true) ∧ others d))
    ∧ (p.deadline = true → Runs (.armDeadline t job id) s fun d => d = e)
    ∧ ((∀ le, (p.stn.at (s.dev.firstStn p)).le = some le → e.atDeadline (s.dev.firstStn p) le = false) →
      Runs (.armDeadline t job id) s fun d => d = e)
    ∧ (e.edgeArrived p = false → Runs (.markingStart t job id) s fun d => d = e)
    ∧ (p.state = .armed → p.deadline = true → s.dev.eng.st = .engaged → bit p.mask (s.dev.firstStn p) = true →
        e.edgeArrived p = true → (p.stn.at (s.dev.firstStn p)).marked = false →
        s.dev.firstStn p < 8 →
      Runs (.markingStart t job id) s fun d =>
        becomes d (fun r => r.state = .marking ∧ r.leStamp = e.stamp ∧ (r.stn.at (s.dev.firstStn p)).begun = true)
        ∧ others d)

/-- A cue edge of the wrong polarity, of a cue that is not RUN, or before the bank of the cues has left high impedance,
does nothing; one shorter than its filter or within the hold-off is only counted in FILTERED; one that is accepted
is counted in EDGES and begins a hold-off (in MODE 1 from the end of the mark, log entry 27), and where no station
uses the cue nothing else changes. A virtual edge at LE + WEB_REPEAT, once the lattice has reached it, binds to the
oldest page without one unless that page has LE_MODE 1; with a brim that is too short the page is MISSED with
0x0309; without such a page the edge is counted as unbound with 0x030D. LE_POS binds the page at its first station
to LE_POS less STN_OFFSET once the lattice there has reached it. An upstream edge that one station takes binds the
oldest page without LE_MODE there to its instant in the lattice, but out of sequence or past the arm deadline of
that page it ends the page in MISSED with 0x030A and is counted. -/
def Obligations.LeadingEdgesAreBound : Prop :=
  ∀ (s : State) (t : Nat) (cue : Fin 16) (rising : Bool) (widthNs : Nat) (n : Fin 8) (p : Page) (job id : Word)
      (node : Half) (up : Fin 8) (seq : Word) (tEdge : DWord),
    let e := s.dev.enter t 6
    let u := uid cCUE cue
    let x := s.dev.stn.at n
    let becomes (d : Dev) (P : Page → Prop) : Prop := ∃ r ∈ d.jobs.pages, r.order = p.order ∧ P r
    let uses (m : Nat) : Prop := s.dev.binding m = true
      ∧ ((s.dev.cfgN .stnPlace m .LE_SRC = 0 ∧ s.dev.cfgN .stnPlace m .LE_CUE = cue.val)
        ∨ (s.dev.cfgB .stnPlace m .REG_EN = true ∧ s.dev.cfgN .stnPlace m .REG_CUE = cue.val))
    let short (le : Int) : Prop := ∃ pe, s.dev.prevPlace n = some pe
      ∧ le - pe < 65536 * ((s.dev.cfgN .stnPlace n .BRIM_MIN_LINES : Nat) : Int)
    (s.dev.has .cue cue = true →
      (s.dev.bankUp .cues = false ∨ s.dev.ust u ≠ .run ∨ rising = s.dev.cfgB .cue cue .POLARITY →
        Runs (.cueEdge t cue rising widthNs) s fun d => d = e)
      ∧ (s.dev.bankUp .cues = true → s.dev.ust u = .run → rising ≠ s.dev.cfgB .cue cue .POLARITY →
        (widthNs < s.dev.cfgN .cue cue .FILTER_NS ∨ e.qns < s.dev.cueHold.at cue →
          Runs (.cueEdge t cue rising widthNs) s fun d => d = e.bump u .FILTERED 1)
        ∧ (s.dev.cfgN .cue cue .FILTER_NS ≤ widthNs → s.dev.cueHold.at cue ≤ e.qns → (∀ m, m < 8 → ¬ uses m) →
          Runs (.cueEdge t cue rising widthNs) s fun d =>
            d = ({ e with cueHold := e.cueHold.set cue (e.qns
              + (if s.dev.cfgN .cue cue .MODE = 1 then 4 * widthNs else 0) + 4000 * s.dev.cfgN .cue cue .HOLDOFF_US) }).bump u .EDGES 1)))
    ∧ (∀ last, x.leLast = some last → s.dev.binding n = true → s.dev.cfgB .stnPlace n .WEB = true → x.webWait = false →
      (s.dev.jobs.pages.map (·.order)).Nodup →
      let le := last + s.dev.cfg .stnPlace n .WEB_REPEAT
      le ≤ e.place n →
      (s.dev.unbound n = some p → p.leMode = false → ¬ short le → Runs (.virtualLeadingEdge t n) s fun d =>
        becomes d (fun r => (r.stn.at n).le = some le ∧ r.state = p.state) ∧ (d.stn.at n).leLast = some le
        ∧ d.ctrAt (uid cSTN n) .EDGES_BOUND = s.dev.ctrAt (uid cSTN n) .EDGES_BOUND + 1)
      ∧ (s.dev.unbound n = some p → p.leMode = false → short le → Runs (.virtualLeadingEdge t n) s fun d =>
        becomes d (fun r => r.state = .missed ∧ r.reason = 0x0309)
        ∧ d.ctrAt (uid cSTN n) .SHORT_BRIMS = s.dev.ctrAt (uid cSTN n) .SHORT_BRIMS + 1)
      ∧ (s.dev.unbound n = none ∨ (s.dev.unbound n = some p ∧ p.leMode = true) →
        Runs (.virtualLeadingEdge t n) s fun d =>
          d.jobs = s.dev.jobs ∧ (d.stn.at n).leLast = some le ∧ e.Heard (uid cSTN n) 0x030D none d
          ∧ d.ctrAt (uid cSTN n) .EDGES_UNBOUND = s.dev.ctrAt (uid cSTN n) .EDGES_UNBOUND + 1))
    ∧ (s.dev.pageJ job.toNat id.toNat = some p → (s.dev.jobs.pages.map (·.order)).Nodup →
      let f := s.dev.firstStn p
      s.dev.binding f = true → p.leMode = true → p.state = .queued ∨ p.state = .armed → (p.stn.at f).bound = false → f < 8 →
      bit p.mask f = true → 256 * (p.lePos - s.dev.cfg .stnPlace f .STN_OFFSET) ≤ e.place f →
      Runs (.lePosReached t job id) s fun d =>
        becomes d (fun r => (r.stn.at f).bound = true
          ∧ (r.stn.at f).le = some (256 * (p.lePos - s.dev.cfg .stnPlace f .STN_OFFSET))))
    ∧ (s.dev.unbound0 n = some p → (s.dev.jobs.pages.map (·.order)).Nodup →
      (∀ m, m < 8 → ((s.dev.binding m = true ∧ s.dev.cfgN .stnPlace m .LE_SRC = 1
        ∧ s.dev.nodeNamed (s.dev.cfgN .stnPlace m .UPSTREAM_NODE) = node.toNat ∧ s.dev.cfgN .stnPlace m .UPSTREAM_STN = up.val
        ∧ s.dev.takesEdge m = true) ↔ m = n.val)) →
      let le := s.dev.mapTau n tEdge.toNat
      let lost : Prop := seq.toNat ≠ nextSeq x.upSeq ∨ e.edgeLate p tEdge.toNat = true
      (¬ lost → ¬ short le → Runs (.pageEdge t node up seq tEdge) s fun d =>
        becomes d (fun r => (r.stn.at n).le = some le ∧ r.state = p.state) ∧ (d.stn.at n).upSeq = seq.toNat)
      ∧ (lost → Runs (.pageEdge t node up seq tEdge) s fun d =>
        becomes d (fun r => r.state = .missed ∧ r.reason = 0x030A) ∧ (d.stn.at n).upSeq = seq.toNat
        ∧ d.ctrAt (uid cSTN n) .UPSTREAM_GAPS = s.dev.ctrAt (uid cSTN n) .UPSTREAM_GAPS + 1))

/-- Lattice edges of a station in use, whose encoders' bank has left high impedance, move its 64-bit position by 1 each,
with their sign; in FOLLOW the edges are the share of the counts. Every multiple of 32 pu that the position comes to
is stamped, in the order of the motion, the last 1,024 stamps are kept, and where the motion ends on one the newest
stamp has the instant of the command; the instants of those before it are open (log entry 114). The count of its
quadrature primary encoder is the one that the command brings. No edge, or one of a station not in use, does
nothing. A glide step, once the lattice has reached another multiple of 256 pu, keeps the sum of G, the remainders
and the register correction, and changes G by at most GLIDE_SLOPE where no slope in the queue is greater; else it
does nothing. When COAST_MAX lines of a page in MARKING have been issued while coasting, every later line of it is
blanked there, with 0x0305; before that nothing changes. No other station changes. -/
def Obligations.TheLatticeAndTheCorrections : Prop :=
  ∀ (s : State) (t : Nat) (n : Fin 8) (edges pri sec : Int) (p : Page),
    let e := s.dev.enter t 7
    let x := s.dev.stn.at n
    let moved : Prop := e.place n / 65536 ≠ x.gAt
    let came := e.edgesOf n edges pri
    let enc1 := s.dev.cfgN .stnPlace n .PRI_ENC
    ((s.dev.pll.at (n + 2)).follow = false → came = edges)
    ∧ (s.dev.stnOn n = true → s.dev.bankUp .encoders = true → edges ≠ 0 →
      Runs (.latticeStamp t n edges ⟨pri, sec⟩) s fun d =>
        let y := d.stn.at n
        (came ≠ 0 → (-9223372036854775808 : Int) ≤ y.lattice ∧ y.lattice < 9223372036854775808
          ∧ (y.lattice - (x.lattice + came)) % 18446744073709551616 = 0)
        ∧ (came = 0 → y.lattice = x.lattice)
        ∧ y.stamps.map (·.1) = (if stampsOn x.lattice y.lattice = [] then x.stamps.map (·.1)
            else ((stampsOn x.lattice y.lattice).reverse ++ x.stamps.map (·.1)).take 1024)
        ∧ (∀ p, 32 * p ∈ stampsOn x.lattice y.lattice ↔
            (x.lattice < 32 * p ∧ 32 * p ≤ y.lattice ∧ y.lattice / 32 - p < 1024)
            ∨ (y.lattice ≤ 32 * p ∧ 32 * p < x.lattice ∧ p + (-y.lattice) / 32 < 1024))
        ∧ (y.lattice % 32 = 0 → y.lattice ≠ x.lattice → y.stamps.head? = some (y.lattice, e.qns))
        ∧ (s.dev.cfgN .enc enc1 .MODE ≠ 1 →
            s.dev.cfgB .stnPlace n .SEC_EN = false ∨ s.dev.cfgN .stnPlace n .SEC_ENC ≠ enc1 → (d.enc.at enc1).count = pri)
        ∧ ∀ m, m ≠ n.val → d.stn.at m = s.dev.stn.at m)
    ∧ (s.dev.stnOn n = false ∨ s.dev.bankUp .encoders = false ∨ edges = 0 →
        Runs (.latticeStamp t n edges ⟨pri, sec⟩) s fun d => d = e)
    ∧ (s.dev.binding n = false ∨ ¬ moved → Runs (.glideStep t n) s fun d => d = e)
    ∧ (s.dev.binding n = true → moved → Runs (.glideStep t n) s fun d =>
        (d.stn.at n).g + (d.stn.at n).pendingSum = x.g + x.pendingSum
        ∧ ((∀ g ∈ x.glides, 0 ≤ g.slope ∧ g.slope ≤ (s.dev.cfgN .stnPlace n .GLIDE_SLOPE : Nat)) →
            absI ((d.stn.at n).g - x.g) ≤ (s.dev.cfgN .stnPlace n .GLIDE_SLOPE : Nat))
        ∧ ∀ m, m ≠ n.val → d.stn.at m = s.dev.stn.at m)
    ∧ (s.dev.marking n = some p → x.coasting = true → (p.stn.at n).cut = false →
      (p.stn.at n).coastLines < s.dev.cfgN .stnPlace n .COAST_MAX → Runs (.coastSpent t n) s fun d => d = e)
    ∧ (s.dev.marking n = some p → x.coasting = true → (p.stn.at n).cut = false →
      s.dev.cfgN .stnPlace n .COAST_MAX ≤ (p.stn.at n).coastLines → Runs (.coastSpent t n) s fun d =>
        ((e.updPg p.order n fun y => { y with cut := true }).updPage p.order fun q => q.mark fBLANKED 0x0305).Reports
          (uid cSTN n) 0x0305 none d)

/-- While the bank of the encoders is up: an SSI word moves the count by its difference from the latest word, wrapping
at SSI_BITS, clears the failures, is the phase sample of the place PLL of each station on the encoder, and changes
nothing else unless a station with a secondary encoder compares their travel on it; a failed frame is counted and
nothing else changes until the third in a row, which puts the encoder in FAULT with 0x0303, as an open or shorted
input does. An illegal transition is counted and reported with 0x0310. A lattice rate that is too high makes a
station with a place PLL that has locked coast. -/
def Obligations.EncodersAndTheirLoss : Prop :=
  ∀ (s : State) (t : Nat) (i : Fin 48) (v : BitVec 31) (n : Fin 8),
    let e := s.dev.enter t 7
    let x := s.dev.enc.at i
    let k := s.dev.cfgN .enc i .SSI_BITS
    let word := v.toNat % 2 ^ k
    let u := uid cENC i
    s.dev.bankUp .encoders = true →
    (s.dev.has .enc i = true → s.dev.cfgN .enc i .MODE = 1 →
      (Runs (.ssiWord t i (some v)) s fun d =>
        ((∀ m, s.dev.binding m = true → s.dev.cfgB .stnPlace m .SEC_EN = false) → d = { e with enc := d.enc, pll := d.pll })
        ∧ (∀ m ∈ s.dev.stnsOfEnc i, (d.pll.at (m + 2)).sample = some ((d.enc.at i).count, e.qns)) ∧ (∀ j, j ≠ i.val → d.enc.at j = s.dev.enc.at j)
        ∧ (d.enc.at i).ssiFails = 0 ∧ (d.enc.at i).ssiLast = some word
        ∧ (d.enc.at i).count = x.count
          + (match x.ssiLast with
            | none => 0
            | some o =>
              let step := sx k (word + 2 ^ k - o)
              if s.dev.cfgB .enc i .DIR_INVERT then -step else step))
      ∧ (x.ssiFails ≠ 2 → Runs (.ssiWord t i none) s fun d =>
        d = { e with enc := e.enc.set i { x with ssiFails := x.ssiFails + 1 } })
      ∧ (x.ssiFails = 2 → Runs (.ssiWord t i none) s fun d =>
        (d.enc.at i).bad = true ∧ (d.enc.at i).ssiFails = 3 ∧ e.Heard u 0x0303 (some .fault) d))
    ∧ (s.dev.has .enc i = true → Runs (.encFault t i) s fun d =>
        (d.enc.at i).bad = true ∧ e.Heard u 0x0303 (some .fault) d)
    ∧ (s.dev.has .enc i = true → s.dev.cfgN .enc i .MODE = 0 → Runs (.quadError t i) s fun d =>
        d.ctrAt u .QUAD_ERRORS = s.dev.ctrAt u .QUAD_ERRORS + 1 ∧ e.Heard u 0x0310 none d)
    ∧ (s.dev.stnOn n = true → (s.dev.pll.at (n + 2)).everLocked = true → (s.dev.stn.at n).coasting = false →
      Runs (.overspeed t n) s fun d =>
        (d.stn.at n).coasting = true ∧ (d.pll.at (n + 2)).ref = false ∧ (d.pll.at (n + 2)).hold = true
        ∧ d.ctrAt (uid cSTN n) .COAST_EVENTS = s.dev.ctrAt (uid cSTN n) .COAST_EVENTS + 1)

/-- On an engaged device with no CAL ticket under way, a CAL ticket is refused with 0x0803 at generation 0xFFFF_FFFE and
with 0x0801 for a length that R139 does not allow; otherwise it reads BUF_LEN bytes from BUF_ADDR, in reads that
cross no 4 KiB boundary. A failed read, or one of another length, refuses it with 0x0804, a record that is not well
formed or a finding of the gauntlet with that code: a refused ticket changes no value and no flash. An accepted one
of whose stations none is in a brim waits, with the generation after the one in effect, at every station of STN_MASK
in use. That a read of another length counts as failed is the model's choice (log entry 64). -/
def Obligations.TheCalTicketReadsItsBuffer : Prop :=
  ∀ (s : State) (t : Nat),
    let e := s.dev.enter t 7
    let c := s.dev.cal
    (∀ k : Tkt, s.dev.eng.st = .engaged → s.dev.startable 0x04 = some k → c.job = none → c.waitMask = 0 → c.step = 0 →
      let buf := tf k.entry 511 448
      let len := tf k.entry 159 128
      let refused (code : Nat) : Prop := Runs (.cal t) s fun d => e.Completes k.slot 1 code d ∧ d.cal = c ∧ d.boot = s.dev.boot
      (c.gen = 0xFFFFFFFE → refused 0x0803)
      ∧ (c.gen ≠ 0xFFFFFFFE → len < 16 ∨ 8388608 < len → refused 0x0801)
      ∧ (c.gen ≠ 0xFFFFFFFE → 16 ≤ len → len ≤ 8388608 → Runs (.cal t) s fun d =>
        d = Dev.readHost buf len { e.start k with
          cal := { c with job := some (k.slot, tf k.entry 167 160, buf, len), reading := true } }
        ∧ ∀ r ∈ hostReads buf len, Out.pcieRead r.1 r.2 ∈ d.host.out ∧ r.1 % 4096 + r.2 ≤ 4096))
    ∧ (∀ (r : ReadResult) (slot mask addr len : Nat),
      c.job = some (slot, mask, addr, len) → c.reading = true → s.dev.tkt slot ≠ none → s.dev.twin.partnerGen = none →
      let refused (code : Nat) : Prop := Runs (.calBufferReadDone t r) s fun d =>
        e.Completes slot 1 code d ∧ d.boot = { s.dev.boot with xspi := { s.dev.boot.xspi with calOp := none } }
        ∧ d.cal = { c with job := none, reading := false, step := 0, wait := [], adopt := false }
      (∀ code, r = .error code → refused 0x0804)
      ∧ ∀ bs, r = .data bs →
        (bs.length ≠ len → refused 0x0804)
        ∧ (bs.length = len →
          (∀ code, calWalk 0xFFFF (len / 20 + 1) [] bs = .error code → refused code)
          ∧ ∀ xs, calWalk 0xFFFF (len / 20 + 1) [] bs = .ok xs →
            (∀ code, s.dev.calGauntlet c.recs mask xs = some code → refused code)
            ∧ (s.dev.calGauntlet c.recs mask xs = none →
              (∃ n, n < 8 ∧ bit mask n = true ∧ s.dev.stnOn n = true) →
              (∀ n, n < 8 → bit mask n = true → e.brimOpen n = false) →
              Runs (.calBufferReadDone t r) s fun d =>
                d = { e with cal := { c with
                  reading := false, wait := xs, waitMask := d.cal.waitMask, newGen := c.gen + 1, adopt := false
                  applied := if c.newGen = c.gen + 1 then c.applied else 0 } }
                ∧ ∀ n, n < 8 → bit d.cal.waitMask n = (bit mask n && s.dev.stnOn n))))

/-- With no staging operation waiting for the flash, the store write goes on with each flash operation of its own that
ends well, one at a time: when the erase is done the body is programmed, then BODY_CRC, both are read back and
compared, and only then the commit record is programmed and checked. On a flash that answers, each program that has
ended leaves its own bytes there and no other byte of flash changed. With the commit valid the new generation is in
effect, CAL_COMMITS counts and the ticket completes with OUTCOME 0. An operation that fails, a mismatch, or 60 s
since step 2 without a commit ends the ticket with OUTCOME 3 and 0x0808, with no byte of flash and no value in
effect changed. With no operation of the store running the command does nothing. -/
def Obligations.TheStoreIsWrittenInItsOrder : Prop :=
  ∀ (s : State) (t : Nat),
    let e := s.dev.enter t 7
    let c := s.dev.cal
    let b := s.dev.boot
    let cs := s.dev.calCs
    let o := calOff c.target
    let crc := leBytes 4 (crc32c c.body).toNat
    let i := Instr.calStoreWriteDone t true
    let nothing (x : Xspi) : Boot := { b with xspi := x }
    let runs (op : FlashOp) (d : Dev) : Prop := d.boot.xspi = { run := some (true, op), calOp := none, stageOp := none }
    let wrote (k off : Nat) (xs : List Byte) (d : Dev) : Prop :=
      d.boot = { b.setFlash k (d.boot.flash k) with xspi := d.boot.xspi }
      ∧ Mem.bytes 0xFF (d.boot.flash k) off xs.length = xs
      ∧ ∀ a, a < off ∨ off + xs.length ≤ a → Mem.read 0xFF (d.boot.flash k) a = Mem.read 0xFF (b.flash k) a
    let fails (i : Instr) (x : Xspi) : Prop := ∀ slot mask addr len, c.job = some (slot, mask, addr, len) →
      s.dev.tkt slot ≠ none → s.dev.twin.partnerGen = none → Runs i s fun d =>
        e.Completes slot 3 0x0808 d ∧ d.boot = nothing x
        ∧ d.cal = { c with job := none, reading := false, step := 0, wait := [], adopt := false }
    (∀ good, s.dev.xspiRuns true = none → Runs (.calStoreWriteDone t good) s fun d => d = e)
    ∧ (∀ op, b.xspi = { run := some (true, op), calOp := none, stageOp := none } →
      Mem.wf 0xFF b.flash0 = true → Mem.wf 0xFF b.flash1 = true →
      (c.step = 0 → Runs (.calStoreWriteDone t false) s fun d => d = { e with boot := nothing {} })
      ∧ (c.step ≠ 0 → fails (.calStoreWriteDone t false) {})
      ∧ (c.step = 2 → (∃ k off n, op = .erase k off n) → Runs i s fun d =>
        d = { e with
          cal := { c with step := 3 }, boot := nothing d.boot.xspi
          host := e.host.emit (.flashWrite cs (o + 0x1000) c.body) }
        ∧ runs (.write cs (o + 0x1000) c.body) d)
      ∧ (∀ k off xs, op = .write k off xs → b.answers.getLsbD k = true →
        (c.step = 3 → Runs i s fun d =>
          d = { e with
            cal := { c with step := 4 }, boot := d.boot, host := e.host.emit (.flashWrite cs (o + 0x40) crc) }
          ∧ runs (.write cs (o + 0x40) crc) d ∧ wrote k off xs d)
        ∧ (c.step = 4 → Runs i s fun d =>
          d = { e with cal := { c with step := 5 }, boot := d.boot, host := d.host }
          ∧ runs (.read cs (o + 0x1000) c.body.length) d ∧ wrote k off xs d)
        ∧ (c.step = 6 → Runs i s fun d =>
          d = { e with cal := { c with step := 7 }, boot := d.boot, host := d.host }
          ∧ runs (.read cs o 32) d ∧ wrote k off xs d))
      ∧ (∀ k off n, op = .read k off n →
        (c.step = 5 →
          let same : Prop := b.flashBytes cs (o + 0x1000) c.body.length = c.body ∧ b.flashBytes cs (o + 0x40) 4 = crc
          (same → Runs i s fun d =>
            d = { e with
              cal := { c with step := 6, commit := d.cal.commit }, boot := nothing d.boot.xspi
              host := e.host.emit (.flashWrite cs o d.cal.commit) }
            ∧ d.cal.commit.length = 32 ∧ runs (.write cs o d.cal.commit) d)
          ∧ (¬ same → fails i {}))
        ∧ (c.step = 7 →
          ((s.dev.calSlot c.target).map (·.1) ≠ some c.newGen → fails i {})
          ∧ ((s.dev.calSlot c.target).map (·.1) = some c.newGen → ∀ slot mask addr len,
            c.job = some (slot, mask, addr, len) → s.dev.tkt slot ≠ none → s.dev.twin.partnerGen = none → Runs i s fun d =>
              e.Completes slot 0 0 d ∧ d.boot = nothing {}
              ∧ d.cal.gen = c.newGen ∧ d.cal.slot = c.target ∧ d.cal.recs = c.recs ∧ d.cal.stored = c.recs ∧ d.cal.step = 0
              ∧ d.ctrAt uNODE .CAL_COMMITS = s.dev.ctrAt uNODE .CAL_COMMITS + 1))))
    ∧ (c.step = 0 ∨ e.clk.now < c.stepAt + 4000000 * 60000 → Runs (.calCommitTimeout t) s fun d => d = e)
    ∧ (c.step ≠ 0 → c.stepAt + 4000000 * 60000 ≤ e.clk.now →
        fails (.calCommitTimeout t) { b.xspi with calOp := none })

/-- A station that is not in use, is not in a brim, still awaits the reports of a page that settles, or has nothing to
audit on a device that is neither engaged nor disengaging, does nothing. Otherwise it completes: every MARKED page
whose audit is due at the station is audited there: its ledger keeps whether it balanced, a page whose ledger does
not carries CONSERVATION, and one whose audits have now run at all of its stations is SETTLED, while any other stays
MARKED. The NOZZLE actions that waited have applied. -/
def Obligations.ABrimAuditsAndSettlesItsPages : Prop :=
  ∀ (s : State) (t : Nat) (n : Fin 8),
    let e := s.dev.enter t 7
    let live := s.dev.eng.st = .engaged ∨ s.dev.eng.st = .disengaging ∨ ∃ p ∈ s.dev.jobs.pages, p.auditDue n = true
    (s.dev.stnOn n = false ∨ s.dev.inBrim n = false ∨ ¬ live ∨ e.auditWaits n = true →
      Runs (.brimAudit t n) s fun d => d = e)
    ∧ (s.dev.stnOn n = true → s.dev.inBrim n = true → live → e.auditWaits n = false →
      (s.dev.jobs.pages.map (·.order)).Nodup → Runs (.brimAudit t n) s fun d =>
        (d.stn.at n).nozActs = []
        ∧ ∀ p ∈ s.dev.jobs.pages, p.auditDue n = true → ∃ q ∈ d.jobs.pages, q.order = p.order
          ∧ (q.stn.at n).audited = true ∧ (q.stn.at n).led.auditOk = s.dev.ledgerOk p n
          ∧ (s.dev.ledgerOk p n = false → bit q.flags fCONSERVATION = true)
          ∧ ((∀ m, m < 8 → bit p.mask m = true → m ≠ n.val → (p.stn.at m).audited = true) → q.state = .settled)
          ∧ ((∃ m, m < 8 ∧ bit p.mask m = true ∧ m ≠ n.val ∧ (p.stn.at m).audited = false) → q.state = .marked))

/-- OVERHOLD_CUTOFF completes. A bank that is not in use does nothing. A grant or a lock that is cut off counts in
OVERHOLDS of its bank and is reported on it, a grant with 0x0D05 and a lock with 0x0D06. A cut-off line builder of a
jet station loses the line of its newest event that step 4 has not reached, where it reads one (R166): a line not
lost before is lost input of its page. The reader of the visor and the lining mirror marks the next block of the
visor that waits to be latched INCOMPLETE; where none waits, at an active twin, the mirror's next entry; and nothing
else changes. Which of the two it marks is the model's choice (log entry 74). -/
def Obligations.TheArbiterCutsOff : Prop :=
  ∀ (s : State) (t : Nat) (k : Fin 32) (r : Fin 16) (lock : Bool),
    let e := s.dev.enter t 7
    let u := uid cBANK k
    let code := if lock then 0x0D06 else 0x0D05
    (s.dev.has .bank k = false → Runs (.overholdCutoff t k r lock) s fun d => d = e)
    ∧ (s.dev.has .bank k = true →
      (Runs (.overholdCutoff t k r lock) s fun d => d.ctrAt u .OVERHOLDS = s.dev.ctrAt u .OVERHOLDS + 1)
      ∧ (r.val ≤ 10 → Runs (.overholdCutoff t k r lock) s fun d => e.Heard u code none d)
      ∧ (r.val = 10 →
        let mirror : Prop := s.dev.fab.visors.any (fun v => !v.latched) = false ∧ s.dev.isTwin = true
          ∧ s.dev.twin.role = .active
        (¬ mirror → Runs (.overholdCutoff t k r lock) s fun d =>
          Dev.Reports { e with fab := { e.fab with visorCut := true }, ctr := d.ctr } u code none d)
        ∧ (mirror → Runs (.overholdCutoff t k r lock) s fun d =>
          Dev.Reports { e with twin := { e.twin with mirrorCut := true }, ctr := d.ctr } u code none d))
      ∧ (r.val < 8 → s.dev.isJet r = true → (s.dev.jobs.pages.map (·.order)).Nodup → ∀ b p,
        (s.dev.stn.at r).builds.reverse.find? (fun b => !b.step4) = some b → s.dev.page? b.ord = some p →
        p.test = false → s.dev.lMin r ≤ b.k → b.k - s.dev.lMin r < p.lines →
        p.blankLine r (b.k - s.dev.lMin r) = false →
        let y := b.k - s.dev.lMin r
        y ∉ (p.stn.at r).lost → Runs (.overholdCutoff t k r lock) s fun d => ∃ q ∈ d.jobs.pages, q.order = p.order
          ∧ (q.stn.at r).lost = y :: (p.stn.at r).lost ∧ bit q.flags fLOST_INPUT = true
          ∧ (q.stn.at r).led.nLostLines = (p.stn.at r).led.nLostLines + 1))

/-- Once the lattice has come within BUILD_AHEAD lines of the next event of the oldest page with a leading edge and
events left, a jet station builds it: it joins the events in build, every lane of the station counts one event, and
a line of the page whose presence test comes now and which is not present is lost. The words that the command names
as flawed are noted in any case. Step 4 runs for the oldest event with lanes whose time has come and that it has not
reached, on those lanes alone; there an OUT nozzle then fires level 0. While the station does not coast and the
event that comes next needs no build yet, the oldest event is issued when no lane has to wait for it, each lane from
1 us before its own latest instant on: it leaves the events in build, every lane takes one number whether or not it
sends, and the event is one line fired or one blanked of its page, done at the station with the last. While it is
due on no lane nothing happens; events of pages that mark no longer are dropped. -/
def Obligations.FireEventsAreBuiltLimitedAndIssued : Prop :=
  ∀ (s : State) (t : Nat) (n : Fin 8) (ecc : List EccFlaw),
    let e := s.dev.enter t 7
    let bs := (s.dev.stn.at n).builds
    let marks (b : Build) : Prop := ∃ p ∈ s.dev.jobs.pages, p.order = b.ord ∧ (p.state = .armed ∨ p.state = .marking)
    let open_ (b : Build) : Prop := ∃ l ∈ s.dev.lanesOf n, (b.lanes.at l).ended = false
    (s.dev.isJet n = false ∨ s.dev.toBuild n = none →
      Runs (.fireEventBuildStart t ⟨n, ecc⟩) s fun d => d = e.noteFlaws ecc)
    ∧ (∀ p, s.dev.toBuild n = some p → e.buildDue n p = false →
      Runs (.fireEventBuildStart t ⟨n, ecc⟩) s fun d => d = e.noteFlaws ecc)
    ∧ ((s.dev.jobs.pages.map (·.order)).Nodup →
      (∀ p, s.dev.isJet n = true → s.dev.toBuild n = some p → e.buildDue n p = true →
        Runs (.fireEventBuildStart t ⟨n, ecc⟩) s fun d =>
        let k := (p.stn.at n).built
        let y := k - s.dev.lMin n
        (∃ b, (d.stn.at n).builds = bs ++ [b] ∧ b.ord = p.order ∧ b.k = k ∧ b.step4 = false ∧ b.cut = false)
        ∧ (∀ m, m ≠ n.val → d.stn.at m = s.dev.stn.at m)
        ∧ (∀ l ∈ s.dev.lanesOf n,
          d.ctrAt (uid cLANE l) .EVENTS = s.dev.ctrAt (uid cLANE l) .EVENTS + 1
          ∧ (d.lane.at l).events = (s.dev.lane.at l).events + 1)
        ∧ ∃ q ∈ d.jobs.pages, q.order = p.order ∧ (q.stn.at n).built = k + 1
          ∧ (s.dev.lMin n ≤ k → y < p.lines → y ∉ (p.stn.at n).lost → (p.stn.at n).tested y = false → s.dev.linePresent p n y = false →
            (q.stn.at n).lost = y :: (p.stn.at n).lost ∧ bit q.flags fLOST_INPUT = true))
      ∧ (∀ b, bs.find? (fun b => e.step4Lanes n b != []) = some b → b.k ≠ 0 →
        (∀ x ∈ bs, x.ord = b.ord → x.k = b.k → x = b) → Runs (.fireEventStep4 t n) s fun d =>
          (d.stn.at n).builds.map (fun x => (x.ord, x.k)) = bs.map (fun x => (x.ord, x.k))
          ∧ ∀ x ∈ (d.stn.at n).builds, x.ord = b.ord → x.k = b.k →
            x.step4 = true
            ∧ (∀ l ∈ e.step4Lanes n b, (x.lanes.at l).step4 = true
              ∧ ∀ m, m < s.dev.nozzles l → s.dev.nozOut l m b.ord b.k = true → (x.lanes.at l).lv.getD m 0 = 0)
            ∧ ∀ l ∈ s.dev.lanesOf n, l ∉ e.step4Lanes n b → (x.lanes.at l).step4 = (b.lanes.at l).step4)
      ∧ (∀ b r p, bs = b :: r → s.dev.page? b.ord = some p →
        s.dev.isJet n = true → (∀ x ∈ bs, marks x) → e.unbuilt n = none → (∀ x ∈ r, open_ x) →
        (∀ x ∈ r, x.ord = b.ord → x.k ≠ b.k) → (∀ l ∈ s.dev.lanesOf n, (b.lanes.at l).ended = false) →
        b.coast = .undecided → (s.dev.stn.at n).coasting = false → (p.stn.at n).cut = false →
        (∀ l ∈ s.dev.lanesOf n, e.fate p { b with coast := .none } l ≠ .wait) →
        Runs (.fireFrameIssue t n) s fun d =>
          (d.stn.at n).builds.map (fun x => (x.ord, x.k)) = r.map (fun x => (x.ord, x.k))
          ∧ (∀ m, m ≠ n.val → d.stn.at m = s.dev.stn.at m)
          ∧ (∀ l ∈ s.dev.lanesOf n, (d.lane.at l).seq = nextSeq (s.dev.lane.at l).seq)
          ∧ ∃ q ∈ d.jobs.pages, q.order = p.order ∧ (q.stn.at n).done = b.k + 1
            ∧ (q.stn.at n).fired + (q.stn.at n).blanked = (p.stn.at n).fired + (p.stn.at n).blanked + 1
            ∧ (s.dev.eventsOf n p ≤ b.k + 1 → (q.stn.at n).marked = true)))
    ∧ (s.dev.isJet n = true → e.unbuilt n = none → (∀ x ∈ bs, marks x ∧ open_ x) →
        (∀ l ∈ s.dev.lanesOf n, ∀ x p, bs.find? (fun b => !(b.lanes.at l).ended) = some x → s.dev.page? x.ord = some p →
          e.dueAt l p x.k = none) → Runs (.fireFrameIssue t n) s fun d => d = e.updStn n fun x => x)
    ∧ (s.dev.isJet n = true → e.unbuilt n = none → (∀ x ∈ bs, ¬ marks x) →
        Runs (.fireFrameIssue t n) s fun d => d = e.updStn n fun x => { x with builds := [] })
    ∧ (s.dev.isJet n = false → Runs (.fireFrameIssue t n) s fun d => d = e)
    ∧ ((∀ b ∈ bs, e.step4Lanes n b = []) → Runs (.fireEventStep4 t n) s fun d => d = e)

/-- A station whose brim has no spit work, that is not in a brim or no jet station, or whose device is not engaged,
issues no spit line. Where every lane stands at the same line of the brim: a line that the next page leaves no room
for ends the spitting of the brim, and what it cuts of a pattern of the device's own that runs alone is counted; a
line that is due on no lane stays; one that is due on every lane, each of which can send, is issued: every lane
takes one number and the next line of the brim follows; the last line of the last repetition of a SPIT ticket that
no other station still runs completes it with OUTCOME 0. Idle spitting starts in a brim once no edge has come for
IDLE_SPIT_MS, not 0, nor the pattern begun, and goes on line by line, each from its window on, until the pattern is
spent; at rest the period in the frame is a free value (log entry 11), and that its first line fires one lead time
after the start is the model's choice (log entry 28). -/
def Obligations.BrimsAreSpatByDistanceAndByTime : Prop :=
  ∀ (s : State) (t : Nat) (n : Fin 8),
    let e := s.dev.enter t 7
    let x := (s.dev.stn.at n).spit
    let i := x.brimLine
    let lanes := s.dev.lanesOf n
    let target (l : Nat) : Int := s.dev.spitTarget n l i
    let others (d : Dev) : Prop := ∀ m, m ≠ n.val → d.stn.at m = s.dev.stn.at m
    (x.queue = [] ∨ s.dev.inBrim n = false ∨ s.dev.isJet n = false ∨ s.dev.eng.st ≠ .engaged →
      Runs (.spitLineIssue t n) s fun d => d = e)
    ∧ (∀ pat slot check r, x.queue = (pat, slot, check) :: r → s.dev.inBrim n = true → s.dev.isJet n = true →
      s.dev.eng.st = .engaged → x.stop = none → lanes ≠ [] → (∀ l ∈ lanes, x.sent.at l ≤ i) →
      x.line < s.dev.spitLines n (pat, slot, check) →
      let rows := bits (s.dev.spitWord n pat) 63 52
      ((∀ l ∈ lanes, s.dev.spitCut n l (target l) = true) → Runs (.spitLineIssue t n) s fun d =>
        d.stn.at n = { s.dev.stn.at n with spit := { x with queue := [], stop := some i } } ∧ others d
        ∧ d.lane = s.dev.lane
        ∧ (slot = none → r = [] → d.ctrAt (uid cSTN n) .SPIT_TRUNCATED =
            s.dev.ctrAt (uid cSTN n) .SPIT_TRUNCATED + BitVec.ofNat 64 (rows - x.line)))
      ∧ ((∀ l ∈ lanes, s.dev.spitCut n l (target l) = false) →
        ((∀ l ∈ lanes, ∀ a, e.predict n (target l) = some a → (e.qns + e.leadLane l + 4000 : Int) < a) →
          Runs (.spitLineIssue t n) s fun d => d = e)
        ∧ ((∀ l ∈ lanes, ∃ a, e.predict n (target l) = some a ∧ a ≤ (e.qns + e.leadLane l + 4000 : Int)) →
            (∀ l ∈ lanes, e.canSend l (5 + ceilDiv (3 * s.dev.nozzles l) 64) = true) →
          (Runs (.spitLineIssue t n) s fun d =>
            (d.stn.at n).spit.brimLine = i + 1 ∧ others d
            ∧ (∀ l ∈ lanes, (d.lane.at l).seq = nextSeq (s.dev.lane.at l).seq)
            ∧ (x.line + 1 < rows → (d.stn.at n).spit.line = x.line + 1 ∧ (d.stn.at n).spit.queue = x.queue)
            ∧ (rows ≤ x.line + 1 → (d.stn.at n).spit.line = 0))
          ∧ (∀ k left, rows ≤ x.line + 1 → slot = some k →
            (s.dev.stn.at n).spitTickets.find? (fun q => q.1 == k) = some (k, left) → left.2 ≤ 1 →
            (∀ m, m < 8 → m ≠ n.val → ∀ q ∈ (s.dev.stn.at m).spitTickets, q.1 ≠ k) → s.dev.tkt k ≠ none →
            Runs (.spitLineIssue t n) s fun d =>
              e.Completes k 0 0 d ∧ (d.stn.at n).spit.queue = r ∧ ∀ q ∈ (d.stn.at n).spitTickets, q.1 ≠ k))))
    ∧ (s.dev.isJet n = false ∨ s.dev.cfgN .stnJet n .IDLE_SPIT_MS = 0 ∨ s.dev.inBrim n = false
        ∨ s.dev.eng.st ≠ .engaged ∨ e.idleDue n = false → Runs (.idleSpitStart t n) s fun d => d = e)
    ∧ (s.dev.isJet n = true → s.dev.cfgN .stnJet n .IDLE_SPIT_MS ≠ 0 → s.dev.inBrim n = true → s.dev.eng.st = .engaged →
      e.idleDue n = true → Runs (.idleSpitStart t n) s fun d =>
        d.stn.at n = { s.dev.stn.at n with spit := { x with idle := some (e.qns + e.leadQ n, 0) } }
        ∧ others d ∧ d.lane = s.dev.lane)
    ∧ (x.idle = none → Runs (.idleSpitLine t n) s fun d => d = e)
    ∧ ∀ start j, x.idle = some (start, j) →
      let rows := bits (s.dev.spitWord n (s.dev.cfgN .stnJet n .SPIT_AUTO_IDX)) 63 52
      let due : Prop := start + 4000 * s.dev.cfgN .stnJet n .IDLE_SPIT_PERIOD_US * j ≤ e.qns + e.leadQ n + 4000
      (s.dev.inBrim n = false ∨ rows ≤ j ∨ ¬ due → Runs (.idleSpitLine t n) s fun d => d = e)
      ∧ (s.dev.inBrim n = true → j < rows → due → Runs (.idleSpitLine t n) s fun d =>
        d.stn.at n = { s.dev.stn.at n with spit := { x with idle := some (start, j + 1) } } ∧ others d
        ∧ (∀ l ∈ lanes, (d.lane.at l).seq = nextSeq (s.dev.lane.at l).seq)
        ∧ d.free = s.dev.free + if (e.speed n).1 ≤ 0 then 1 else 0)

/-- An EXCEPT frame on a lane that is not UP or has sent no HELLO does nothing, and one without 1 to 64 entries is
discarded with 0x0611. One that repeats a number, or has none, does nothing. Any other counts MORE in EXC_OVERFLOW
and changes no other lane. A report on a frame the device does not know counts every entry in EXC_INVALID and
changes no nozzle. A report of one drop that was fired: a weak or missing drop, or an overfill where those count,
makes an IN nozzle SUSPECT and a SUSPECT one OUT with its OUT_Kth exception, a missing drop under MISSING_OUT makes
it OUT at once, an OUT nozzle stays OUT, and no sense changes no state; while the whole lane is OUT no nozzle
changes its state; nor does any other nozzle of the lane. A SUSPECT nozzle of a lane that is not wholly OUT whose
window closes returns to IN with 0x0705, and RETURNS counts; before, nothing changes. -/
def Obligations.ExceptionsMoveNozzles : Prop :=
  ∀ (s : State) (t : Nat) (l : Fin 256) (f : ExceptFrame) (m : BitVec 12),
    let e := s.dev.enter t 7
    let u := uid cLANE l
    let x := s.dev.lane.at l
    let up : Prop := x.up = true ∧ x.hello.isSome = true
    let live : Prop := up ∧ x.upNew f.seq.toNat = true
    let known := x.frames.find? (fun y => y.fires && y.seq == f.refSeq.toNat)
    (¬ up → Runs (.except t l f) s fun d => d = e)
    ∧ (up → 1 ≤ f.entries.length → f.entries.length ≤ 64 → x.upNew f.seq.toNat = false → Runs (.except t l f) s fun d => d = e)
    ∧ (up → f.entries.length = 0 ∨ 64 < f.entries.length → Runs (.except t l f) s fun d =>
        d.lane = s.dev.lane ∧ e.Heard u 0x0611 none d ∧ d.ctrAt u .RX_DISCARDS = s.dev.ctrAt u .RX_DISCARDS + 1)
    ∧ (live → 1 ≤ f.entries.length → f.entries.length ≤ 64 → known = none → Runs (.except t l f) s fun d =>
        (d.lane.at l).noz = x.noz
        ∧ d.ctrAt u .EXC_INVALID = s.dev.ctrAt u .EXC_INVALID + BitVec.ofNat 64 f.entries.length)
    ∧ (live → 1 ≤ f.entries.length → f.entries.length ≤ 64 → Runs (.except t l f) s fun d =>
        (∀ k, k ≠ l.val → d.lane.at k = s.dev.lane.at k)
        ∧ d.ctrAt u .EXC_OVERFLOW = s.dev.ctrAt u .EXC_OVERFLOW + if f.more then 1 else 0)
    ∧ (∀ r q, live → f.more = false → f.entries = [r] → known = some q → q.levels.getD r.nozzle.toNat 0 ≠ 0 →
        r.nozzle.toNat < s.dev.nozzles l →
        let z := s.dev.noz l r.nozzle.toNat
        let health (g : F) : Nat := s.dev.cfgN .health (l / 32) g
        let exc := (if z.st = 1 then z.exc else 0) + 1
        let counts : Prop := s.dev.laneAllOut l = false ∧ (r.cls.toNat ≤ 1 ∨ r.cls.toNat = 2 ∧ s.dev.cfgB .health (l / 32) .OVERFILL_COUNTS = true)
        z.st ≠ 1 ∨ x.events < z.win + health .WINDOW_EVENTS → Runs (.except t l f) s fun d =>
          (¬ counts → (d.noz l r.nozzle.toNat).st = z.st)
          ∧ (counts → (d.noz l r.nozzle.toNat).st =
              if z.st = 2 ∨ (r.cls.toNat = 1 ∧ s.dev.cfgB .health (l / 32) .MISSING_OUT = true) ∨ health .OUT_K ≤ exc then 2
              else if z.st = 0 then 1 else z.st)
          ∧ (z.st ≤ 1 → (d.noz l r.nozzle.toNat).st = 1 → counts → (d.noz l r.nozzle.toNat).exc = exc)
          ∧ (∀ i, i ≠ r.nozzle.toNat → (d.noz l i).st = (s.dev.noz l i).st)
          ∧ (∀ k, k ≠ l.val → d.lane.at k = s.dev.lane.at k))
    ∧ (let z := s.dev.noz l m.toNat
      let due : Prop := z.st = 1 ∧ s.dev.laneAllOut l = false ∧ z.win + s.dev.cfgN .health (l / 32) .WINDOW_EVENTS ≤ x.events
      (¬ due → Runs (.suspectWindowClose t l m) s fun d => d = e)
      ∧ (due → Runs (.suspectWindowClose t l m) s fun d =>
        (d.noz l m.toNat).st = 0 ∧ (d.noz l m.toNat).exc = 0
        ∧ (∀ i, i ≠ m.toNat → d.noz l i = s.dev.noz l i) ∧ (∀ k, k ≠ l.val → d.lane.at k = s.dev.lane.at k)
        ∧ e.Heard u 0x0705 none d ∧ d.ctrAt u .RETURNS = s.dev.ctrAt u .RETURNS + 1))

/-- A frame of a lane that is not UP does nothing. A HELLO with a reserved value is discarded with 0x0611; any other is
kept, and SENT and RETURNED start at 0. A TELEM or MISMATCH with a number that has come before, or with none, does
nothing. An ACK returns its credits modulo 2^32 and gives ARM_LAST; more returned than sent is a conservation fault:
FAULT with 0x0609, and the lane trains anew. A TELEM with a reserved alarm is discarded; any other is kept, with its
two counters. A MISMATCH counts with 0x060E. A frame whose blocks or CRC are wrong is discarded with 0x0607, a
malformed one with 0x0611; a stray block is counted, and a sound frame is not this command's. Once TIME_PERIOD_US
has passed since the latest, a TIME exchange of a lane that carries frames takes the next number, 1 after
0xFFFF_FFFF; one without an answer for 10 us is forgotten with 0x060D; before that nothing changes. No other lane
changes. Each of the commands completes. -/
def Obligations.ExecutorsReport : Prop :=
  ∀ (s : State) (t : Nat) (l : Fin 256) (h : HelloFrame) (a : AckFrame) (w : TelemFrame) (m : MismatchFrame)
    (k : RxBlocks) (f : RawFrame),
    let e := s.dev.enter t 7
    let u := uid cLANE l
    let x := s.dev.lane.at l
    let others (d : Dev) : Prop := ∀ i, i ≠ l.val → d.lane.at i = s.dev.lane.at i
    let discards (i : Instr) (code : Nat) : Prop := Runs i s fun d =>
      Dev.Reports { e with ctr := d.ctr } u code none d ∧ d.ctrAt u .RX_DISCARDS = s.dev.ctrAt u .RX_DISCARDS + 1
    (x.up = false →
      ∀ i ∈ [Instr.hello t l h, .ack t l a, .telem t l w, .mismatch t l m, .rxFrameDiscard t l k], Runs i s fun d => d = e)
    ∧ (x.up = true →
      let bad : Prop := 8 ≤ h.features.toNat ∨ 2 ≤ h.kind.toNat
      (bad → discards (.hello t l h) 0x0611)
      ∧ (¬ bad → s.dev.eng.st ≠ .engaged → s.dev.eng.st ≠ .disengaging → Runs (.hello t l h) s fun d =>
        others d ∧ (d.lane.at l).hello = some h ∧ (d.lane.at l).sent = 0 ∧ (d.lane.at l).returned = 0
        ∧ d = { e with lane := d.lane })
      ∧ (x.hello.isSome = true →
        let back := x.returned + (a.creditsRet.toNat + 2 ^ 32 - x.returned % 2 ^ 32) % 2 ^ 32
        (x.sent < back → Runs (.ack t l a) s fun d =>
          others d ∧ (s.dev.isTwin = false → e.Heard u 0x0609 (some .fault) d) ∧ (d.lane.at l).up = false ∧ (d.lane.at l).training = true
          ∧ (d.lane.at l).hello = none ∧ Out.train l 0 x.low ∈ d.host.out)
        ∧ (back ≤ x.sent → Runs (.ack t l a) s fun d =>
          others d ∧ (d.lane.at l).returned = back ∧ (d.lane.at l).armLast = a.armLast.toNat
          ∧ d.ctrAt u .BLOCKS_RET = s.dev.ctrAt u .BLOCKS_RET + BitVec.ofNat 64 (back - x.returned)))
      ∧ (x.hello = none → Runs (.ack t l a) s fun d => d = e)
      ∧ (64 ≤ w.alarms.toNat → discards (.telem t l w) 0x0611)
      ∧ (w.alarms.toNat < 64 → x.upNew w.seq.toNat = false → Runs (.telem t l w) s fun d => d = e)
      ∧ (w.alarms.toNat < 64 → x.upNew w.seq.toNat = true → Runs (.telem t l w) s fun d =>
        others d ∧ (d.lane.at l).late = w.lateFrames.toNat ∧ (d.lane.at l).alarms = w.alarms.toNat
        ∧ (d.lane.at l).headTemp = w.headTemp ∧ (d.lane.at l).telemAt = some e.qns
        ∧ d.ctrAt u .EXEC_LATE = BitVec.ofNat 64 w.lateFrames.toNat)
      ∧ (x.upNew m.seq.toNat = false → Runs (.mismatch t l m) s fun d => d = e)
      ∧ (x.upNew m.seq.toNat = true → Runs (.mismatch t l m) s fun d => others d ∧ d.ctrAt u .MISMATCHES = s.dev.ctrAt u .MISMATCHES + 1)
      ∧ (upFault f = some .crc → discards (.rxFrameDiscard t l (.frame f)) 0x0607)
      ∧ (upFault f = some .malformed → discards (.rxFrameDiscard t l (.frame f)) 0x0611)
      ∧ (upFault f = none → Runs (.rxFrameDiscard t l (.frame f)) s fun d => d = e)
      ∧ Runs (.rxFrameDiscard t l .stray) s fun d => d = e.bump u .RX_DISCARDS 1)
    ∧ (s.dev.laneOpen l = false ∨ e.exchangeDue l = false → Runs (.timeExchange t l) s fun d => d = e)
    ∧ (s.dev.laneOpen l = true → e.exchangeDue l = true → Runs (.timeExchange t l) s fun d =>
      others d ∧ (d.lane.at l).timeId = nextSeq x.timeId ∧ (d.lane.at l).timeAt = some e.clk.now
      ∧ (x.queue = [] → 5 ≤ x.avail → (d.lane.at l).exch = some (x.timeId, e.qns) ∧ (d.lane.at l).sent = x.sent + 5))
    ∧ (x.exch = none → Runs (.timeNoEcho t l) s fun d => d = e)
    ∧ (∀ i t1, x.exch = some (i, t1) → e.qns < t1 + 40000 → Runs (.timeNoEcho t l) s fun d => d = e)
    ∧ (∀ i t1, x.exch = some (i, t1) → t1 + 40000 ≤ e.qns → Runs (.timeNoEcho t l) s fun d =>
      Dev.Reports { e with lane := e.lane.upd l fun y => { y with exch := none } } u 0x060D none d)

/-- A lane that is not in training does nothing at block lock, training done or a failed attempt. At block lock it sends
STAGE 1. A lane in block lock whose training is done, with no lane of its quad UP at the other rate, sends STAGE 2
and is UP; without block lock it stays. One at 6.25 Gb/s beside a lane UP at 3.125 Gb/s trains anew at 3.125 Gb/s;
one that comes UP only at 3.125 Gb/s beside a lane UP at 6.25 Gb/s in a session waits for a brim. An attempt fails
after 2 ms: three at 6.25 Gb/s are followed by three at 3.125 Gb/s where FALLBACK_EN lets them, each from STAGE 0
on, then the lane is in FAULT with 0x0602 and training ends. A lane that leaves block lock goes DOWN with 0x0604: it
trains anew at its rate, its HELLO and exchange are forgotten, what was outstanding is written off, its counts stay
until the next HELLO, and it is HOLD; one in training sends STAGE 0 again. No other lane changes. -/
def Obligations.LanesTrainAndGoDown : Prop :=
  ∀ (s : State) (t : Nat) (l : Fin 256),
    let e := s.dev.enter t 7
    let u := uid cLANE l
    let x := s.dev.lane.at l
    let others (d : Dev) : Prop := ∀ i, i ≠ l.val → d.lane.at i = s.dev.lane.at i
    let session : Prop := s.dev.eng.st = .engaged ∨ s.dev.eng.st = .disengaging
    let sends (d : Dev) (stage : Nat) (low : Bool) : Prop := d = { e with lane := d.lane, host := e.host.emit (.train l stage low) }
    let due : Prop := x.trainAt + 8000000 ≤ e.clk.now
    let retries (low : Bool) (y : Lane) : Prop := Runs (.trainAttemptTimeout t l) s fun d =>
      others d ∧ sends d 0 low ∧ d.lane.at l = { y with trainAt := e.clk.now, lock := false, stage := 0 }
    let gives : Prop := Runs (.trainAttemptTimeout t l) s fun d =>
      Dev.Reports { e with lane := e.lane.upd l fun y => { y with training := false } } u 0x0602 (some .fault) d
    let mates := s.dev.quadMates l
    (s.dev.has .lane l = false ∨ x.training = false →
      ∀ i ∈ [Instr.blockLock t l, .laneUp t l, .trainAttemptTimeout t l], Runs i s fun d => d = e)
    ∧ (s.dev.has .lane l = true → x.training = true →
      (x.lock = true → Runs (.blockLock t l) s fun d => d = e)
      ∧ (x.lock = false → Runs (.blockLock t l) s fun d =>
        others d ∧ sends d 1 x.low ∧ d.lane.at l = { x with lock := true, stage := 1 })
      ∧ (x.lock = false → Runs (.laneUp t l) s fun d => d = e)
      ∧ (x.lock = true → (∀ k ∈ mates, (s.dev.lane.at k).up = true → (s.dev.lane.at k).low = x.low) →
        Runs (.laneUp t l) s fun d =>
          others d ∧ Out.train l 2 x.low ∈ d.host.out
          ∧ d.lane.at l = { x with up := true, lock := true, stage := 2, training := false, fails := 0, failsLow := 0 })
      ∧ (x.lock = true → x.low = false → (∃ k ∈ mates, (s.dev.lane.at k).up = true ∧ (s.dev.lane.at k).low = true) →
        Runs (.laneUp t l) s fun d =>
          others d ∧ Out.train l 0 true ∈ d.host.out ∧ (d.lane.at l).up = false ∧ (d.lane.at l).training = true
          ∧ (d.lane.at l).low = true ∧ (d.lane.at l).lock = false)
      ∧ (x.lock = true → x.low = true → session → s.dev.inBrim (l / 32) = false →
        (∃ k ∈ mates, (s.dev.lane.at k).up = true ∧ (s.dev.lane.at k).low = false) →
        Runs (.laneUp t l) s fun d =>
          others d ∧ d = { e with lane := d.lane } ∧ d.lane.at l = { x with lowOnly := true, training := false })
      ∧ (¬ due → Runs (.trainAttemptTimeout t l) s fun d => d = e)
      ∧ (due →
        (x.low = true → 2 ≤ x.failsLow → gives)
        ∧ (x.low = true → x.failsLow < 2 → retries true { x with failsLow := x.failsLow + 1 })
        ∧ (x.low = false → x.fails < 2 → retries false { x with fails := x.fails + 1 })
        ∧ (x.low = false → 2 ≤ x.fails → s.dev.cfgB .lane l .FALLBACK_EN = true →
          Runs (.trainAttemptTimeout t l) s fun d =>
            others d ∧ sends d 0 true
            ∧ (d.lane.at l).low = true ∧ (d.lane.at l).lock = false ∧ (d.lane.at l).training = true
            ∧ (d.lane.at l).failsLow = x.failsLow ∧ (d.lane.at l).trainAt = e.clk.now)
        ∧ (x.low = false → 2 ≤ x.fails → s.dev.cfgB .lane l .FALLBACK_EN = false → gives)))
    ∧ (x.up = false → x.training = false ∨ x.lock = false → Runs (.linkDown t l) s fun d => d = e)
    ∧ (x.up = false → x.training = true → x.lock = true → Runs (.linkDown t l) s fun d =>
      others d ∧ sends d 0 x.low ∧ d.lane.at l = { x with lock := false, stage := 0 })
    ∧ (x.up = true → Runs (.linkDown t l) s fun d =>
      others d ∧ Out.train l 0 x.low ∈ d.host.out
      ∧ (d.lane.at l).up = false ∧ (d.lane.at l).training = true ∧ (d.lane.at l).hello = none ∧ (d.lane.at l).sent = x.sent
      ∧ (d.lane.at l).returned = x.returned ∧ (d.lane.at l).exch = none ∧ (d.lane.at l).locked = false
      ∧ (session → (d.lane.at l).outOfUse = true)
      ∧ d.ctrAt u .LINK_DOWNS = s.dev.ctrAt u .LINK_DOWNS + 1
      ∧ d.ctrAt u .WRITTEN_OFF = s.dev.ctrAt u .WRITTEN_OFF + BitVec.ofNat 64 (x.sent - x.returned)
      ∧ (s.dev.isTwin = false →
        e.Heard u 0x0604 (if s.dev.ust u = .fault ∨ s.dev.ust u = .fenced then none else some .hold) d))

/-- An SOS edge of the configured polarity and width, at a scan station in use whose unit runs, is accepted in its
window: its stamp is t_j, the interval of the facet before is measured after no miss, the misses end, the place PLL
has its reference, and the next sweep is built; outside the window it is counted with 0x0509 and nothing else
changes; any other pulse does nothing. Words that a command names as flawed are noted in any case. A window that has
closed without an SOS synthesises one at the prediction: the facet steps on, the miss counts, and with the sixteenth
in a row while a page is in MARKING the station sends no START and stops at its brim. An EOS in its window moves rho
of its facet by the filter, held inside EOS_TRIM_MAX; where the window has closed without one rho stays, with
0x050A. At their issue, while the medium moves forward, the data of a beam of the sweep with pixels are sent where
they can be complete in the executor by the predicted SOS and the lane can send them; what is not sent by the
predicted SOS is late; on a medium that does not move forward nothing happens. That a pulse that is no edge is not
counted is the model's choice (log entry 79). -/
def Obligations.SweepsStartAtTheirSos : Prop :=
  ∀ (s : State) (t : Nat) (n : Fin 8) (rising : Bool) (widthNs : Nat) (ecc : List EccFlaw),
    let c := s.dev.scan n
    let on : Prop := s.dev.isScan n = true ∧ s.dev.binding n = true
    let others (d : Dev) : Prop := ∀ m, m ≠ n.val → d.stn.at m = s.dev.stn.at m
    let stnCtr (d : Dev) (k : Ctr) : DWord := d.ctrAt (uid cSTN n) k - s.dev.ctrAt (uid cSTN n) k
    (let e := s.dev.enter t 6
      let u := uid cSOS (2 * n)
      let at_ := e.sosStamp (2 * n)
      let no := e.notEdge (2 * n) rising widthNs
      (¬ on ∨ s.dev.ust u ≠ .run ∨ no = true → Runs (.sosEdge t ⟨n, rising, widthNs, ecc⟩) s fun d => d = e.noteFlaws ecc)
      ∧ (on → s.dev.ust u = .run → no = false → e.sosInWindow n at_ = false → Runs (.sosEdge t ⟨n, rising, widthNs, ecc⟩) s fun d =>
        Dev.Reports { e.noteFlaws ecc with ctr := d.ctr } u 0x0509 none d
        ∧ d.ctrAt u .SPURIOUS = s.dev.ctrAt u .SPURIOUS + 1)
      ∧ (on → s.dev.ust u = .run → no = false → e.sosInWindow n at_ = true →
        Runs (.sosEdge t ⟨n, rising, widthNs, ecc⟩) s fun d =>
        let x := d.scan n
        x.tLast = at_ ∧ x.begun = true ∧ x.misses = 0 ∧ x.eosOver = false ∧ x.rate = d.fPix n ∧ x.j = c.j + 1
        ∧ x.interval = (if c.begun = true ∧ c.misses = 0 then c.interval.set c.facet (at_ - c.tLast) else c.interval)
        ∧ x.sweep.isSome = true ∧ others d
        ∧ (d.pll.at (n + 2)).ref = true ∧ (∀ i, i ≠ n + 2 → d.pll.at i = s.dev.pll.at i)
        ∧ d.ctrAt u .EDGES = s.dev.ctrAt u .EDGES + 1 ∧ stnCtr d .SWEEPS = 1))
    ∧ (let e := s.dev.enter t 7
      (¬ on ∨ c.begun = false ∨ e.sosClosed n = false → Runs (.sosWindowTimeout t ⟨n, ecc⟩) s fun d => d = e.noteFlaws ecc)
      ∧ (on → c.begun = true → e.sosClosed n = true → Runs (.sosWindowTimeout t ⟨n, ecc⟩) s fun d =>
        let x := d.scan n
        x.tLast = c.tHat ∧ x.facet = (c.facet + 1) % s.dev.facets n ∧ x.misses = c.misses + 1 ∧ x.j = c.j + 1
        ∧ x.interval = c.interval ∧ others d ∧ stnCtr d .SWEEPS_SYNTH = 1
        ∧ (c.misses ≠ 15 → x.dead = c.dead ∧ d.eng = s.dev.eng
          ∧ d.pll = s.dev.pll.upd (n + 2) (fun p => { p with ref := false }))
        ∧ (c.misses = 15 → s.dev.marking n ≠ none → x.dead = true ∧ d.eng = { s.dev.eng with stopAtBrim := true })))
    ∧ (let e := s.dev.enter t 6
      let u := uid cSOS (2 * n + 1)
      let se := s.dev.cfgN .stnScan n .SE_PIXELS
      let live : Prop := e.notEdge (2 * n + 1) rising widthNs = false ∧ on ∧ se ≠ 0 ∧ s.dev.has .sos (2 * n + 1) = true ∧ c.eosOver = false ∧ c.begun = true ∧ c.rate ≠ 0
      let dt := e.sosStamp (2 * n + 1) - c.tLast
      let nominal : Int := rdiv (1024000000000000 * se) c.rate
      let inside : Prop := absI (dt - nominal) ≤ rdiv (nominal * s.dev.cfg .stnScan n .SOS_WIN) 1024
      let old : Int := (c.rho.getD 16777216 c.facet : Nat)
      let m := rdiv (dt * c.rate * 16777216) (1024000000000000 * se)
      let trim : Int := 1024 * s.dev.cfg .stnScan n .EOS_TRIM_MAX
      let new := clampI (16777216 - trim) (16777216 + trim) (old + shrR (m - old) (s.dev.cfgN .stnScan n .EOS_FILT))
      (¬ live ∨ ¬ inside → Runs (.eosEdge t ⟨n, rising, widthNs⟩) s fun d => d = e)
      ∧ (live → inside → Runs (.eosEdge t ⟨n, rising, widthNs⟩) s fun d =>
        d.scan n = { c with eosOver := true, rho := c.rho.set c.facet new.toNat } ∧ others d
        ∧ d.ctrAt u .EDGES = s.dev.ctrAt u .EDGES + 1))
    ∧ (let e := s.dev.enter t 7
      let u := uid cSOS (2 * n + 1)
      let live : Prop := on ∧ s.dev.cfgN .stnScan n .SE_PIXELS ≠ 0 ∧ c.eosOver = false ∧ e.eosClosed n = true
      (¬ live → Runs (.eosWindowTimeout t n) s fun d => d = e)
      ∧ (live → Runs (.eosWindowTimeout t n) s fun d =>
        Dev.Reports { e.updScan n (fun x => { x with eosOver := true }) with ctr := d.ctr } u 0x050A none d
        ∧ d.ctrAt u .SPURIOUS = s.dev.ctrAt u .SPURIOUS + 1))
    ∧ (let e := s.dev.enter t 7
      (c.sweep = none ∨ e.moves n = false → Runs (.sweepDataIssue t n) s fun d => d = e)
      ∧ ∀ w p, c.sweep = some w →
        (w.ord.bind s.dev.page? = none → Runs (.sweepDataIssue t n) s fun d => d = e)
        ∧ (w.ord.bind s.dev.page? = some p → e.moves n = true → Runs (.sweepDataIssue t n) s fun d =>
          others d ∧ ∃ v, (d.scan n).sweep = some v ∧ v.j = w.j ∧ v.lv = w.lv
          ∧ ∀ b, b < s.dev.beams n → beamSegs (w.lv.getD [] b) ≠ [] →
            let l := 32 * n.val + b
            let blocks := (beamSegs (w.lv.getD [] b)).foldl
              (fun a x => a + (LaneBody.sweepData w.tHat w.tClose w.j p.id w.facet x.1 x.2).wire) 0
            (b ∈ w.sent → b ∈ v.sent)
            ∧ (b ∉ w.late → e.qns + ceilDiv (14100 + blocks * blockCns (s.dev.lane.at l).low) 25 ≤ w.tHat →
              e.canSend l blocks = true → b ∈ v.sent)
            ∧ (w.tHat < e.qns → b ∉ w.sent → e.silentFor p l = false → b ∈ v.late ∧ b ∉ v.sent)))

/-- Once a PWM period of the axis has come in which it is due, an execution of the current loop takes the encoder count
and the bus voltage, and its duties take effect at the next period boundary; on an axis whose gates are off they
stay or are 0, a bus voltage outside its range trips an axis whose gates are on, and every duty the active device
gives, in compare steps, is 0, the whole period or long enough on both sides. Fast filter outputs of which one
current or the sum exceeds OC_LIMIT trip an axis that has not tripped, others do nothing. A trip, by over-current, a
lost SDM unit or ACTION 2, turns every gate off, and OC_TRIPS counts. A following error acts by ACTION once it has
lasted FOLLOW_MS. The count ALIGN_MS after the start of an alignment is electrical zero. A Hall code of a sector is
taken; the third outside them in a row loses the angle. The first Z edge gives count_Z. A blower, once in each 100
us, filters its input and is ON from T_ON to T_OFF. No other axis changes. Each command completes so once its bank
of inputs is up and its time has come; before that nothing changes. -/
def Obligations.AxesTripAndFollowTheirLaws : Prop :=
  ∀ (s : State) (t : Nat) (a : Fin 24) (y : CurrentSample) (su sv : List Bool) (k : Fin 48) (code : BitVec 3) (q : Fin 48)
      (count : Int),
    let e := s.dev.enter t 7
    let u := uid cAXIS a
    let x := s.dev.axis.at a
    let on : Prop := s.dev.has .axis a = true
    let cfg := s.dev.cfg .axis a
    let others (d : Dev) : Prop := ∀ i, i ≠ a.val → d.axis.at i = s.dev.axis.at i
    let tripped (d : Dev) (b : Nat) : Prop :=
      let z := d.axis.at b
      z.on = false ∧ z.safe = true ∧ z.trip = true ∧ z.du = 0 ∧ z.dv = 0 ∧ z.dw = 0
    let fast (i : Nat) (bits_ : List Bool) : Int := s.dev.sdmCurrent i (s.dev.cfgN .sdm i .FAST_OSR) bits_
    let beyond : Prop := ∃ v ∈ [fast (2 * a) su, fast (2 * a + 1) sv, fast (2 * a) su + fast (2 * a + 1) sv],
      10 * cfg .OC_LIMIT < absI v
    (¬ on → ∀ i ∈ [Instr.currentLoop t a y, .axisOvercurrent t ⟨a, su, sv⟩, .followingError t a, .alignDone t a, .hallEdge t a code,
        .curveSample t a], Runs i s fun d => d = e)
    ∧ (on →
      let mv := s.dev.ainScaled (s.dev.cfgN .axis a .VBUS_AIN)
      (s.dev.bankUp .sigmaDelta = false ∨ e.loopPeriodDue a = false → Runs (.currentLoop t a y) s fun d => d = e)
      ∧ (s.dev.bankUp .sigmaDelta = true → e.loopPeriodDue a = true → Runs (.currentLoop t a y) s fun d =>
        let z := d.axis.at a
        let fits (duty : Nat) : Prop := duty = 0 ∨ duty = s.dev.pwmSteps a
          ∨ (32 * s.dev.cfgN .axis a .DEADTIME ≤ duty ∧ 32 * s.dev.cfgN .axis a .DEADTIME ≤ s.dev.lowTime a duty)
        others d ∧ z.vbus = mv ∧ z.period = some (e.pwmPeriod a)
        ∧ (s.dev.isActive = true → z.on = true → z.dutyAt = e.pwmBoundary a ∧ (z.wu, z.wv, z.ww) = e.axisDuties a)
        ∧ z.sdiv = (if s.dev.cfgN .axis a .SPEED_DIV_M1 < x.sdiv + 1 then 0 else x.sdiv + 1)
        ∧ (s.dev.cfgN .axis a .ANGLE_SRC ≠ 1 → s.dev.bankUp .encoders = true →
            (d.enc.at (s.dev.cfgN .axis a .ENC)).count = y.count)
        ∧ (x.on = false → z.on = false ∧ ((z.du, z.dv, z.dw) = (x.du, x.dv, x.dw) ∨ (z.du, z.dv, z.dw) = (0, 0, 0)))
        ∧ (x.on = true → s.dev.isActive = true → fits z.du ∧ fits z.dv ∧ fits z.dw)
        ∧ (x.on = true → x.trip = false → mv < 1000 * cfg .VBUS_MIN_V ∨ 1000 * cfg .VBUS_MAX_V < mv → tripped d a))
      ∧ (s.dev.bankUp .sigmaDelta = false ∨ ¬ beyond ∨ x.trip = true → Runs (.axisOvercurrent t ⟨a, su, sv⟩) s fun d => d = e)
      ∧ (s.dev.bankUp .sigmaDelta = true → beyond → x.trip = false → Runs (.axisOvercurrent t ⟨a, su, sv⟩) s fun d =>
        others d ∧ tripped d a ∧ d.ctrAt u .OC_TRIPS = s.dev.ctrAt u .OC_TRIPS + 1
        ∧ (s.dev.axisInWindow a = false →
          e.Heard u 0x0908 (if s.dev.ust u = .fenced ∨ x.safeAt = some e.ctlCycle then none else some .fault) d))
      ∧ (x.follow = none ∨ x.on = false → Runs (.followingError t a) s fun d => d = e)
      ∧ (∀ since, x.follow = some since → e.clk.now < since + 4000000 * s.dev.cfgN .axis a .FOLLOW_MS →
        Runs (.followingError t a) s fun d => d = e)
      ∧ (∀ since, x.follow = some since → since + 4000000 * s.dev.cfgN .axis a .FOLLOW_MS ≤ e.clk.now → x.on = true →
        Runs (.followingError t a) s fun d =>
        others d ∧ (d.axis.at a).follow = none
        ∧ (s.dev.cfgN .axis a .ACTION = 2 → tripped d a)
        ∧ (s.dev.cfgN .axis a .ACTION = 1 →
          d.axis.at a = { x with follow := none, ramp := true, rampFault := true })
        ∧ (s.dev.cfgN .axis a .ACTION = 0 → d.axis.at a = { x with follow := none }))
      ∧ (x.alignAt = none ∨ x.on = false → Runs (.alignDone t a) s fun d => d = e)
      ∧ (∀ since, x.alignAt = some since → e.clk.now < since + 4000000 * s.dev.cfgN .axis a .ALIGN_MS →
        Runs (.alignDone t a) s fun d => d = e)
      ∧ (∀ since, x.alignAt = some since → since + 4000000 * s.dev.cfgN .axis a .ALIGN_MS ≤ e.clk.now → x.on = true →
        Runs (.alignDone t a) s fun d =>
        Dev.Reports { e with axis := e.axis.set a { x with
          alignAt := none, zero := some (s.dev.enc.at (s.dev.cfgN .axis a .ENC)).count } } u 0x0907 none d)
      ∧ (s.dev.bankUp .encoders = false ∨ s.dev.cfgN .axis a .ANGLE_SRC = 0 → Runs (.hallEdge t a code) s fun d => d = e)
      ∧ (s.dev.bankUp .encoders = true → s.dev.cfgN .axis a .ANGLE_SRC ≠ 0 → Runs (.hallEdge t a code) s fun d =>
        let z := d.axis.at a
        others d
        ∧ (hallSector code ≠ none → z.hall = code ∧ z.hallAt = e.clk.now ∧ z.hallBad = 0 ∧ z.on = x.on)
        ∧ (hallSector code = none → z.hall = x.hall ∧ z.hallBad = x.hallBad + 1
          ∧ d.ctrAt u .HALL_ERRORS = s.dev.ctrAt u .HALL_ERRORS + 1
          ∧ (x.hallBad = 2 → s.dev.cfgN .axis a .ANGLE_SRC = 2 → z.onHall = true)
          ∧ (x.hallBad = 2 → s.dev.cfgN .axis a .ANGLE_SRC ≠ 2 → tripped d a)))
      ∧ (let live : Prop := s.dev.cfgN .axis a .MODE = 4 ∧ s.dev.ust u = .run ∧ x.ramp = false
          ∧ (s.dev.eng.st = .engaged ∨ s.dev.eng.st = .disengaging) ∧ x.sampled ≠ some e.curveSlot
        (¬ live → Runs (.curveSample t a) s fun d => d = e)
        ∧ ∀ v, live → e.curveInput a = (some v, true) ∨ e.curveInput a = (some v, false) →
          Runs (.curveSample t a) s fun d =>
            let z := d.axis.at a
            let xf := match x.xf with
              | none => v
              | some f => f + shrR (v - f) (s.dev.cfgN .blowerCurve a .IN_FILT)
            others d ∧ z.xf = some xf ∧ z.curveHeld = false ∧ z.sampled = some e.curveSlot
            ∧ z.curveOn = (if x.curveOn then decide (s.dev.cfg .blowerCurve a .T_OFF < xf)
                else decide (s.dev.cfg .blowerCurve a .T_ON ≤ xf))
            ∧ z.target = (if z.curveOn then s.dev.curveAt a xf else 0)
            ∧ (z.curveOn = true → x.curveOn = false → z.on = true)))
    ∧ (s.dev.has .sdm k = false ∨ s.dev.bankUp .sigmaDelta = false → Runs (.sdmLost t k) s fun d => d = e)
    ∧ (s.dev.has .sdm k = true → s.dev.bankUp .sigmaDelta = true → Runs (.sdmLost t k) s fun d =>
      e.Heard (uid cSDM k) 0x090E (some .fault) d
      ∧ d.ctrAt (uid cSDM k) .LOST = s.dev.ctrAt (uid cSDM k) .LOST + 1
      ∧ (s.dev.has .axis (k.val / 2) = true → tripped d (k.val / 2))
      ∧ ∀ i, i ≠ k.val / 2 → d.axis.at i = s.dev.axis.at i)
    ∧ (s.dev.has .enc q = false ∨ s.dev.bankUp .encoders = false → Runs (.encZEdge t q count) s fun d => d = e)
    ∧ (s.dev.has .enc q = true → s.dev.bankUp .encoders = true → Runs (.encZEdge t q count) s fun d =>
      d = { e with enc := d.enc } ∧ (∀ i, i ≠ q.val → d.enc.at i = s.dev.enc.at i)
      ∧ (d.enc.at q).count = count ∧ (d.enc.at q).z = some ((s.dev.enc.at q).z.getD count))

/-- Once in a chopper period an energised stepper of the active device gives each phase a duty of at most DMAX or the
least sense window, which is for the next period, and its microstep is that of its profile. A sense current beyond
OC_LIMIT, at that or any other conversion, or an open winding for 10 ms at full duty, turns the outputs off with
FAULT and counts. Hold current begins only at a microstep unchanged for HOLD_DELAY_MS, and the measured zero is
taken once, STALL_MS after the energisation. A stall that has lasted STALL_MS is counted, and in an engaged device
its action holds the stepper where it is, stops it from the next period on, or only reports. A profile in a 10 us
tick keeps within POS_MIN and POS_MAX for its target and never exceeds VMAX; in a run-down its speed only falls and
its target stays. Nothing else moves: no other stepper and no other profile. Each command completes so once its time
has come; before that nothing changes. -/
def Obligations.SteppersAndProfilesMove : Prop :=
  ∀ (s : State) (t : Nat) (i : Fin 16) (y : PhaseSample) (phaseB : Bool) (raw : BitVec 12) (unit : Half),
    let e := s.dev.enter t 7
    let u := uid cSTEP i
    let x := s.dev.step.at i
    let on : Prop := s.dev.has .step i = true
    let cfgN := s.dev.cfgN .step i
    let others (d : Dev) : Prop := ∀ j, j ≠ i.val → d.step.at j = s.dev.step.at j
    let off : Stepper := { x with on := false, safe := true, da := 0, db := 0, dutyAt := 0, offAt := 0 }
    let beyond (f : F) (code : BitVec 12) : Prop :=
      x.trip = false ∧ 10 * s.dev.cfg .step i .OC_LIMIT < absI (e.senseCurrent i f code.toNat)
    let trips (code : Nat) (d : Dev) : Prop :=
      Dev.Reports { e with
        ctr := d.ctr, step := e.step.set i { off with trip := true, fullA := none, fullB := none } } u code
        (if s.dev.ust u = .fenced then none else some .fault) d
      ∧ d.ctrAt u .OC_TRIPS = s.dev.ctrAt u .OC_TRIPS + 1
    (¬ on → ∀ c ∈ [Instr.stepperPhaseLoop t i y, .stepperOvercurrent t ⟨i, phaseB, raw⟩, .coilOpen t i, .holdCurrentDelay t i,
        .stepZeroCapture t i, .stall t i], Runs c s fun d => d = e)
    ∧ (on →
      (e.chopDue i = false → Runs (.stepperPhaseLoop t i y) s fun d => d = e)
      ∧ (e.chopDue i = true → Runs (.stepperPhaseLoop t i y) s fun d =>
        let z := d.step.at i
        let least := ceilDiv (65536 * ceilDiv (32 * cfgN .SENSE_WIN_NS) 5) (32 * cfgN .CHOP_HALF)
        let most := max (256 * s.dev.cfg .step i .DMAX).toNat least
        others d
        ∧ (cfgN .STEP_PER_COUNT ≠ 0 → s.dev.bankUp .encoders = true → (d.enc.at (cfgN .ENC)).count = y.count)
        ∧ (x.on = false → z = { x with period := some (e.chopPeriod i) })
        ∧ (x.on = true → beyond .SENSE_A_AIN y.rawA ∨ beyond .SENSE_B_AIN y.rawB →
            z.on = false ∧ z.safe = true ∧ z.trip = true ∧ z.da = 0 ∧ z.db = 0)
        ∧ (x.on = true → ¬ beyond .SENSE_A_AIN y.rawA → ¬ beyond .SENSE_B_AIN y.rawB →
          z.lastStep = s.dev.stepPos i ∧ z.on = true
          ∧ (s.dev.stepPos i ≠ x.lastStep → z.held = none ∧ z.stepAt = e.clk.now)
          ∧ (s.dev.isActive = true → z.da ≤ most ∧ z.db ≤ most ∧ z.dutyAt = e.chopBoundary i ∧ (z.wasA, z.wasB) = e.bridges i)
          ∧ (s.dev.isActive = false → z.da = x.da ∧ z.db = x.db)))
      ∧ (let f : F := if phaseB then .SENSE_B_AIN else .SENSE_A_AIN
        (beyond f raw → Runs (.stepperOvercurrent t ⟨i, phaseB, raw⟩) s fun d => trips 0x0A09 d)
        ∧ (¬ beyond f raw → Runs (.stepperOvercurrent t ⟨i, phaseB, raw⟩) s fun d => d = e))
      ∧ (let long (f : Option Nat) : Prop := ∃ since, f = some since ∧ since + 40000000 ≤ e.clk.now
        (x.on = true → long x.fullA ∨ long x.fullB → Runs (.coilOpen t i) s fun d => trips 0x0A0D d)
        ∧ (x.on = false ∨ ¬ (long x.fullA ∨ long x.fullB) → Runs (.coilOpen t i) s fun d => d = e))
      ∧ (let due : Prop := x.on = true ∧ x.held = none ∧ x.stallHold = false ∧ cfgN .HOLD_DELAY_MS ≠ 0
          ∧ s.dev.stepPos i = x.lastStep ∧ x.stepAt + 4000000 * cfgN .HOLD_DELAY_MS ≤ e.clk.now
        (¬ due → Runs (.holdCurrentDelay t i) s fun d => d = e)
        ∧ (due → Runs (.holdCurrentDelay t i) s fun d =>
          d = { e.bump u .HOLD_ENTRIES 1 with step := e.step.set i { x with held := some e.clk.now } }))
      ∧ (x.on = true → x.count0 = none → x.onAt + 4000000 * cfgN .STALL_MS ≤ e.clk.now →
        Runs (.stepZeroCapture t i) s fun d =>
        d = { e with step := e.step.set i { x with count0 := some (s.dev.stepCount i) } })
      ∧ (x.on = false ∨ x.count0 ≠ none ∨ e.clk.now < x.onAt + 4000000 * cfgN .STALL_MS →
        Runs (.stepZeroCapture t i) s fun d => d = e)
      ∧ (x.devAt = none → Runs (.stall t i) s fun d => d = e)
      ∧ (∀ since, x.devAt = some since → e.clk.now < since + 4000000 * cfgN .STALL_MS →
        Runs (.stall t i) s fun d => d = e)
      ∧ (∀ since, x.devAt = some since → since + 4000000 * cfgN .STALL_MS ≤ e.clk.now → Runs (.stall t i) s fun d =>
        let held : Prop := x.on = false ∨ s.dev.eng.st ≠ .engaged ∨ cfgN .STALL_ACTION = 0
        others d ∧ d.ctrAt u .STALLS = s.dev.ctrAt u .STALLS + 1
        ∧ (held → d.step.at i = { x with devAt := none } ∧ d.prof = s.dev.prof ∧ e.Heard u 0x0A08 none d)
        ∧ (¬ held → cfgN .STALL_ACTION = 1 →
          d.step.at i = { x with devAt := none, stallHold := true, held := none }
          ∧ (d.prof.at u).v = 0 ∧ (d.prof.at u).p = (s.dev.prof.at u).p ∧ (d.prof.at u).tgt = (s.dev.prof.at u).p
          ∧ e.Heard u 0x0A08 (some .hold) d)
        ∧ (¬ held → cfgN .STALL_ACTION ≠ 1 →
          d.step.at i = { x with devAt := none, on := false, safe := true, offAt := e.chopBoundary i } ∧ d.prof = s.dev.prof ∧ e.Heard u 0x0A08 (some .fault) d)))
    ∧ (let v := unit.toNat
      let p := s.dev.prof.at v
      let cfg := s.dev.cfgU .profile v
      let elsewhere (d : Dev) : Prop := d.step = s.dev.step ∧ d.axis = s.dev.axis
        ∧ ∀ w, w ≠ v → d.prof.at w = s.dev.prof.at w
      (s.dev.profRuns v = false ∨ p.slot = some e.profSlot → Runs (.profileTick t unit) s fun d => d = e)
      ∧ (s.dev.profRuns v = true → p.slot ≠ some e.profSlot → 0 ≤ cfg .DEC → 0 ≤ cfg .ACC → 0 ≤ cfg .VMAX → cfg .POS_MIN ≤ cfg .POS_MAX →
        Runs (.profileTick t unit) s fun d =>
          let z := d.prof.at v
          elsewhere d ∧ z.slot = some e.profSlot
          ∧ (s.dev.eng.rundownAt = none →
            (z.tgt = p.tgt ∨ (one32 * cfg .POS_MIN ≤ z.tgt ∧ z.tgt ≤ one32 * cfg .POS_MAX))
            ∧ (absI p.v ≤ one32 * cfg .VMAX → absI z.v ≤ one32 * cfg .VMAX)
            ∧ (z.p = p.p + rdiv z.v 100000 ∨ (z.p = z.tgt ∧ z.v = 0)))
          ∧ (s.dev.eng.rundownAt ≠ none →
            z.tgt = p.tgt ∧ absI z.v ≤ absI p.v ∧ z.p = p.p + rdiv z.v 100000)))

/-- Each of the six completes. A conversion is compensated, filtered and counted; codes outside the electrical range are
counted in a row, the eighth, and any further one on a unit that is neither FENCED nor in FAULT, giving FAULT with
0x0B11 (stated for one that came on time, the scaled value already beyond its limits). Loops due at one instant
execute in the order of their indices. An execution of a loop that is due, has its turn and is in RUN moves r by at
most the ramp step, keeps the output inside OUT_MIN and OUT_MAX and likewise an integral that was inside and did not
start anew, adds y x DIV to the transfer charge where it counts it, and drives the actuator of the active inside
DUTY_MIN and DUTY_MAX; without its source it enters HOLD and keeps its output; with its source back in time it
executes again. A loop that is not due, has no turn, or has executed at this grid instant, does not execute; one
whose drive has taken its safe state in a stop keeps its output. A source away for SRC_HOLD_MS gives SAFE_OUT and
FAULT with 0x0B08 (the FAULT stated for a loop out of band); a saturation finding is taken once, and SAT_ACTION 2
sends the output to SAFE_OUT. Once a period, a lamp with diagnosis in every period has an on-time such that the new
debt and the requested on-time equal the old debt and the on-time; a second command in that period does nothing. A
sense conversion above OC_MA turns a lamp off with FAULT, a lower one does nothing. Nothing happens to a unit that
is not in use. -/
def Obligations.InputsLoopsAndLampsFollowTheirLaws : Prop :=
  ∀ (s : State) (t : Nat) (i : Fin 160) (raw : BitVec 12) (sched : Bool) (k : Fin 64) (cnt : Int) (m : Fin 16),
    let e := s.dev.enter t 7
    (s.dev.has .ain i = false → Runs (.adcConversion t i raw sched) s fun d => d = e)
    ∧ (s.dev.has .ain i = true → Runs (.adcConversion t i raw sched) s fun d =>
      let u := uid cAIN i
      let x := s.dev.ain.at i
      let z := d.ain.at i
      let code := s.dev.compensated raw.toNat
      let inside : Prop := s.dev.cfg .ain i .ELEC_MIN ≤ code ∧ code ≤ s.dev.cfg .ain i .ELEC_MAX
      (∀ j, j ≠ i.val → d.ain.at j = s.dev.ain.at j)
      ∧ z.raw = code ∧ z.xf = x.xf + shrR (code - x.xf) (s.dev.cfgN .ain i .FILT)
      ∧ d.ctrAt u .CONVERSIONS = s.dev.ctrAt u .CONVERSIONS + 1
      ∧ (inside → z.outs = 0 ∧ z.ins = min 8 (x.ins + 1))
      ∧ (¬ inside → z.ins = 0 ∧ z.outs = min 8 (x.outs + 1)
        ∧ (7 ≤ x.outs → s.dev.ust u ≠ .fault → s.dev.ust u ≠ .fenced → x.beyond = true →
            (sched && e.lateConversion i) = false → e.Heard u 0x0B11 (some .fault) d))
      ∧ (z.beyond = true ↔ d.ainScaled i < s.dev.cfg .ain i .LIMIT_LO ∨ s.dev.cfg .ain i .LIMIT_HI < d.ainScaled i)
      ∧ d.ctrAt u .LIMIT_EVENTS = s.dev.ctrAt u .LIMIT_EVENTS + if z.beyond && !x.beyond then 1 else 0)
    ∧ (let u := uid cLOOP k
      let x := s.dev.loop.at k
      let on : Prop := s.dev.has .loop k = true
      let cfg := s.dev.cfg .loop k
      let others (d : Dev) : Prop := ∀ j, j ≠ k.val → d.loop.at j = s.dev.loop.at j
      let count (d : Dev) (c : Ctr) : DWord := d.ctrAt u c - s.dev.ctrAt u c
      let ran := ((e.updLoop k (fun x => { x with ranAt := some (e.qns / 4000) })).loopCount k cnt).closePast k
      let turn : Prop := e.loopDue k = true ∧ e.loopTurn k = true
      let goes : Prop := on ∧ turn ∧ e.loopRested k = false
      (¬ on ∨ ¬ turn → Runs (.loopExecution t ⟨k, cnt⟩) s fun d => d = e)
      ∧ (turn → ∀ j, j < k.val → s.dev.has .loop j = true → s.dev.ust (uid cLOOP j) = .run → e.loopDue j = false)
      ∧ (on → turn → (s.dev.ust u ≠ .run ∧ s.dev.ust u ≠ .hold) ∨ e.loopRested k = true →
        Runs (.loopExecution t ⟨k, cnt⟩) s fun d => d = ran ∧ d.loopDue k = false ∧ (d.loop.at k).out = x.out)
      ∧ (∀ y a, goes → s.dev.ust u = .hold → ran.source k = some y → x.holdAt = some a →
        e.clk.now ≤ a + 4000000 * s.dev.cfgN .loop k .SRC_HOLD_MS → Runs (.loopExecution t ⟨k, cnt⟩) s fun d =>
        others d ∧ (d.loop.at k).holdAt = none ∧ (d.loop.at k).y = y ∧ count d .EXECUTIONS = 1)
      ∧ (goes → s.dev.ust u = .run → ran.source k = none → Runs (.loopExecution t ⟨k, cnt⟩) s fun d =>
        others d ∧ (d.loop.at k).holdAt = some e.clk.now ∧ (d.loop.at k).out = x.out ∧ (d.loop.at k).inBand = false
        ∧ count d .SRC_HOLDS = 1 ∧ count d .EXECUTIONS = 0)
      ∧ (∀ y, goes → s.dev.ust u = .run → x.holdAt = none → ran.source k = some y → cfg .OUT_MIN ≤ cfg .OUT_MAX →
        Runs (.loopExecution t ⟨k, cnt⟩) s fun d =>
          let z := d.loop.at k
          let step := rdiv ((s.dev.cfgN .loop k .RAMP_RATE * s.dev.cfgN .loop k .DIV : Nat) * 65536) 1000000
          others d ∧ z.y = y ∧ z.yPrev = y ∧ count d .EXECUTIONS = 1
          ∧ absI (z.r - (if x.fresh then 65536 * y else x.r)) ≤ step
          ∧ cfg .OUT_MIN ≤ z.out ∧ z.out ≤ cfg .OUT_MAX
          ∧ (x.fresh = false → cfg .OUT_MIN ≤ x.iAcc → x.iAcc ≤ cfg .OUT_MAX →
            cfg .OUT_MIN ≤ z.iAcc ∧ z.iAcc ≤ cfg .OUT_MAX)
          ∧ z.total = x.total + (if s.dev.cfgB .loop k .CHARGE_EN then y * (s.dev.cfgN .loop k .DIV : Nat) else 0)
          ∧ (s.dev.isActive = true → s.dev.cfgN .loop k .DST_KIND = 1 →
            let a := s.dev.cfgN .loop k .DST_IDX
            (d.act.at a).duty = (clampI (s.dev.cfg .act a .DUTY_MIN) (s.dev.cfg .act a .DUTY_MAX) z.out).toNat)
          ∧ (s.dev.isActive = false → d.act = s.dev.act ∧ d.lamp = s.dev.lamp))
      ∧ (let due : Prop := on ∧ s.dev.ust u = .hold
          ∧ ∃ a, x.holdAt = some a ∧ a + 4000000 * s.dev.cfgN .loop k .SRC_HOLD_MS ≤ e.clk.now
        (¬ due → Runs (.sourceHoldTimeout t k) s fun d => d = e)
        ∧ (due → Runs (.sourceHoldTimeout t k) s fun d =>
          others d ∧ (d.loop.at k).holdAt = none ∧ (d.loop.at k).out = cfg .SAFE_OUT
          ∧ (x.inBand = false → e.Heard u 0x0B08 (some .fault) d)))
      ∧ (let due : Prop := on ∧ (s.dev.ust u = .run ∨ s.dev.ust u = .fault) ∧ e.satFound k = true ∧ x.satFlagged = false
        (¬ due → Runs (.saturationFinding t k) s fun d => d = e)
        ∧ (due → Runs (.saturationFinding t k) s fun d =>
          others d ∧ (d.loop.at k).satFlagged = true ∧ count d .SAT_FINDINGS = 1
          ∧ (d.loop.at k).out = (if s.dev.cfgN .loop k .SAT_ACTION = 2 then cfg .SAFE_OUT else x.out))))
    ∧ (let u := uid cLAMP m
      let x := s.dev.lamp.at m
      let others (d : Dev) : Prop := ∀ j, j ≠ m.val → d.lamp.at j = s.dev.lamp.at j
      let n := s.dev.cfgN .lamp m .N_DIAG
      let tau := s.dev.lampTau m
      (s.dev.lampLive m = false ∨ s.dev.isActive = false ∨ x.period = some (e.lampPeriod m) →
        Runs (.lampPeriod t m) s fun d => d = e)
      ∧ (s.dev.lampLive m = true → s.dev.isActive = true → x.period ≠ some (e.lampPeriod m) → Runs (.lampPeriod t m) s fun d =>
        let z := d.lamp.at m
        others d ∧ z.period = some (e.lampPeriod m)
        ∧ (z.failed = true → z.on = 0 ∧ z.duty = 0 ∧ z.onTotal = x.onTotal)
        ∧ (z.failed = false → z.onTotal = x.onTotal + z.on
          ∧ (s.dev.cfgB .lamp m .DIAG_EN = false → z.on = tau ∧ z.diag = false)
          ∧ (s.dev.cfgB .lamp m .DIAG_EN = true → s.dev.cfgN .lamp m .T_DIAG_NS * 32 ≤ n * tau * 5 →
            z.debt + tau = x.debt + z.on ∧ z.deferred = false
            ∧ (z.diag = true ↔ n ≤ x.k + 1 ∧ x.debt = 0))
          ∧ (s.dev.cfgB .lamp m .DIAG_EN = true → n * tau * 5 < s.dev.cfgN .lamp m .T_DIAG_NS * 32 →
            z.deferred = true ∧ z.debt = x.debt
            ∧ (s.dev.inBrim (s.dev.cfgN .lamp m .LAMP_STN) = false → z.on = tau ∧ z.diag = false))))
      ∧ (let over_ : Prop := s.dev.cfg .lamp m .OC_MA
          < s.dev.scale (s.dev.cfgN .lamp m .SENSE_AIN) (s.dev.compensated (raw.toNat : Int))
        (s.dev.has .lamp m = false ∨ s.dev.ust u = .fenced ∨ x.failed = true ∨ ¬ over_ →
          Runs (.lampOvercurrent t ⟨m, raw⟩) s fun d => d = e)
        ∧ (s.dev.has .lamp m = true → s.dev.ust u ≠ .fenced → x.failed = false → over_ →
          Runs (.lampOvercurrent t ⟨m, raw⟩) s fun d =>
          Dev.Reports { e with
            lamp := e.lamp.set m { x with failed := true, duty := 0, on := 0, diag := false, sample := none } } u 0x0B0D
            (some .fault) d)))

/-- Each of the seven completes. An offset to the source in force is removed by a step of the counter where the device
is neither engaged nor near it and the offset is above STEP_NS, else through ADJ, which stays inside the range that
R553 and R554 allow where that range is not empty; its value there is a free value (log entry 11). The answer of the
exchange in progress from the parent gives the offset of R559, moves the streaks of R560 and lets a gauntlet that
waited for settled time begin; any other frame on a port that is up disciplines nothing and changes only what
receiving and sending touch. Every FAB_PERIOD_MS a node with a parent that is not the crown begins an exchange. A
crown that follows a PTP message is disciplined by it; without one for the announce timeout it reports 0x020D. A
grandmaster whose bank is up takes a PPS edge of the configured direction 100 ms to 900 ms after a ToD frame, and
any other such edge after one with 0x0213; a ToD frame that is not well formed, or replaces one that no edge
followed, gives 0x0213; PPS missing for 3 s gives clockClass 7 with 0x0212. -/
def Obligations.TimeIsDisciplined : Prop :=
  ∀ (s : State) (t : Nat) (p : Fin 5) (f : FabricTimeFrame) (m : PtpMessage) (w : TodFrame) (rising : Bool),
    let e := s.dev.enter t 7
    let h := s.dev.enter t 6
    let c := s.dev.clk
    let stepped (o : Int) : Prop := s.dev.mayStep = true ∧ 65536 * s.dev.cfg .time 0 .STEP_NS < absI o
    let disciplined (b : Dev) (o : Int) (d : Dev) : Prop :=
      d.clk.offset = o ∧ d.clk.got = true ∧ d.ctrAt uNODE .TIME_OFFSET = BitVec.ofInt 64 o
      ∧ (stepped o → d.clk.tai = ((b.clk.tai : Int) - 4294967296 * o).toNat ∧ d.clk.adj = c.adj ∧ d.free = s.dev.free
        ∧ d.ctrAt uNODE .TIME_STEPS = s.dev.ctrAt uNODE .TIME_STEPS + 1)
      ∧ (¬ stepped o → d.clk.tai = b.clk.tai ∧ d.free = s.dev.free + 1
        ∧ (b.adjRange.1 ≤ b.adjRange.2 → b.adjRange.1 ≤ d.clk.adj ∧ d.clk.adj ≤ b.adjRange.2))
    ((s.dev.fab.ports.at p).up = false → Runs (.xasonTime t p f) s fun d => d = h)
    ∧ ((s.dev.fab.ports.at p).up = true →
      let known (id : Nat) : Prop := (∃ t1, c.exch = some (id, t1)) ∧ s.dev.fab.parent = some p.val
      let received := h.bump (uid cXPORT p) .FRAMES_RX 1
      (∀ id t1, f = .request id t1 → Runs (.xasonTime t p f) s fun d => received.Sent d)
      ∧ ∀ id t2 t3 settled, f = .answer id t2 t3 settled →
        (¬ known id.toNat → Runs (.xasonTime t p f) s fun d => received.Sent d)
        ∧ ∀ t1, c.exch = some (id.toNat, t1) → s.dev.fab.parent = some p.val → Runs (.xasonTime t p f) s fun d =>
          let twice : Int := ((h.qns : Int) - t1) - ((t3.toNat : Int) - t2.toNat)
          let o := 256 * ((t2.toNat : Int) - t1) - 128 * twice - rdiv (128 * s.dev.cfg .xport p .ASYM_PS) 250
          let gain : Bool := !c.settled && decide (absI (64 * o) ≤ 131072 ∧ 7 ≤ c.good) && settled
          let lose : Bool := c.settled && decide (262144 < absI (64 * o) ∧ 1 ≤ c.bad)
          disciplined h (-64 * o) d ∧ d.clk.exch = none
          ∧ d.clk.good = (if absI (64 * o) ≤ 131072 then c.good + 1 else 0)
          ∧ d.clk.bad = (if 262144 < absI (64 * o) then c.bad + 1 else 0)
          ∧ d.clk.settled = ((c.settled || gain) && !lose)
          ∧ d.eng = (if gain && s.dev.eng.st == .waitTime then { s.dev.eng with st := .gauntlet, gauntletAt := h.clk.now }
              else s.dev.eng))
    ∧ (let due : Prop := ∀ a, c.exchAt = some a → a + 4000000 * s.dev.cfgN .time 0 .FAB_PERIOD_MS ≤ e.clk.now
      (s.dev.fab.parent = none ∨ s.dev.fab.running = true ∨ ¬ due → Runs (.fabricTimeExchange t) s fun d => d = e)
      ∧ (s.dev.fab.parent ≠ none → s.dev.fab.running = false → due → Runs (.fabricTimeExchange t) s fun d =>
        Dev.Sent { e with clk := { e.clk with
          timeId := nextSeq c.timeId, exch := some (c.timeId, e.qns), exchAt := some e.clk.now } } d))
    ∧ (e.followsPtp m = false → Runs (.ptpSync t m) s fun d => d = e)
    ∧ (e.followsPtp m = true → Runs (.ptpSync t m) s fun d =>
      disciplined e m.offset d ∧ d.clk.master = some m.master ∧ d.clk.masterRank = masterRank m ∧ d.clk.syncAt = some e.clk.now ∧ d.eng = s.dev.eng
      ∧ d.ctrAt uNODE .SYNC_RX = s.dev.ctrAt uNODE .SYNC_RX + 1)
    ∧ (let waits : Prop := s.dev.isCrown = true ∧ (s.dev.cfgN .time 0 .TIME_SRC = 1 ∨ c.master ≠ none)
        ∧ ∀ a, c.syncAt = some a → a + s.dev.announceWait ≤ e.clk.now
      (waits → Runs (.ptpAnnounceTimeout t) s fun d => e.Reports uNODE 0x020D none d)
      ∧ (¬ waits → Runs (.ptpAnnounceTimeout t) s fun d => d = e))
    ∧ (let counts : Prop :=
        s.dev.grandmaster = true ∧ s.dev.bankUp .ethernetTime = true ∧ rising = !s.dev.cfgB .time 0 .PPS_POL
      (¬ counts ∨ c.tod = none → Runs (.ppsEdge ⟨t, rising⟩) s fun d => d = h)
      ∧ ∀ sec at_, counts → c.tod = some (sec, at_) →
      let good : Prop := at_ + 400000000 ≤ h.clk.now ∧ h.clk.now ≤ at_ + 3600000000
      (¬ good → Runs (.ppsEdge ⟨t, rising⟩) s fun d => Dev.Reports { h with clk := { h.clk with tod := none } } uNODE 0x0213 none d)
      ∧ (good → Runs (.ppsEdge ⟨t, rising⟩) s fun d =>
        disciplined h (16384 * ((h.qns : Int) - 4 * s.dev.cfg .time 0 .PPS_DELAY_NS - 4000000000 * (sec : Int))) d
        ∧ d.clk.tod = none ∧ d.clk.ppsAt = some h.clk.now ∧ d.clk.clockClass = 6 ∧ d.eng = s.dev.eng))
    ∧ (s.dev.grandmaster = false ∨ s.dev.bankUp .ethernetTime = false → Runs (.todFrame t w) s fun d => d = e)
    ∧ (s.dev.grandmaster = true → s.dev.bankUp .ethernetTime = true →
      (todSeconds w = none → Runs (.todFrame t w) s fun d => e.Reports uNODE 0x0213 none d)
      ∧ ∀ sec, todSeconds w = some sec → Runs (.todFrame t w) s fun d =>
        ∃ b, (if c.tod = none then b = e else e.Reports uNODE 0x0213 none b)
          ∧ d = { b with clk := { b.clk with tod := some (sec, e.clk.now) } })
    ∧ (let locked : Prop := s.dev.grandmaster = true ∧ c.clockClass = 6
        ∧ ∀ a, c.ppsAt = some a → a + 12000000000 ≤ e.clk.now
      (¬ locked → Runs (.ppsLost t) s fun d => d = e)
      ∧ (locked → Runs (.ppsLost t) s fun d =>
        Dev.Reports { e with clk := { e.clk with clockClass := 7, ppsAt := none, tod := none } } uNODE 0x0212 none d))

/-- Each of the four completes. From the release on a valid reading is kept; from 105.0 degrees C on the device is
warned until below 104.0, and from 125.0 on it is in T_crit: every axis and stepper in use is off, READY and FAULT_N
are low, and the device neither stays engaged nor stops. The third failed conversion in a row, or an open or short
diode, is a hard fault, without a slope. In an orderly stop exactly those pages in MARKING that fail the test of
R569 become aborted, no page changes its state, and without one the test changes nothing. 1 ms after T_crit only
those of the domains of R574 that are wanted stay on, and before that all stay as they were. A thermal swap that has
not ended in 50 ms is given up, and the active, where engaged, begins the stop with the reason it had put off. -/
def Obligations.TheTemperatureStopsTheDevice : Prop :=
  ∀ (s : State) (t : Nat) (r : DiodeResult) (x : Int),
    let temp := s.dev.temp
    (s.dev.boot.stage = .unpowered → Runs (.diodeConversion t r) s fun d => ∃ rank, d = s.dev.enter t rank)
    ∧ (s.dev.boot.stage ≠ .unpowered → -550 ≤ x → x ≤ 1500 → Runs (.diodeConversion t (.reading x)) s fun d =>
      d.temp.now = x ∧ d.temp.fails = 0
      ∧ (1050 ≤ x → d.temp.warned = true) ∧ (x < 1040 → d.temp.warned = false)
      ∧ (1040 ≤ x → x < 1050 → d.temp.warned = temp.warned)
      ∧ (d.temp.stopped = true ↔ 1150 ≤ x)
      ∧ d.ctrAt uTEMP .WARN_EVENTS = s.dev.ctrAt uTEMP .WARN_EVENTS + (if 1050 ≤ x ∧ temp.warned = false then 1 else 0)
      ∧ d.ctrAt uTEMP .STOP_EVENTS = s.dev.ctrAt uTEMP .STOP_EVENTS + (if 1150 ≤ x ∧ temp.stopped = false then 1 else 0)
      ∧ (x < 1250 → d.ctrAt uTEMP .CRIT_EVENTS = s.dev.ctrAt uTEMP .CRIT_EVENTS)
      ∧ (1250 ≤ x → s.dev.boot.stage ≠ .critical →
        d.boot.stage = .critical ∧ d.pins.ready = false ∧ d.pins.faultLow = true
        ∧ d.eng.st ≠ .engaged ∧ d.eng.st ≠ .disengaging
        ∧ (∀ i, i < 24 → s.dev.has .axis i = true → (d.axis.at i).on = false ∧ (d.axis.at i).safe = true)
        ∧ (∀ i, i < 16 → s.dev.has .step i = true → (d.step.at i).on = false ∧ (d.step.at i).safe = true)))
    ∧ (s.dev.boot.stage ≠ .unpowered → diodeValid r = none → Runs (.diodeConversion t r) s fun d =>
      d.temp.now = temp.now ∧ d.temp.fails = temp.fails + 1
      ∧ (r ≠ .failed ∨ 2 ≤ temp.fails → s.dev.temp.hard = false → d.temp.hard = true ∧ d.temp.slope = none ∧ d.temp.past = []))
    ∧ (temp.orderly = false → Runs (.thermalPageTest t) s fun d => d = s.dev.enter t 4)
    ∧ (temp.orderly = true → (s.dev.jobs.pages.map (·.order)).Nodup → Runs (.thermalPageTest t) s fun d =>
      ∀ p ∈ s.dev.jobs.pages, ∃ q ∈ d.jobs.pages, q.order = p.order ∧ q.state = p.state
        ∧ q.abortAt.isSome = (p.abortAt.isSome || (p.state == .marking && !s.dev.thermalContinues p)))
    ∧ (let due : Prop := s.dev.boot.stage = .critical
        ∧ ∃ a, temp.critAt = some a ∧ a + 4000000 ≤ (s.dev.enter t 7).clk.now
      (¬ due → Runs (.tcritDomainOff t) s fun d => d = s.dev.enter t 7)
      ∧ (due → Runs (.tcritDomainOff t) s fun d =>
      ∀ k, (d.dom.at k).on = ((s.dev.dom.at k).on && (decide (128 ≤ k) || (critKept.contains k && s.dev.domWanted k)))))
    ∧ (let e := s.dev.enter t 5
      (temp.swapAt = none → Runs (.thermalSwapTimeout t) s fun d => d = e)
      ∧ ∀ since code, temp.swapAt = some (since, code) →
        (e.clk.now < since + 200000000 → Runs (.thermalSwapTimeout t) s fun d => d = e)
        ∧ (since + 200000000 ≤ e.clk.now →
          (s.dev.twin.role ≠ .active → Runs (.thermalSwapTimeout t) s fun d =>
            d = { e with temp := { temp with swapAt := none } })
          ∧ (s.dev.twin.role = .active → s.dev.eng.st = .engaged → Runs (.thermalSwapTimeout t) s fun d =>
            d.temp.swapAt = none ∧ d.temp.orderly = true ∧ d.eng.st = .disengaging
            ∧ d.eng.stopReason = BitVec.ofNat 16 code)))

/-- Each of the five completes. A node with an image answers a neighbour's query with its temperature and the state of
its sensor (stated for a query whose answer the port has the credit to send at once). An answer of a neighbour
counts until 5 ms after the query, the latest of each; any other changes only what receiving it touches. 5 ms after
a query of a soft anomaly a check that passes confirms the temperature with 0x0C06 and is repeated 100 ms after the
query, and one that does not pass puts TEMP in FAULT and counts. A recheck that is due asks again, while the anomaly
lasts. While READY is asserted and VSTBY applied, the low 32 bits of the seconds and of the calibration generation
are retained; otherwise the retained word stays. -/
def Obligations.NeighboursConfirmTheTemperature : Prop :=
  ∀ (s : State) (t : Nat) (node val : Half) (sensor : BitVec 2),
    let e := s.dev.enter t 7
    let temp := s.dev.temp
    let gens := s.dev.cal.gen % 2 ^ 32
    (s.dev.boot.loaded = false → Runs (.thermalQ t node) s fun d => e.Took d)
    ∧ (s.dev.boot.loaded = true → Runs (.thermalQ t node) s fun d =>
      e.Took d
      ∧ ∀ p, node.toNat ≠ s.dev.node → s.dev.fab.portTo node.toNat = some p → (s.dev.fab.ports.at p).waitU = [] →
        11 ≤ (s.dev.fab.ports.at p).avail false →
        ∃ seq, d.host.out.head? = some (Out.xason node.toNat p (.thermalA temp.now s.dev.sensor) seq e.qns))
    ∧ (let counts : Prop := ∃ since, temp.query = some since ∧ e.clk.now ≤ since + 20000000
        ∧ s.dev.neighbours.any (·.1 == node.toNat) = true
      (¬ counts → Runs (.thermalA t node val sensor) s fun d => e.Took d)
      ∧ (counts → Runs (.thermalA t node val sensor) s fun d =>
        Dev.Took { e with temp := d.temp } d ∧ d.temp = { temp with answers := d.temp.answers }
        ∧ (∀ x, x ∈ d.temp.answers ↔ x = (node.toNat, val.toInt, sensor.toNat)
          ∨ (x ∈ temp.answers ∧ x.1 ≠ node.toNat))))
    ∧ (let e := s.dev.enter t 5
      let due : Prop := ∃ since, temp.query = some since ∧ since + 20000000 ≤ e.clk.now ∧ temp.soft = true
      (¬ due → Runs (.thermalQueryTimeout t) s fun d => d = e)
      ∧ (due → s.dev.checkPasses = true → ∀ since, temp.query = some since → Runs (.thermalQueryTimeout t) s fun d =>
        Dev.Reports { e with temp := { temp with
          confirmed := true, query := none, answers := [], recheckAt := some (since + 400000000) } } uTEMP 0x0C06 none d)
      ∧ (due → s.dev.checkPasses = false → Runs (.thermalQueryTimeout t) s fun d =>
        d.temp.failed = true ∧ d.temp.confirmed = false ∧ d.temp.query = none ∧ d.temp.recheckAt = none
        ∧ d.ctrAt uTEMP .NB_CHECKS_FAILED = s.dev.ctrAt uTEMP .NB_CHECKS_FAILED + 1))
    ∧ (let due : Prop := ∃ at_, temp.recheckAt = some at_ ∧ at_ ≤ e.clk.now ∧ temp.soft = true
      (¬ due → Runs (.thermalRecheck t) s fun d => d = e)
      ∧ (due → Runs (.thermalRecheck t) s fun d =>
        Dev.Sent { e with temp := { temp with query := some e.clk.now, answers := [], recheckAt := none } } d))
    ∧ (s.dev.pins.ready = false ∨ s.dev.boot.vstby = false → Runs (.scratchWrite t) s fun d => d = e)
    ∧ (s.dev.pins.ready = true → s.dev.boot.vstby = true → Runs (.scratchWrite t) s fun d =>
      d = { e with boot := d.boot } ∧ d.boot = { s.dev.boot with scratch := d.boot.scratch }
      ∧ d.boot.scratch.toNat = e.stamp / 1000000000 % 2 ^ 32 * 2 ^ 32 + gens)

/-- Each of the six completes. A port in use that trains comes UP, on one lane where it trained so or its record says
so, and greets its peer with HELLO, or with PAIR on the lining port of a twin, at once or in the queue of the port.
A node that loses a port trains it anew and counts it; where that one led to its parent it takes another UP port
below port 4, with REPARENTS, unless it then lies too deep and is its own crown, or has no parent from then on; a
lined twin that loses its lining port is unlined, and an active one no longer serves a standby. HELLO gives a port
its peer; a peer that differs from the record is a fault of the port with 0x0F10, another device with the own id one
of NODE with 0x1108. A frame that breaks R371 is reported with 0x0F03 and counted, any other is not discarded.
CREDIT lets frames that wait leave, oldest first, up to the first that does not fit. The audit of a node without a
station, due every AUDIT_PERIOD_MS, finds the first UP port that does not pass at fault with 0x0F09 and retrains it.
On a port that is down nothing is received. The other commands touch only units, counters, host port, fabric and
boot status. -/
def Obligations.PortsTrainGreetAndGoDown : Prop :=
  ∀ (s : State) (t : Nat) (p : Fin 5) (one : Bool) (f : XasonHello) (c : CreditFrame) (w : RawFrame),
    let e := s.dev.enter t 7
    let x := s.dev.fab.ports.at p
    let u := uid cXPORT p
    let greets (d : Dev) : Prop :=
      let goes (b : XBody) : Prop := (∃ seq, Out.xason 0xFFFF p b seq e.qns ∈ d.host.out)
        ∨ (0xFFFF, b) ∈ (d.fab.ports.at p).waitU
      if p.val = 4 then s.dev.isTwin = true → ∃ m : PairMsg, goes (.pair m)
        ∧ m.req = false ∧ m.node = BitVec.ofNat 16 s.dev.node ∧ m.epoch = BitVec.ofNat 32 s.dev.twin.epoch
      else ∃ m : XasonHello, goes (.hello m)
        ∧ m.node = BitVec.ofNat 16 s.dev.node ∧ m.port = BitVec.ofNat 8 p.val ∧ m.serial = Config.serial
    let trains : Prop := s.dev.has .xport p = true ∧ x.up = false ∧ x.training = true
    (¬ trains → Runs (.xportTrained t p one) s fun d => d = e)
    ∧ (trains → Runs (.xportTrained t p one) s fun d =>
      (d.fab.ports.at p).up = true ∧ (d.fab.ports.at p).training = false
      ∧ (d.fab.ports.at p).oneLane = (one || s.dev.cfgB .xport p .LANES) ∧ greets d)
    ∧ (x.up = false → Runs (.xportLinkDown t p) s (fun d => d = e) ∧ Runs (.xasonHello t p f) s (fun d => d = e)
      ∧ Runs (.xasonFrameDiscard t ⟨p, w⟩) s (fun d => d = e) ∧ Runs (.credit t p c) s fun d => d = e)
    ∧ (x.up = true →
      (Runs (.xportLinkDown t p) s fun d =>
        (d.fab.ports.at p).up = false ∧ (d.fab.ports.at p).training = true ∧ Out.trainPort p.val ∈ d.host.out
        ∧ d.ctrAt u .LINK_DOWNS = s.dev.ctrAt u .LINK_DOWNS + 1
        ∧ (p.val = 4 ∨ s.dev.fab.parent ≠ some p.val → d.fab.parent = s.dev.fab.parent)
        ∧ (p.val ≠ 4 → s.dev.fab.parent = some p.val →
          (d.fab.parent = none ∧ d.fab.lostAt = some e.clk.now
            ∧ d.ctrAt uNODE .REPARENTS = s.dev.ctrAt uNODE .REPARENTS)
          ∨ (d.fab.tooDeep = true ∧ d.fab.parent = none ∧ d.fab.crown = some s.dev.node
            ∧ d.ctrAt uNODE .REPARENTS = s.dev.ctrAt uNODE .REPARENTS + 1)
          ∨ ∃ q, d.fab.parent = some q ∧ q ≠ p.val ∧ q < 4 ∧ (s.dev.fab.ports.at q).up = true
            ∧ (s.dev.fab.ports.at q).mismatch = false ∧ d.fab.lostAt = none
            ∧ d.ctrAt uNODE .REPARENTS = s.dev.ctrAt uNODE .REPARENTS + 1)
        ∧ (p.val ≠ 4 ∨ s.dev.isTwin = false → d.twin = s.dev.twin ∧ d.lane = s.dev.lane ∧ d.axis = s.dev.axis)
        ∧ (p.val = 4 → s.dev.isTwin = true →
          (s.dev.twin.role = .lined → d.twin.role = .unlined)
          ∧ (s.dev.twin.role = .active → d.twin.role = .active ∧ d.twin.serving = false ∧ d.twin.partnerLined = false)
          ∧ ∀ l, (d.lane.at l).partnerUp = false))
      ∧ (Runs (.xasonHello t p f) s fun d =>
        let other (want own : Nat) (none_ : Nat) : Bool := want != none_ && want != own
        let bad := other (s.dev.cfgN .xport p .PEER_NODE) f.node.toNat 0xFFFF
          || other (s.dev.cfgN .xport p .PEER_PORT) f.port.toNat 0xFF
        (d.fab.ports.at p).peer = some f ∧ (d.fab.ports.at p).mismatch = bad
        ∧ d.ctrAt u .FRAMES_RX = s.dev.ctrAt u .FRAMES_RX + 1
        ∧ (bad = true → e.Heard u 0x0F10 (some .fault) d ∧ d.fab.best = s.dev.fab.best)
        ∧ (bad = false → p.val ≠ 4 → f.node.toNat = s.dev.node → f.serial ≠ Config.serial → s.dev.fab.dup = false →
          d.fab.dup = true ∧ e.Heard uNODE 0x1108 (some .fault) d))
      ∧ ((xFault w).isSome = false → Runs (.xasonFrameDiscard t ⟨p, w⟩) s fun d => d = e)
      ∧ ((xFault w).isSome = true → Runs (.xasonFrameDiscard t ⟨p, w⟩) s fun d =>
        ∃ m, Dev.Reports (e.bump u .RX_DISCARDS 1) u 0x0F03 none m ∧ m.Sent d)
      ∧ (Runs (.credit t p c) s fun d =>
        let z := d.fab.ports.at p
        Dev.Sent (e.bump u .FRAMES_RX 1) d ∧ z.credit = some c ∧ z.up = true
        ∧ (∃ i r, z.waitU = x.waitU.drop i ++ r ∧ ∀ b ∈ r, b.2.isCredit = true) ∧ (∃ i, z.waitB = x.waitB.drop i)
        ∧ (∀ b r, z.waitU = b :: r → z.avail b.2.bulk < (b.2.blocks : Int))
        ∧ (∀ b r, z.waitB = b :: r → z.avail b.2.bulk < (b.2.blocks : Int))))
    ∧ (let due : Prop := s.dev.stations = [] ∧ s.dev.boot.loaded = true
        ∧ ∀ a, s.dev.fab.auditAt = some a → a + 4000000 * s.dev.cfgN .fabric 0 .AUDIT_PERIOD_MS ≤ e.clk.now
      (¬ due → Runs (.auditPeriod t) s fun d => d = e)
      ∧ (due → Runs (.auditPeriod t) s fun d =>
      d.fab.auditAt = some e.clk.now
      ∧ (s.dev.fab.fingers = [] → d.ctrAt uNODE .AUDITS
        = s.dev.ctrAt uNODE .AUDITS + BitVec.ofNat 64 ((upTo 5).filter fun q => (s.dev.fab.ports.at q).up).length)
      ∧ (x.up = true → (∀ q, q < p.val → (s.dev.fab.ports.at q).up = false) →
        (x.creditsOk = true → d.us u = s.dev.us u ∧ (d.fab.ports.at p).up = true)
        ∧ (x.creditsOk = false → e.Heard u 0x0F09 (some .fault) d ∧ (d.fab.ports.at p).up = false
          ∧ (d.fab.ports.at p).training = true ∧ Out.trainPort p.val ∈ d.host.out))))
    ∧ (∀ i ∈ [Instr.xportTrained t p one, .xasonHello t p f], TouchesOnly i [.units, .ctr, .host, .fab, .boot])
    ∧ ∀ i ∈ [Instr.xasonFrameDiscard t ⟨p, w⟩, .credit t p c], TouchesOnly i [.units, .ctr, .host, .fab]

/-- Each of the eight completes. On a fabric port of the image that is UP, the candidacy that stands is that of a
running crown before others and no worse than the one that arrives, and is that one, the one known or the own one
(of a node not too deep); a running crown that meets a better running one no longer runs; another device with the
own id is a fault of NODE with 0x1108. A child's ROUTE, newer than its last, adds its ranges to the port's subtree
or takes them out; ranges with the own id are the other device's. A frame on its way goes one hop on toward its
destination (stated to leave at once where the credit allows), is dropped with 0x0F04 at 24 hops, and at the crown
with 0x0F06 where its destination is unknown. A node cut off from the crown for CROWN_LOST_MS reports 0x0F08 and is
a crown, or with priority 255 knows none; one with no UP port CROWN_WAIT_MS after its power steps is its own crown
with 0x1107; a twin alone 5 ms after them has paired with 0x110A. STATUS and MITTEN_JOIN are kept for the mittens
and fingers they name (a list without mittens stated), and AUDIT counts at the mitten's home; elsewhere they change
only what receiving them touches. -/
def Obligations.TheFabricElectsAndRoutes : Prop :=
  ∀ (s : State) (t : Nat) (p : Fin 5) (m : CandidacyMsg) (f : RoutedFrame) (finger word mitten unit : Word)
    (reason : Half) (j : MittenJoinMsg),
    let e := s.dev.enter t 7
    let g := s.dev.fab
    let x := g.ports.at p
    let prio := s.dev.cfgN .fabric 0 .CROWN_PRIO
    let b := e.bump (uid cXPORT p) .FRAMES_RX 1
    let cand := (m.node.toNat, m.prio.toNat, m.serial.toNat)
    let twice : Prop := m.node.toNat = s.dev.node ∧ m.serial ≠ Config.serial
    let takes : Prop := x.up = true ∧ x.mismatch = false ∧ p.val ≠ 4
    (¬ takes → Runs (.candidacy t p m) s fun d => d = e)
    ∧ (takes →
      (twice → g.dup = false → Runs (.candidacy t p m) s fun d =>
        d.fab.dup = true ∧ e.Heard uNODE 0x1108 (some .fault) d)
      ∧ (¬ twice → Runs (.candidacy t p m) s fun d =>
        d.fab.dup = g.dup
        ∧ (d.fab.tooDeep = false → ∃ w, d.fab.best = some w
          ∧ (if d.fab.bestRun = m.running then better cand w = false else d.fab.bestRun = true)
          ∧ (w = cand ∨ some w = g.best ∨ w = (s.dev.node, prio, Config.serial.toNat)))
        ∧ ∀ w, g.best = some w → g.bestRun = true → g.running = true → m.running = true →
          better (s.dev.node, prio, Config.serial.toNat) w = false → better cand w = true → m.node.toNat ≠ s.dev.node →
          d.fab.running = false))
    ∧ (x.up = false ∨ x.mismatch = true ∨ g.dup = true → Runs (.route t p f) s fun d => d = e)
    ∧ (x.up = true → x.mismatch = false → g.dup = false →
      (∀ r, f = .route r →
        let stale : Prop := ∃ last, g.routes.get? r.src.toNat = some last ∧ r.routeSeq.toNat ≤ last
          ∧ last - r.routeSeq.toNat < 2147483648
        let rs := r.ranges.map fun y => (y.1.toNat, y.2.toNat)
        (g.parent = some p.val ∨ stale → Runs (.route t p f) s fun d => b.Sent d)
        ∧ (g.parent ≠ some p.val → ¬ stale → Runs (.route t p f) s fun d =>
          d.fab.routes.get? r.src.toNat = some r.routeSeq.toNat ∧ d.fab.parent = g.parent ∧ d.fab.crown = g.crown
          ∧ (if r.withdraw = false ∧ ∃ y ∈ rs, y.1 ≤ s.dev.node ∧ s.dev.node ≤ y.2
              then d.fab.dup = true ∧ e.Heard uNODE 0x1108 (some .fault) d
              else d.fab.dup = false ∧ d.units = s.dev.units)
          ∧ ∀ y, y ∈ (d.fab.ports.at p).subtree ↔
            (if r.withdraw then y ∈ x.subtree ∧ y ∉ rs else y ∈ x.subtree ∨ y ∈ rs)))
      ∧ ∀ h, f = .transit h →
        (24 ≤ h.hops.toNat → Runs (.route t p f) s fun d =>
          ∃ c, b.Sent c ∧ Dev.Reports (c.bump uNODE .HOP_DISCARDS 1) uNODE 0x0F04 none d)
        ∧ (h.hops.toNat < 24 →
          (h.dst = 0xFFFF → Runs (.route t p f) s fun d => b.Sent d)
          ∧ (h.dst ≠ 0xFFFF → h.dst.toNat = s.dev.node → Runs (.route t p f) s fun d => b.Sent d)
          ∧ (h.dst ≠ 0xFFFF → h.dst.toNat ≠ s.dev.node →
            (g.portTo h.dst.toNat = none → g.crown = some s.dev.node → Runs (.route t p f) s fun d =>
              ∃ c, b.Sent c ∧ c.Reports uNODE 0x0F06 none d)
            ∧ (g.portTo h.dst.toNat = none → g.crown ≠ some s.dev.node → Runs (.route t p f) s fun d =>
              d.fab.held = g.held ++ [(h.dst.toNat, .forward { h with hops := h.hops + 1 })])
            ∧ ∀ q, g.portTo h.dst.toNat = some q → Runs (.route t p f) s fun d =>
              let z := g.ports.at q
              let on := XBody.forward { h with hops := h.hops + 1 }
              b.Sent d ∧ ((if h.bulk then z.waitB else z.waitU) = [] → ((on.blocks + 6 : Nat) : Int) ≤ z.avail h.bulk →
                ∃ seq, d.host.out.head? = some (Out.xason h.dst.toNat q on seq e.qns)))))
    ∧ (let due : Prop := ∃ a, g.lostAt = some a ∧ a + 4000000 * s.dev.cfgN .fabric 0 .CROWN_LOST_MS ≤ e.clk.now
      (¬ due → Runs (.crownLost t) s fun d => d = e)
      ∧ (due → Runs (.crownLost t) s fun d =>
        d.fab.lostAt = none ∧ e.Heard uNODE 0x0F08 none d
        ∧ (prio = 255 → d.fab.crown = none ∧ d.fab.best = none)
        ∧ (prio ≠ 255 → g.tooDeep = false → g.dup = false → d.fab.crown = some s.dev.node ∧ d.fab.parent = none ∧ d.fab.depth = 0
          ∧ d.fab.running = (s.dev.pins.ready || g.running))))
    ∧ (let alone : Prop := s.dev.boot.stepped = true
        ∧ s.dev.boot.stepAt + 4000000 * s.dev.cfgN .startup 0 .CROWN_WAIT_MS ≤ e.clk.now ∧ g.crown = none ∧ ∀ q, q < 4 → (g.ports.at q).up = false
      (¬ alone → Runs (.crownWaitTimeout t) s fun d => d = e)
      ∧ (alone → Runs (.crownWaitTimeout t) s fun d =>
        d.fab.crown = some s.dev.node ∧ d.fab.depth = 0 ∧ d.fab.parent = none ∧ d.fab.joined = true ∧ d.clk.got = true
        ∧ e.Heard uNODE 0x1107 none d))
    ∧ (let due : Prop := s.dev.isTwin = true ∧ s.dev.boot.stepped = true
        ∧ s.dev.boot.stepAt + 20000000 ≤ e.clk.now ∧ s.dev.twin.paired = false ∧ s.dev.twin.met = false
      (¬ due → Runs (.pairingTimeout t) s fun d => d = e)
      ∧ (due → Runs (.pairingTimeout t) s fun d =>
        Dev.Reports { e with twin := { s.dev.twin with paired := true, alone := true } } uNODE 0x110A none d))
    ∧ (let above : Prop := ∃ a ∈ s.dev.homes, finger.toNat ∈ s.dev.fingersOf a
      (¬ above → Runs (.status t finger word) s fun d => e.Took d)
      ∧ (above → Runs (.status t finger word) s fun d =>
        Dev.Took { e with fab := { g with remote := g.remote.set finger.toNat (word.toNat, s.dev.host.order) } } d))
    ∧ (Runs (.mittenJoin t j) s fun d =>
      Dev.Took { e with fab := { g with fingers := d.fab.fingers } } d
      ∧ (j.fingers.Nodup → (∀ a ∈ j.fingers, s.dev.mittenRec a.toNat = none
          ∧ (a.toNat / 65536 = s.dev.node → uclass (a.toNat % 65536) ≠ cMITTEN)) →
        (∀ i a, j.fingers[i]? = some a → a.toNat / 65536 = s.dev.node → d.fab.fingers.get? (a.toNat % 65536)
          = some (j.mitten.toNat, j.first.toNat + i, j.ancestors.map BitVec.toNat))
        ∧ ∀ u, (∀ a ∈ j.fingers, a.toNat ≠ s.dev.node * 65536 + u) → u < 65536 →
          d.fab.fingers.get? u = g.fingers.get? u))
    ∧ (mitten.toNat ∉ s.dev.homes → Runs (.audit t mitten unit reason) s fun d => e.Took d)
    ∧ (mitten.toNat ∈ s.dev.homes → Runs (.audit t mitten unit reason) s fun d =>
      let v := mitten.toNat % 65536
      Dev.Took (if reason = 0 then e.bump v .AUDITS 1 else (e.bump v .AUDITS 1).bump v .AUDIT_FAULTS 1) d)

/-- Each of the seven completes. A VISOR ticket or VISOR_REQ whose SCOPE names no unit of R25 is refused with 0x0E01,
one whose T is less than VISOR_LEAD_US or more than 10 s away with 0x0F0B, a ninth pending visor with 0x0F0C, a
ticket's buffer below 64 bytes with 0x0F0E, a VISOR_REQ of node 0xFFFF with 0x0E02 and one beside one pending with
0x0F0C; any other is pending with the nodes of its scope. Another node's request is kept until T by a node with a
unit in scope; one that comes after T counts, is reported with 0x0F0D and not kept. At T, and not before, the units
in scope are latched: VISORS counts, a requester that still waits for another node keeps its contribution, any other
node closes its own with VISOR_END and holds the visor no longer, and of its ledger and charge entries at most those
stamped after T stay to be returned. Parts are kept by node and number. Once every node has ended or is late, or
VISOR_TIMEOUT_MS after T, the visor leaves those pending, at most its room is written, and its ticket completes with
OUTCOME 0, with REASON 0 or 0x0F0F. Of a visor that is not known a command changes at most what receiving it
touches. -/
def Obligations.VisorsAreCollectedAndWritten : Prop :=
  ∀ (s : State) (t : Nat) (w : Word) (m : VisorReqMsg) (node id : Half) (part : VisorDataMsg) (fin : VisorEndMsg),
    let e := s.dev.enter t 7
    let g := s.dev.fab
    let own := s.dev.node
    let early (at_ : Nat) : Prop := at_ < e.stamp + 1000 * s.dev.cfgN .fabric 0 .VISOR_LEAD_US ∨ e.stamp + 10000000000 < at_
    let starts (at_ scope : Nat) (slot : Option Nat) (buf len : Nat) (d : Dev) : Prop :=
      let v : Visor :=
        { id := g.visorId, node := own, t := at_, scope := scope, slot := slot, buf := buf, len := len
          nodes := (s.dev.scopeNodes 8 scope).eraseDups }
      d.fab.visors = g.visors ++ [v]
      ∧ d.fab.visorId = (g.visorId + 1) % 65536 ∧ d.units = s.dev.units ∧ d.host.cqSeq = s.dev.host.cqSeq
    let done (v : Visor) (d : Dev) : Prop :=
      d.fab.visors = g.visors.filter (fun x => !(x.node == v.node && x.id == v.id))
      ∧ (∀ slot, v.slot = some slot → 64 ≤ v.len → s.dev.tkt slot ≠ none →
        (∃ bytes, Out.hostWrite v.buf bytes ∈ d.host.out ∧ 64 ≤ bytes.length ∧ bytes.length ≤ v.len)
        ∧ ∃ r, (r = 0 ∨ r = 0x0F0F) ∧ e.Completes slot 0 r d
          ∧ (s.dev.twin.outcomes.get? (slot % 65536) = none →
            (r = 0 → d.units = s.dev.units) ∧ (r = 0x0F0F → e.Heard uNODE 0x0F0F none d)))
      ∧ (v.slot = none → 64 ≤ d.fab.shadow.length ∧ d.fab.shadow.length ≤ 0xF00000)
    (s.dev.startable 0x09 = none → Runs (.visor t) s fun d => d = e)
    ∧ (∀ k : Tkt, s.dev.pins.ready = true → s.dev.startable 0x09 = some k →
      let at_ := tf k.entry 511 448
      let len := tf k.entry 383 352
      let refused (code : Nat) : Prop := Runs (.visor t) s fun d =>
        e.Completes k.slot 1 code d ∧ d.fab.visors = g.visors ∧ d.fab.visorId = g.visorId
      let unit : Prop := uvalid (tf k.entry 351 320 % 65536) = true
      (¬ unit → refused 0x0E01)
      ∧ (unit → early at_ → refused 0x0F0B)
      ∧ (unit → ¬ early at_ → 8 ≤ g.visors.length → refused 0x0F0C)
      ∧ (unit → ¬ early at_ → g.visors.length < 8 → len < 64 → refused 0x0F0E)
      ∧ (unit → ¬ early at_ → g.visors.length < 8 → 64 ≤ len → Runs (.visor t) s fun d =>
        starts at_ (tf k.entry 351 320) (some k.slot) (tf k.entry 447 384) len d))
    ∧ (w.getLsbD 0 = false → Runs (.visorReq t w) s fun d => d = e)
    ∧ (w.getLsbD 0 = true →
      let at_ := s.dev.host.visorT.toNat
      let scope := s.dev.host.visorScope.toNat
      let pending : Prop := ∃ v ∈ g.visors, v.node = own ∧ v.slot = none
      let refused (code : Nat) : Prop := Runs (.visorReq t w) s fun d => e.Reports uNODE code none d
      (scope / 65536 = 0xFFFF → refused 0x0E02)
      ∧ (scope / 65536 ≠ 0xFFFF → uvalid (scope % 65536) = false → refused 0x0E01)
      ∧ (scope / 65536 ≠ 0xFFFF → uvalid (scope % 65536) = true →
        (pending → refused 0x0F0C)
        ∧ (¬ pending → early at_ → refused 0x0F0B)
        ∧ (¬ pending → ¬ early at_ → 8 ≤ g.visors.length → refused 0x0F0C)
        ∧ (¬ pending → ¬ early at_ → g.visors.length < 8 → Runs (.visorReq t w) s fun d => starts at_ scope none 0 0 d)))
    ∧ (let known : Prop := m.node.toNat = own ∨ ∃ v ∈ g.visors, v.node = m.node.toNat ∧ v.id = m.visorId.toNat
      (known → Runs (.visorReqMsg t m) s fun d => e.Took d)
      ∧ (¬ known →
        (s.dev.scopeUnits m.scope.toNat = [] → Runs (.visorReqMsg t m) s fun d => e.Took d)
        ∧ (s.dev.scopeUnits m.scope.toNat ≠ [] →
          (m.latchT.toNat < e.stamp → Runs (.visorReqMsg t m) s fun d =>
            d.fab.visors = g.visors ∧ e.Heard uNODE 0x0F0D none d
            ∧ d.ctrAt uNODE .VISORS_LATE = s.dev.ctrAt uNODE .VISORS_LATE + 1)
          ∧ (e.stamp ≤ m.latchT.toNat → Runs (.visorReqMsg t m) s fun d =>
            d.units = s.dev.units ∧ d.fab.visors = g.visors ++
              [{ id := m.visorId.toNat, node := m.node.toNat, t := m.latchT.toNat, scope := m.scope.toNat }]))))
    ∧ (s.dev.visorOf node.toNat id.toNat = none → Runs (.visorLatch t node id) s fun d => d = e)
    ∧ (∀ v, s.dev.visorOf node.toNat id.toNat = some v →
      (v.latched = true ∨ e.stamp < v.t → Runs (.visorLatch t node id) s fun d => d = e)
      ∧ (v.latched = false → v.t ≤ e.stamp →
        let us := s.dev.scopeUnits v.scope
        (Runs (.visorLatch t node id) s fun d =>
          d.free = s.dev.free + 80 ∧ d.ctrAt uNODE .VISORS = s.dev.ctrAt uNODE .VISORS + 1)
        ∧ (node.toNat ≠ own → Runs (.visorLatch t node id) s fun d =>
          d.fab.visors = g.visors.filter (fun x => !(x.node == node.toNat && x.id == id.toNat)) ∧ d.units = s.dev.units
          ∧ (∀ n, n < 8 → s.dev.addr (uid cSTN n) ∈ us → (d.stn.at n).ringNew ≤ s.dev.laterEntries (uid cSTN n) v.t)
          ∧ (∀ i, i < 64 → s.dev.addr (uid cLOOP i) ∈ us → (d.loop.at i).ringNew ≤ s.dev.laterEntries (uid cLOOP i) v.t)
          ∧ (g.portTo node.toNat = none → g.dup = false → d.fab.held.getLast? = some (node.toNat, .visorEnd
            { src := BitVec.ofNat 16 own, visorId := id, units := BitVec.ofNat 32 us.length, late := false })))
        ∧ (node.toNat = own → (∃ n ∈ v.nodes, n ≠ own ∧ n ∉ v.reported ∧ n ∉ v.late) →
          Runs (.visorLatch t node id) s fun d => d.units = s.dev.units ∧ d.host = s.dev.host
            ∧ ∃ x, d.visorOf own id.toNat = some x ∧ x.latched = true ∧ x.t = v.t ∧ x.scope = v.scope
              ∧ x.parts.get? (own * 65536)
                = some (us.zipIdx.flatMap fun a => e.unitBlock v.scope a.1 v.t (g.visorCut && a.2 == 0)))))
    ∧ (s.dev.visorOf own part.visorId.toNat = none → Runs (.visorData t part) s fun d => e.Took d)
    ∧ (∀ v, s.dev.visorOf own part.visorId.toNat = some v → Runs (.visorData t part) s fun d =>
      let v' := { v with parts := v.parts.set (part.src.toNat * 65536 + part.part.toNat) part.bytes }
      Dev.Took { e with fab := { g with
        visors := g.visors.map fun x => if x.node = own ∧ x.id = part.visorId.toNat then v' else x } } d)
    ∧ (s.dev.visorOf own fin.visorId.toNat = none → Runs (.visorEnd t fin) s fun d => e.Took d)
    ∧ (∀ v, s.dev.visorOf own fin.visorId.toNat = some v →
      let n := fin.src.toNat
      let v' : Visor := if fin.late then { v with late := n :: v.late }
        else if n ∈ v.reported then v else { v with reported := n :: v.reported }
      let all : Prop := ∀ x ∈ v.nodes, x ∈ v'.reported ∨ x ∈ v'.late
      (all → Runs (.visorEnd t fin) s fun d => done v d)
      ∧ (¬ all → Runs (.visorEnd t fin) s fun d => Dev.Took { e with fab := { g with
        visors := g.visors.map fun x => if x.node = own ∧ x.id = fin.visorId.toNat then v' else x } } d))
    ∧ (s.dev.visorOf own id.toNat = none → Runs (.visorTimeout t id) s fun d => d = e)
    ∧ (∀ v, s.dev.visorOf own id.toNat = some v →
      let due : Prop := v.t + 1000000 * s.dev.cfgN .fabric 0 .VISOR_TIMEOUT_MS ≤ e.stamp
      (¬ due → Runs (.visorTimeout t id) s fun d => d = e)
      ∧ (due → Runs (.visorTimeout t id) s fun d => done v d))

/-- Each of the seven completes. A referee keeps the latest heartbeat of each twin of a pair of its image and renews the
holder's lease to 5 ms after its STAMP; the first grant of a pair that nobody has adopted goes to one twin, with
EPOCH 1, once both are heard, and its partner is fenced first where it stays absent for 5 ms; which twin is the
model's choice (log entry 30). A holder without a heartbeat younger than 5 ms is fenced with KIND 0: its line goes
low; a referee that adopted the pair less than 5 ms ago fences nobody. With the bank of the readback up, only a line
that reads back low for 20 us and has not been found stuck leads to the next epoch, for a partner that is lined or
has the first grant, else to 0x100B; a line not low after 5 us is stuck, with 0x100C; each is reported once a fence.
GRANT_REFUSED of the holder leaves the pair without one. REJOIN_REQ releases the line, CLAIM adopts the higher
epoch, SWAP_REQ fences the holder with KIND 1 where its partner is lined and nothing is pending, and is refused
otherwise. The partner of a twin counts a heartbeat it relays, with 0x1010. Messages are stated to leave where the
port has the credit. A heartbeat, a timeout, a readback with its grant touches no other pair, and no command any
part of the device but units, counters, host port, pins, fabric and referee state. -/
def Obligations.RefereesFenceAndGrant : Prop :=
  ∀ (s : State) (t : Nat) (m : LeaseMsg) (pair : Half) (low : Bool),
    let e := s.dev.enter t 7
    let g := s.dev.fab
    let lo := m.pairLo.toNat
    let src := m.src.toNat
    let r := s.dev.ref.at lo
    let hi := s.dev.pairHi lo
    let mine : Prop := s.dev.refRec lo ≠ none ∧ (src = lo ∨ src = hi)
    let tells (dst kind expires : Nat) (d : Dev) : Prop := ∀ q, g.portTo dst = some q → dst ≠ s.dev.node →
      (g.ports.at q).waitU = [] → 18 ≤ (g.ports.at q).avail false →
      ∃ (x : LeaseMsg) (seq : Nat), Out.xason dst q (.lease kind false false x) seq e.qns ∈ d.host.out
        ∧ x.expires = BitVec.ofNat 64 expires ∧ x.src = BitVec.ofNat 16 s.dev.node
    let issued (d : Dev) : Prop := d.ctrAt uNODE .FENCES_ISSUED = s.dev.ctrAt uNODE .FENCES_ISSUED + 1
    let granted (d : Dev) : Prop := d.ctrAt uNODE .GRANTS_ISSUED = s.dev.ctrAt uNODE .GRANTS_ISSUED + 1
    let lineOf (l node : Nat) : BitVec 4 := 1#4 <<< (s.dev.refCfg l (if node = l then .FENCE_LO else .FENCE_HI))
    let relays : Prop := s.dev.isTwin = true ∧ lo = s.dev.pairLo ∧ src = s.dev.partner
    (relays → s.dev.refs[m.rank.toNat]? = none → Runs (.heartbeat t m) s fun d => e.Took d)
    ∧ (relays → s.dev.refs[m.rank.toNat]? ≠ none → Runs (.heartbeat t m) s fun d =>
      ∃ k, e.Took k ∧ Dev.Reports (k.bump uNODE .HB_RELAYED 1) uNODE 0x1010 none d)
    ∧ (¬ relays → ¬ mine → Runs (.heartbeat t m) s fun d => e.Took d)
    ∧ (¬ relays → mine → lo ≠ hi →
      let b : Beat := { stamp := m.stamp.toNat, role := m.role.toNat, epoch := m.epoch.toNat }
      let victim : Option Nat := r.fence.map (·.1)
      (Runs (.heartbeat t m) s fun d =>
        (if src = lo then (d.ref.at lo).lo = some b ∧ (d.ref.at lo).hi = r.hi
          else (d.ref.at lo).hi = some b ∧ (d.ref.at lo).lo = r.lo)
        ∧ (∀ l, l ≠ lo → d.ref.at l = s.dev.ref.at l)
        ∧ (r.holder = some src → m.epoch.toNat = r.epoch → victim ≠ some src →
          tells src 1 (m.stamp.toNat + 20000000) d)
        ∧ (let dst := s.dev.firstTwin lo
          let beat (node : Nat) : Option Beat := if node = src then some b else if node = lo then r.lo else r.hi
          let other := if dst = lo then hi else lo
          r.epoch = 0 → r.holder = none → r.fence = none → r.adoptedAt = none → (dst = lo ∨ dst = hi) →
          ∀ a, beat dst = some a →
            (beat other ≠ none → a.role = 0 →
              (d.ref.at lo).epoch = 1 ∧ (d.ref.at lo).holder = some dst ∧ granted d ∧ tells dst 2 (e.qns + 20000000) d)
            ∧ (beat other = none → ∀ at_, r.firstAt = some at_ → at_ + 20000000 ≤ e.clk.now →
              (d.ref.at lo).fence = some (other, 0, e.clk.now) ∧ issued d
              ∧ d.pins = { s.dev.pins with fenceOut := s.dev.pins.fenceOut ||| lineOf lo other }))))
    ∧ (let l := pair.toNat
      let r := s.dev.ref.at l
      let beat (node : Nat) : Option Beat := if node = l then r.lo else r.hi
      let swaps : Prop := ∃ v a, r.fence = some (v, 1, a)
      let due (h : Nat) : Prop := r.holder = some h ∧ (∀ b, beat h = some b → b.stamp + 20000000 ≤ e.qns)
        ∧ (∀ a, r.adoptedAt = some a → a + 20000000 ≤ e.clk.now) ∧ (r.fence = none ∨ swaps)
      ((∀ h, ¬ due h) → Runs (.leaseTimeout t pair) s fun d => d = e)
      ∧ (∀ h, due h → Runs (.leaseTimeout t pair) s fun d =>
        (d.ref.at l).fence = some (h, 0, e.clk.now) ∧ (d.ref.at l).lowSince = none ∧ (d.ref.at l).epoch = r.epoch
        ∧ (swaps → (d.ref.at l).swapTo = none) ∧ (∀ x, x ≠ l → d.ref.at x = s.dev.ref.at x) ∧ issued d
        ∧ d.units = s.dev.units ∧ d.pins = { s.dev.pins with fenceOut := s.dev.pins.fenceOut ||| lineOf l h })
      ∧ (r.fence = none ∨ s.dev.bankUp .control = false → Runs (.fenceReadback t pair low) s fun d => d = e)
      ∧ ∀ v k at_, r.fence = some (v, k, at_) → s.dev.bankUp .control = true →
        let high := { r with lowSince := none }
        let since := r.lowSince.getD e.clk.now
        let lows := { r with lowSince := some since }
        let dst := s.dev.otherTwin l v
        let fits : Prop := ∃ b, beat dst = some b ∧ (b.role = 1 ∨ (r.epoch = 0 ∧ b.role = 0 ∧ dst = s.dev.firstTwin l))
        let put (x : Ref) : Dev := { e with ref := e.ref.set l x }
        (low = false → e.clk.now < at_ + 20000 ∨ r.failed = true → Runs (.fenceReadback t pair low) s fun d => d = put high)
        ∧ (low = false → at_ + 20000 ≤ e.clk.now → r.failed = false → Runs (.fenceReadback t pair low) s fun d =>
          (put { high with failed := true, stuck := true }).Reports uNODE 0x100C none d)
        ∧ (low = true → e.clk.now < since + 80000 ∨ r.stuck = true → Runs (.fenceReadback t pair low) s fun d => d = put lows)
        ∧ (low = true → since + 80000 ≤ e.clk.now → r.stuck = false →
          (fits → Runs (.fenceReadback t pair low) s fun d =>
            (d.ref.at l).epoch = r.epoch + 1 ∧ (d.ref.at l).holder = some dst ∧ (d.ref.at l).fence = none
            ∧ (∀ x, x ≠ l → d.ref.at x = s.dev.ref.at x) ∧ granted d ∧ d.units = s.dev.units
            ∧ tells dst 2 (e.qns + 20000000) d)
          ∧ (¬ fits → r.failed = true → Runs (.fenceReadback t pair low) s fun d => d = put lows)
          ∧ (¬ fits → r.failed = false → Runs (.fenceReadback t pair low) s fun d =>
            (put { lows with failed := true }).Reports uNODE 0x100B none d)))
    ∧ (let holds : Prop := s.dev.refRec lo ≠ none ∧ r.holder = some src
      (¬ holds → Runs (.grantRefused t m) s fun d => e.Took d)
      ∧ (holds → Runs (.grantRefused t m) s fun d => ∃ k, e.Took k
        ∧ Dev.Reports { k with ref := e.ref.set lo { r with holder := none, swapTo := none } } uNODE 0x100B none d))
    ∧ (let waits : Prop := r.failed = false ∧ ∃ k a, r.fence = some (src, k, a)
      (¬ mine ∨ waits → Runs (.rejoinReq t m) s fun d => e.Took d)
      ∧ (mine → ¬ waits → Runs (.rejoinReq t m) s fun d =>
        let r' := { r with
          fence := if r.fence.map (·.1) = some src then none else r.fence
          holder := if r.holder = some src then none else r.holder }
        let pins := { e.pins with fenceOut := e.pins.fenceOut &&& ~~~ (lineOf lo src) }
        Dev.Took { e with pins := pins, ref := e.ref.set lo r' } d ∧ tells src 5 0 d))
    ∧ (¬ mine → Runs (.claim t m) s fun d => e.Took d)
    ∧ (mine → Runs (.claim t m) s fun d =>
      let r' := { r with
        epoch := max r.epoch m.epoch.toNat
        holder := if m.role = 2 ∧ r.epoch ≤ m.epoch.toNat then some src else r.holder
        adoptedAt := some e.clk.now, rank := m.rank.toNat, lo := none, hi := none, firstAt := none }
      Dev.Took { e with ref := e.ref.set lo r' } d ∧ tells src 7 0 d ∧ tells (s.dev.otherTwin lo src) 7 0 d)
    ∧ (s.dev.refRec lo = none → Runs (.swapReq t m) s fun d => e.Took d)
    ∧ (s.dev.refRec lo ≠ none →
      let dst := m.expires.toNat % 65536
      let beat : Option Beat := if dst = lo then r.lo else r.hi
      let can : Prop := r.holder = some src ∧ m.epoch.toNat = r.epoch ∧ dst = s.dev.otherTwin lo src
        ∧ (∃ b, beat = some b ∧ b.role = 1) ∧ r.fence = none ∧ r.swapTo = none
      (can → Runs (.swapReq t m) s fun d =>
        (d.ref.at lo).fence = some (src, 1, e.clk.now) ∧ (d.ref.at lo).swapTo = some dst
        ∧ (d.ref.at lo).holder = r.holder ∧ (d.ref.at lo).epoch = r.epoch ∧ issued d
        ∧ d.pins = { s.dev.pins with fenceOut := s.dev.pins.fenceOut ||| lineOf lo src })
      ∧ (¬ can → Runs (.swapReq t m) s fun d => e.Took d ∧ tells src 9 0 d))
    ∧ (∀ i ∈ [Instr.heartbeat t m, .leaseTimeout t pair, .fenceReadback t pair low, .grantRefused t m, .rejoinReq t m,
        .claim t m, .swapReq t m], TouchesOnly i [.units, .ctr, .host, .pins, .fab, .ref])

/-- Each of the twelve completes. A twin sends heartbeats, one each ms, only while its watchdogs are good and no unit is
in FAULT with 0x0C03 or 0x0C09. A lease runs to its EXPIRES; an active twin past it reports 0x1005 once and keeps
its role. Only a grant of a higher epoch has an effect, and only a lined standby, or an unlined one under epoch 1,
becomes active by it: ACTIVE rises and, where engaged, its axes that are neither in FAULT nor FENCED drive; the
active twin takes the new epoch, any other refuses. A fenced twin whose FENCE_N is high rejoins as an unlined
standby. A swap is asked of the referee where it is possible, else refused with 0x100D, and ends with FENCE or
SWAP_REFUSED, with its ticket. FENCE_N low, with its bank up, fences the device: READY and ACTIVE low, every axis
and stepper off, every clock output stopped, pages that were marking aborted, neither engaged nor stopping. Without
word of its referee for REF_LOST_MS an active twin reports 0x1009 once and claims the next (where one can be
reached). Messages are stated to leave where the port has the credit. A message for another pair changes only what
receiving it touches. -/
def Obligations.TwinsTakeAndLeaveTheirRoles : Prop :=
  ∀ (s : State) (t : Nat) (m : LeaseMsg) (w : FenceMsg) (good : Bool) (ms : Nat),
    let e := s.dev.enter t 7
    let x := s.dev.twin
    let now := e.clk.now
    let own : Prop := s.dev.isTwin = true ∧ m.pairLo.toNat = s.dev.pairLo
    let heard (y : Twin) : Twin := { y with refAt := now, refLost := false }
    let tells (dst kind : Nat) (req : Bool) (d : Dev) : Prop := ∀ q, s.dev.fab.portTo dst = some q → dst ≠ s.dev.node →
      (s.dev.fab.ports.at q).waitU = [] → 18 ≤ (s.dev.fab.ports.at q).avail false →
      ∃ (y : LeaseMsg) (seq : Nat), Out.xason dst q (.lease kind req (x.role == .active) y) seq e.qns ∈ d.host.out
        ∧ y.src = BitVec.ofNat 16 s.dev.node ∧ y.epoch = BitVec.ofNat 32 d.twin.epoch ∧ y.stamp = BitVec.ofNat 64 e.qns
    let possible : Prop := x.refLost = false ∧ s.dev.servingRef ≠ none ∧ x.swap = none
    (let sound : Prop := ∀ u ∈ s.dev.unitsOn, s.dev.ust u = .fault →
        (s.dev.us u).reason ≠ 0x0C03 ∧ (s.dev.us u).reason ≠ 0x0C09
      let sends : Prop := s.dev.isTwin = true ∧ good = true ∧ sound
        ∧ ∀ a, x.beatAt = some a → a + 4000000 ≤ now
      (¬ sends → Runs (.heartbeatSend t good) s fun d => d = e)
      ∧ (sends → Runs (.heartbeatSend t good) s fun d =>
        Dev.Sent { e with twin := { x with beatAt := some now } } d
        ∧ ∀ r, s.dev.servingRef = some r → tells r 0 true d))
    ∧ (¬ own → ∀ i ∈ [Instr.renew t m, .grant t m, .rejoinOk t m, .claimOk t m, .swapRefused t m],
      Runs i s fun d => e.Took d)
    ∧ (own →
      (x.role = .active → m.epoch.toNat = x.epoch → Runs (.renew t m) s fun d =>
        Dev.Took { e with twin := heard { x with expires := some m.expires.toNat, expired := false } } d)
      ∧ (x.role = .active → m.epoch.toNat ≠ x.epoch → Runs (.renew t m) s fun d => e.Took d)
      ∧ (x.role ≠ .active → Runs (.renew t m) s fun d => Dev.Took { e with twin := heard x } d)
      ∧ (m.epoch.toNat ≤ x.epoch → Runs (.grant t m) s fun d => e.Took d)
      ∧ (x.epoch < m.epoch.toNat →
        let takes : Prop := x.role = .lined ∨ (x.role = .unlined ∧ m.epoch.toNat = 1)
        (x.role = .active → Runs (.grant t m) s fun d => ∃ k, e.Took k
          ∧ Dev.Reports { k with twin := heard { x with
            epoch := m.epoch.toNat, expires := some m.expires.toNat, expired := false } } uNODE 0x1003 none d)
        ∧ (¬ takes → x.role ≠ .active → Runs (.grant t m) s fun d =>
          Dev.Took { e with twin := { heard x with epoch := m.epoch.toNat } } d
          ∧ ∀ r, s.dev.servingRef = some r → tells r 3 false d)
        ∧ (takes → Runs (.grant t m) s fun d =>
          d.twin.role = .active ∧ d.twin.epoch = m.epoch.toNat ∧ d.twin.expires = some m.expires.toNat
          ∧ d.twin.paired = (x.paired || x.met) ∧ d.twin.expired = false ∧ d.twin.swap = none
          ∧ d.pins = { s.dev.pins with active := true }
          ∧ (x.swap = none → e.Heard uNODE 0x1003 none d)
          ∧ (x.swap = none → s.dev.eng.sessionWait = false → d.jobs = s.dev.jobs ∧ d.eng = s.dev.eng)
          ∧ (s.dev.eng.st = .engaged → ∀ a, a < 24 → s.dev.has .axis a = true → s.dev.cfgN .axis a .MODE ≠ 4 →
            s.dev.ust (uid cAXIS a) ≠ .fault → s.dev.ust (uid cAXIS a) ≠ .fenced →
            (d.axis.at a).on = true ∧ (d.axis.at a).safe = false)))
      ∧ (x.role ≠ .fenced ∨ s.dev.pins.fenceLow = true → Runs (.rejoinOk t m) s fun d => e.Took d)
      ∧ (x.role = .fenced → s.dev.pins.fenceLow = false → Runs (.rejoinOk t m) s fun d =>
        d.twin.role = .unlined ∧ d.twin.fenceKind = none ∧ d.twin.snapped = false ∧ d.twin.epoch = x.epoch
        ∧ d.twin.resyncAt = (if s.dev.lpUp then some now else none) ∧ d.pins = s.dev.pins ∧ d.axis = s.dev.axis)
      ∧ (Runs (.claimOk t m) s fun d => ∃ k, e.Took k
        ∧ Dev.Reports { k with twin := heard { x with refRank := m.rank.toNat } } uNODE 0x100A none d)
      ∧ (x.swap = none → Runs (.swapRefused t m) s fun d => Dev.Took { e with twin := heard x } d)
      ∧ (s.dev.temp.swapAt = none →
        (x.swap = some none → Runs (.swapRefused t m) s fun d => ∃ k, e.Took k
          ∧ Dev.Reports { k with twin := heard { x with swap := none } } uNODE 0x100D none d)
        ∧ ∀ slot, x.swap = some (some slot) → s.dev.tkt slot ≠ none → Runs (.swapRefused t m) s fun d =>
          e.Completes slot 1 0x100D d ∧ d.twin.swap = none ∧ d.twin.role = x.role))
    ∧ (let due : Prop := x.role = .active ∧ x.expired = false ∧ ∃ y, x.expires = some y ∧ y ≤ e.qns
      (¬ due → Runs (.leaseExpired t) s fun d => d = e)
      ∧ (due → Runs (.leaseExpired t) s fun d =>
        Dev.Reports (Dev.bump uNODE .LEASE_EXPIRIES 1 { e with twin := { x with expired := true } }) uNODE 0x1005 none d))
    ∧ (let asks : Prop := s.dev.bankUp .control = true ∧ s.dev.isTwin = true ∧ x.role = .active ∧ 10 ≤ ms ∧ s.dev.cfgB .twin 0 .SWAP_PIN_EN = true
      (¬ asks → Runs (.swapReqPin t ms) s fun d => d = e)
      ∧ (asks → possible → Runs (.swapReqPin t ms) s fun d =>
        Dev.Sent { e with twin := { x with swap := some none } } d ∧ ∀ r, s.dev.servingRef = some r → tells r 8 false d)
      ∧ (asks → ¬ possible → Runs (.swapReqPin t ms) s fun d => e.Reports uNODE 0x100D none d))
    ∧ (s.dev.startable 0x0A = none → Runs (.twinSwap t) s fun d => d = e)
    ∧ (∀ k : Tkt, s.dev.startable 0x0A = some k → s.dev.eng.st = .engaged → s.dev.isTwin = true →
      let dst := tf k.entry 143 128
      let active := if x.role = .active then s.dev.node else s.dev.partner
      let ends (outcome reason : Nat) : Prop := Runs (.twinSwap t) s fun d => e.Completes k.slot outcome reason d
      let waits := { e.start k with twin := { x with swap := some (some k.slot) } }
      (dst ≠ s.dev.node → dst ≠ s.dev.partner → ends 1 0x100D)
      ∧ (dst = s.dev.node ∨ dst = s.dev.partner →
        (dst = active → ends 2 0)
        ∧ (dst ≠ active → x.swap ≠ none → ends 1 0x100D)
        ∧ (dst ≠ active → x.swap = none →
          (x.role = .active → possible → Runs (.twinSwap t) s fun d =>
            waits.Sent d ∧ ∀ r, s.dev.servingRef = some r → tells r 8 false d)
          ∧ (x.role = .active → ¬ possible → ends 1 0x100D)
          ∧ (x.role ≠ .active → x.outcomes.get? (k.slot % 65536) = none → Runs (.twinSwap t) s fun d => d = waits)
          ∧ (x.role ≠ .active → ∀ o, x.outcomes.get? (k.slot % 65536) = some o → ends o (if o = 1 then 0x100D else 0)))))
    ∧ (let mine : Prop := s.dev.isTwin = true ∧ x.epoch ≤ w.epoch.toNat
      let y := { x with fenceKind := some w.kind.toNat }
      let ended := { y with swap := none }
      (¬ mine → Runs (.fence t w) s fun d => e.Took d)
      ∧ (mine →
        (x.swap = none → Runs (.fence t w) s fun d => Dev.Took { e with twin := y } d)
        ∧ (x.swap = some none → w.kind = 1 → Runs (.fence t w) s fun d => ∃ k, e.Took k
          ∧ Dev.Reports { k with twin := ended, temp := { e.temp with swapAt := none } } uNODE 0x100E none d)
        ∧ (x.swap = some none → w.kind ≠ 1 → s.dev.temp.swapAt = none → Runs (.fence t w) s fun d => ∃ k, e.Took k
          ∧ Dev.Reports { k with twin := ended } uNODE 0x100D none d)
        ∧ ∀ slot, x.swap = some (some slot) → s.dev.tkt slot ≠ none →
          (w.kind = 1 → Runs (.fence t w) s fun d => e.Completes slot 0 0 d ∧ d.twin.swap = none)
          ∧ (w.kind ≠ 1 → s.dev.temp.swapAt = none → Runs (.fence t w) s fun d =>
            e.Completes slot 1 0x100D d ∧ d.twin.swap = none)))
    ∧ (let e := s.dev.enter t 2
      let held : Prop := s.dev.bankUp .control = false ∨ x.role = .fenced
      (Runs (.fenceN t true) s fun d => d = { e with pins := { e.pins with fenceLow := false } })
      ∧ (held → Runs (.fenceN t false) s fun d => d = { e with pins := { e.pins with fenceLow := true } })
      ∧ (¬ held → Runs (.fenceN t false) s fun d =>
        d.twin.role = .fenced ∧ d.pins = { s.dev.pins with fenceLow := true, active := false, ready := false }
        ∧ d.eng.st ≠ .engaged ∧ d.eng.st ≠ .disengaging
        ∧ (∀ i, i < 24 → s.dev.has .axis i = true → (d.axis.at i).on = false ∧ (d.axis.at i).safe = true)
        ∧ (∀ i, i < 16 → s.dev.has .step i = true → (d.step.at i).on = false ∧ (d.step.at i).safe = true)
        ∧ (∀ i, i < 16 → s.dev.has .clko i = true → (d.clko.at i).run = false)
        ∧ ((s.dev.jobs.pages.map (·.order)).Nodup → ∀ p ∈ s.dev.jobs.pages, p.state = .marking →
          ∀ q ∈ d.jobs.pages, q.order = p.order → q.abortAt.isSome = true)))
    ∧ (let silent : Prop := s.dev.isTwin = true ∧ (x.role = .active →
        x.refAt + 4000000 * s.dev.cfgN .twin 0 .REF_LOST_MS ≤ now)
      let lost := { e with twin := { x with refLost := true } }
      (¬ silent → Runs (.refereeLost t) s fun d => d = e)
      ∧ (silent → x.refLost = false → Runs (.refereeLost t) s fun d => lost.Reports uNODE 0x1009 none d)
      ∧ (silent → x.refLost = true → x.role ≠ .active → Runs (.refereeLost t) s fun d => d = e)
      ∧ (silent → x.refLost = true → x.role = .active → Runs (.refereeLost t) s fun d => e.Sent d)
      ∧ (silent → x.role = .active → ∀ k, s.dev.nextRef = some k → Runs (.refereeLost t) s fun d =>
        tells (s.dev.refs.getD k 0) 6 true d))

/-- Each of the six completes. PAIR brings the partner's identity; with REQ an active twin streams a snapshot and
serves, and reports 0x1012 where its standby was lined, and another twin remembers it; the first PAIR starts the
resynchronisation of an unlined standby. A standby takes a lining frame of an epoch not older than its own only as
the next in order; one that follows a snapshot is unlined by a frame out of order, by a delta later than
LINING_LAG_US and by LINING_LAG_EXCEEDED, with outputs off and 0x1006 where it was lined. A frame in order is
applied where a snapshot is or was: each entry gives its own part of the state, the drives' duties only while the
standby is lined and the unit drives; an aborted page of the active is aborted. It is lined once a snapshot is whole
and every station that marks has sent since, and drives its actuators with the duties of the lining from then on. A
resynchronisation over 2 s restarts with 0x1008; a mirror not refreshed for HOLD_MAX_MS turns outputs off with
0x100F. The partner's outcome of a ticket that differs from the own one is reported with 0x0E19, and a final
completion of it that still waits carries DIVERGED. That the lining's entries come as typed data is log entry 20. A
frame without a part in this changes only what receiving it touches, and nothing is received on a port that is down. -/
def Obligations.TheLiningKeepsAStandbyCurrent : Prop :=
  ∀ (s : State) (t : Nat) (m : PairMsg) (snap : Bool) (f : LiningFrame) (why : LagCause),
    let e := s.dev.enter t 7
    let x := s.dev.twin
    let now := e.clk.now
    let twin : Prop := s.dev.isTwin = true
    let up : Prop := s.dev.lpUp = true
    let since : Option Nat := if s.dev.lpUp then some now else none
    let restart (y : Twin) : Twin := { y with
      snapped := false, linSeq := none, sentSince := [], noz := [], unlinedAt := now, resyncAt := since }
    let off (d : Dev) : Prop :=
      (∀ i, i < 24 → s.dev.has .axis i = true → (d.axis.at i).on = false ∧ (d.axis.at i).safe = true)
      ∧ (∀ i, i < 16 → s.dev.has .step i = true → (d.step.at i).on = false ∧ (d.step.at i).safe = true)
      ∧ ∀ i, i < 64 → s.dev.has .loop i = true → (d.loop.at i).out = s.dev.cfg .loop i .SAFE_OUT
    let unlined (d : Dev) : Prop := d.twin.role = .unlined ∧ d.twin.snapped = false ∧ d.twin.linSeq = none
      ∧ d.twin.resyncAt = since ∧ (x.role = .lined → off d ∧ e.Heard uNODE 0x1006 none d)
      ∧ (x.role ≠ .lined → d.axis = s.dev.axis ∧ d.step = s.dev.step ∧ d.units = s.dev.units)
    (let known : Prop := twin ∧ up ∧ m.node.toNat = s.dev.partner
      let paired := x.paired || decide (0 < x.epoch) || decide (0 < m.epoch.toNat)
      let y := { x with
        met := true, alone := false, partnerSerial := m.serial.toNat, partnerCompat := m.liningCompat.toNat
        partnerPairCrc := m.pairCrc.toNat, paired := paired }
      (¬ known → Runs (.pair t m) s fun d => d = e)
      ∧ (known →
        (Runs (.pair t m) s fun d => d.twin.met = true ∧ d.twin.alone = false ∧ d.twin.paired = paired
          ∧ d.twin.partnerSerial = m.serial.toNat ∧ d.twin.partnerPairCrc = m.pairCrc.toNat ∧ d.twin.role = x.role)
        ∧ (x.met = true → m.req = false → Runs (.pair t m) s fun d => Dev.Took { e with twin := y } d)
        ∧ (x.met = true → m.req = true → x.role ≠ .active → Runs (.pair t m) s fun d =>
          Dev.Took { e with twin := { y with partnerReq := true } } d)
        ∧ (x.met = false → m.req = false → Runs (.pair t m) s fun d =>
          Dev.Took { e with twin := if x.role = .unlined then restart y else y } d)
        ∧ (m.req = true → x.role = .active → Runs (.pair t m) s fun d =>
          d.twin.serving = true ∧ d.twin.partnerLined = true ∧ d.twin.partnerReq = false
          ∧ (x.partnerLined = true → e.Heard uNODE 0x1012 none d)
          ∧ (x.partnerLined = false → d.units = s.dev.units))))
    ∧ (let frame (P : Dev → Prop) : Prop :=
        (snap = true → Runs (.liningSnapshot t f) s P) ∧ (snap = false → Runs (.liningDelta t f) s P)
      let beside : Prop := twin ∧ up ∧ f.seq = 0
      (¬ twin ∨ ¬ up → frame fun d => d = e)
      ∧ (beside → (∀ l v, f.entry ≠ .partnerLane l v) → (∀ k o, f.entry ≠ .ticket k o) → (∀ l n, f.entry ≠ .seq l n) →
        frame fun d => e.Took d)
      ∧ (∀ l next, beside → f.entry = .seq l next → frame fun d =>
        let took := s.dev.lane.upd l.val fun z => { z with seq := next.toNat }
        Dev.Took { e with lane := if seqAfter next.toNat (s.dev.lane.at l).seq then took else s.dev.lane } d)
      ∧ (∀ l v, beside → f.entry = .partnerLane l v → frame fun d =>
        let was := s.dev.lane.at l
        let takes : Prop := v = true ∧ was.up = false ∧ was.wasDown = true ∧ was.viaPartner = false
        (d.lane.at l).partnerUp = v ∧ ((d.lane.at l).viaPartner = true ↔ (v = true ∧ was.viaPartner = true) ∨ takes)
        ∧ (takes → e.Heard (uid cLANE l) 0x0612 none d) ∧ (¬ takes → d.units = s.dev.units)
        ∧ d.twin = x ∧ ∀ j, j ≠ l.val → d.lane.at j = s.dev.lane.at j)
      ∧ (∀ k o, beside → f.entry = .ticket k o →
        let k := k.toNat
        (∀ own, x.myOutcomes.get? k = some own →
          let y := { x with myOutcomes := x.myOutcomes.del k }
          (own = o.toNat → frame fun d => Dev.Took { e with twin := y } d)
          ∧ (own ≠ o.toNat → frame fun d => (∃ n, e.Took n ∧ Dev.Reports { n with twin := y } uNODE 0x0E19 none d)
            ∧ ∀ c ∈ d.host.keptCq, c.slot % 65536 = k → bit c.flags fFINAL = true → bit c.flags fDIVERGED = true))
        ∧ (x.myOutcomes.get? k = none → x.swap = none → frame fun d =>
          Dev.Took { e with twin := { x with outcomes := x.outcomes.set k o.toNat } } d))
      ∧ (twin → up → f.seq ≠ 0 →
        let old : Prop := x.role = .active ∨ x.role = .fenced ∨ f.epoch.toNat < x.epoch
        let inOrder : Prop := x.linSeq = some f.seq.toNat ∨ (x.linSeq = none ∧ snap = true ∧ x.snapped = false)
        let y := { x with paired := x.paired || x.met, epoch := f.epoch.toNat }
        let lag := (e.qns - f.stamp.toNat) / 4
        let late : Prop := snap = false ∧ 1000 * s.dev.cfgN .twin 0 .LINING_LAG_US < lag
        (old → frame fun d => e.Took d)
        ∧ (¬ old → ¬ inOrder → x.snapped = false → frame fun d =>
          Dev.Took { e with twin := { y with linSeq := some 0 } } d)
        ∧ (¬ old → ¬ inOrder → x.snapped = true → frame fun d => unlined d)
        ∧ (¬ old → inOrder → late → frame fun d => unlined d ∧ d.twin.linLag = lag)
        ∧ (¬ old → inOrder → ¬ late →
          let whole : Bool := x.snapped || (snap && f.last)
          let sent (n : Nat) : Prop := n ∈ (if snap && f.last then [] else x.sentSince)
          let lines : Prop := whole = true ∧ ∀ n ∈ s.dev.stations, s.dev.marking n ≠ none → sent n
          let drives (u : Nat) : Prop := s.dev.eng.st = .engaged ∧ s.dev.ust u ≠ .fault ∧ s.dev.ust u ≠ .fenced
          let live (u : Nat) : Prop := x.role = .lined ∧ drives u
          (frame fun d =>
            d.twin.linSeq = some (nextSeq f.seq.toNat) ∧ d.twin.epoch = f.epoch.toNat ∧ d.twin.paired = (x.paired || x.met)
            ∧ (snap = false → d.twin.linLag = lag) ∧ d.twin.snapped = whole
            ∧ (x.role = .unlined → (lines → d.twin.role = .lined
                ∧ d.ctrAt uNODE .RESYNCS = s.dev.ctrAt uNODE .RESYNCS + 1
                ∧ ∀ i, i < 32 → s.dev.has .act i = true → drives (uid cACT i) → ∀ duty, (d.act.at i).mirror = some duty →
                  (d.act.at i).duty = duty) ∧ (¬ lines → d.twin.role = .unlined))
            ∧ (x.role = .lined → d.twin.role = .lined))
          ∧ (snap = false → x.snapped = false → ¬ lines → frame fun d =>
            Dev.Took { e with twin := { y with linSeq := some (nextSeq f.seq.toNat), linLag := lag } } d)
          ∧ (snap = true ∨ x.snapped = true → frame fun d =>
            match f.entry with
            | .engagement st session =>
              let runs : Bool := st.toNat == EngState.engaged.code
              if s.dev.eng.st = .engaged then
                d.eng = { s.dev.eng with session := session, sessionWait := s.dev.eng.sessionWait && !runs }
              else d.eng = { s.dev.eng with session := session, sessionNew := runs }
            | .page job page st aborted => (job.toNat, page.toNat, st.toNat) ∈ d.twin.pages
              ∧ (aborted = false → d.jobs = s.dev.jobs ∧ d.twin.aborts = x.aborts)
              ∧ (aborted = true → d.twin.aborts = (job.toNat, page.toNat) :: x.aborts)
              ∧ (aborted = true → (s.dev.jobs.pages.map (·.order)).Nodup → ∀ p ∈ s.dev.jobs.pages, ∃ q ∈ d.jobs.pages,
                q.order = p.order ∧ q.state = p.state ∧ q.abortAt.isSome = (p.abortAt.isSome
                  || (p.job == job.toNat && p.id == page.toNat && p.state == .marking)))
            | .job job mask isOpen =>
              let fresh := snap && isOpen && (s.dev.jobs.isOpen.get? job.toNat).isNone
                && !s.dev.jobs.closed.contains job.toNat
              d.jobs = if fresh then { s.dev.jobs with isOpen := s.dev.jobs.isOpen.set job.toNat mask.toNat } else s.dev.jobs
            | .binding job page n le =>
              ∀ p, s.dev.pageJ job.toNat page.toNat = some p → ∀ q ∈ d.jobs.pages, q.order = p.order →
                (s.dev.jobs.pages.map (·.order)).Nodup → (q.stn.at n).le = (p.stn.at n).le.map fun _ => le
            | .ticket _ _ => d.axis = s.dev.axis
            | .placement n le gg p glides => d.stn = s.dev.stn.upd n.val fun z => { z with
                leLast := some le, g := gg, pReg := p
                glides := if z.glides.length = glides.length then
                    z.glides.zipWith (fun a b => { a with rem := b.1, slope := b.2 }) glides
                  else z.glides }
            | .seq l next => d.lane = if snap then s.dev.lane.upd l.val fun z => { z with seq := next.toNat } else s.dev.lane
            | .nozzle l z st => d.twin.noz.get? (l.val * 4096 + z.toNat) = some st.toNat
            | .ledger _ _ _ _ _ => d.stn = s.dev.stn ∧ d.jobs = s.dev.jobs
            | .axis a l =>
              let z := d.axis.at a
              let was := s.dev.axis.at a
              let w := d.prof.at (uid cAXIS a)
              z.intD = l.intD ∧ z.intQ = l.intQ ∧ z.iW = l.iW ∧ z.wR = l.wR ∧ z.zero = l.zero ∧ z.cnt = l.cnt ∧ z.cntAt = l.cntAt
              ∧ (∀ n, l.z = some n → (d.enc.at (s.dev.cfgN .axis a .ENC)).z = some n) ∧ (l.z = none → d.enc.at (s.dev.cfgN .axis a .ENC) = s.dev.enc.at (s.dev.cfgN .axis a .ENC))
              ∧ w.p = l.p ∧ w.v = l.v ∧ w.tgt = l.tgt
              ∧ (live (uid cAXIS a) → z.du = l.du ∧ z.dv = l.dv ∧ z.dw = l.dw ∧ z.on = l.on ∧ z.safe = l.safe ∧ z.trip = l.trip
                ∧ (z.wu, z.wv, z.ww) = e.axisDuties a ∧ z.dutyAt = e.pwmBoundary a)
              ∧ (¬ live (uid cAXIS a) → z.du = was.du ∧ z.dv = was.dv ∧ z.dw = was.dw ∧ z.on = was.on ∧ z.safe = was.safe)
              ∧ ∀ j, j ≠ a.val → d.axis.at j = s.dev.axis.at j
            | .stepper i l =>
              let z := d.step.at i
              let was := s.dev.step.at i
              let w := d.prof.at (uid cSTEP i)
              z.icA = l.icA ∧ z.icB = l.icB ∧ w.p = l.p ∧ w.v = l.v ∧ w.tgt = l.tgt
              ∧ z.count0 = l.count0 ∧ z.stallHold = l.stallHold ∧ z.held = l.heldFor.map (now - ·)
              ∧ (live (uid cSTEP i) → z.da = l.da ∧ z.db = l.db ∧ z.sgA = l.sgA ∧ z.sgB = l.sgB ∧ z.fastA = l.fastA
                ∧ z.fastB = l.fastB ∧ z.on = l.on ∧ (z.wasA, z.wasB) = e.bridges i ∧ z.dutyAt = e.chopBoundary i)
              ∧ (¬ live (uid cSTEP i) → z.da = was.da ∧ z.db = was.db ∧ z.on = was.on)
            | .loop i l =>
              d.loop = s.dev.loop.upd i.val fun z => { z with
                r := l.r, target := l.target, iAcc := l.iAcc, dAcc := l.dAcc, u1 := l.u1, u2 := l.u2, v1 := l.v1, v2 := l.v2
                yPrev := l.yPrev, out := l.out, satAt := l.satFor.map (now - ·)
                satWin := l.satWin.map (now - ·), holdAt := l.holdFor.map (now - ·)
                charge := l.charge.map fun c => { (z.charge.getD {}) with
                  job := c.job.toNat, page := c.page.toNat, charge := c.charge, samples := c.samples
                  stn := s.dev.cfgN .loop i .CHARGE_STN } }
            | .act i duty =>
              (d.act.at i).mirror = some duty ∧ (live (uid cACT i) → (d.act.at i).duty = duty)
              ∧ (x.role = .lined ∨ ¬ lines → ¬ live (uid cACT i) →
                d.act = s.dev.act.upd i.val fun z => { z with mirror := some duty })
            | .lamp i l =>
              (d.lamp.at i).debt = l.debt ∧ (d.lamp.at i).k = l.k ∧ (d.lamp.at i).opens = l.opens
              ∧ (d.lamp.at i).deferred = l.deferred ∧ (d.lamp.at i).brimK = l.brimK
              ∧ (live (uid cLAMP i) → (d.lamp.at i).on = l.on)
              ∧ (¬ live (uid cLAMP i) → (d.lamp.at i).on = (s.dev.lamp.at i).on)
            | .calibration gen _ => gen.toNat = s.dev.cal.gen → d.cal = s.dev.cal
            | .partnerLane l v => (d.lane.at l).partnerUp = v)))
      ∧ (let follows : Prop := twin ∧ (x.role = .lined ∨ (x.role = .unlined ∧ x.snapped = true))
        (¬ follows → Runs (.liningLagExceeded t why) s fun d => d = e)
        ∧ (follows → Runs (.liningLagExceeded t why) s fun d => unlined d))
      ∧ (let due : Prop := x.role = .unlined ∧ ∃ a, x.resyncAt = some a ∧ a + 4000000 * 2000 ≤ now
        (¬ due → Runs (.resyncTimeout t) s fun d => d = e)
        ∧ (due → Runs (.resyncTimeout t) s fun d => Dev.Reports { e with twin := restart x } uNODE 0x1008 none d))
      ∧ (let due : Prop := twin ∧ x.role = .lined ∧ x.mirrorStale = false
          ∧ x.mirrorAt + 4000000 * s.dev.cfgN .twin 0 .HOLD_MAX_MS ≤ now
        (¬ due → Runs (.mirrorHoldExpired t) s fun d => d = e)
        ∧ (due → Runs (.mirrorHoldExpired t) s fun d =>
          off d ∧ d.twin = { x with mirrorStale := true } ∧ e.Heard uNODE 0x100F none d
          ∧ d.ctrAt uNODE .HOLD_EXPIRIES = s.dev.ctrAt uNODE .HOLD_EXPIRIES + 1)))

/-- For every state whose flash devices and plane memory have their canonical form, whose completion and event numbers
lie from 1 to 0xFFFF_FFFF, and whose pages have different orders of fetch, all below the next: every step answers a
next state of which the same holds. That the state after reset is such a state is part of
ResetHoldsTheDefaultsOfTheRegisters. -/
def Obligations.EveryStepKeepsTheDeviceSound : Prop :=
  ∀ (s s' : State), s.dev.Sound → step s = .next s' → s'.dev.Sound

/-- Whatever the state and the command: the instant of the device never goes back, nor does the count of open values
(the model's own, log entries 1 and 11); a KEY_HASH that is programmed stays, and ENFORCE that is set stays. And
only the commands listed with each of them change the pins, the boot state with flash, fuses and AON but for
BOOT_REASON, the domains, the PLLs, the clock outputs, the calibration, the encoder counts, axes, steppers,
profiles, loops, actuators, lamps, analog inputs, and a referee's pairs. -/
def Obligations.StateChangesOnlyByItsOwnCommands : Prop :=
  ∀ (i : Instr) (s : State), Runs i s fun d =>
      s.dev.clk.now ≤ d.clk.now ∧ s.dev.free ≤ d.free
      ∧ (s.dev.boot.keyHash ≠ 0 → d.boot.keyHash = s.dev.boot.keyHash)
      ∧ (s.dev.boot.enforce = true → d.boot.enforce = true)
      ∧ (match i with
        | .brownout .. | .diodeConversion .. | .engagePinFall .. | .engagePinRise .. | .eventAck ..
          | .fenceN .. | .grant .. | .heartbeat .. | .imageLoadDone .. | .ioBankSupplyGood ..
          | .leaseTimeout .. | .pllLockAttemptFail .. | .ready .. | .registerWrite .. | .rejoinReq ..
          | .rstN .. | .spineRelease .. | .supplyLoss .. | .swapReq .. => True
        | _ => d.pins = s.dev.pins)
      ∧ (match i with
        | .brimAudit .. | .brownout .. | .calBufferReadDone .. | .calCommitTimeout .. | .calStoreWriteDone ..
          | .diodeConversion .. | .domainStep .. | .eventAck .. | .fuseProgramming .. | .imageLoadDone ..
          | .liningDelta .. | .liningSnapshot .. | .pllLock .. | .pllLockAttemptFail .. | .ready ..
          | .registerWrite .. | .rstN .. | .rundownStart .. | .scratchWrite .. | .spineRelease ..
          | .stageBufferReadDone .. | .stageFlashOpDone .. | .stageImage .. | .supplyLoss ..
          | .vstbyApplied .. | .vstbyLost .. | .wakeRequest .. => True
        | _ => { d.boot with reason := s.dev.boot.reason } = s.dev.boot)
      ∧ (match i with
        | .brownout .. | .diodeConversion .. | .domainGoodTimeout .. | .domainLost .. | .domainStep ..
          | .eventAck .. | .gauntletDone .. | .imageLoadDone .. | .registerWrite .. | .rstN ..
          | .spineRelease .. | .supplyLoss .. | .tcritDomainOff .. => True
        | _ => d.dom = s.dev.dom)
      ∧ (match i with
        | .brimAudit .. | .brownout .. | .domainLost .. | .encFault .. | .gauntletDone .. | .holdoverTick ..
          | .latticeStamp .. | .overspeed .. | .pllHandover .. | .pllLock .. | .pllRefLost ..
          | .pllRefReturn .. | .pllUnlock .. | .ppllFollow .. | .quadError .. | .rstN .. | .sosEdge ..
          | .sosWindowTimeout .. | .ssiWord .. | .supplyLoss .. | .tcritDomainOff .. => True
        | _ => d.pll = s.dev.pll)
      ∧ (match i with
        | .axisRest .. | .brownout .. | .domainLost .. | .fenceN .. | .gauntletDone .. | .imageLoadDone ..
          | .ioBankSupplyGood .. | .pllHandover .. | .pllLock .. | .ready .. | .rstN .. | .rundownStart ..
          | .stopTimeout .. | .supplyLoss .. => True
        | _ => d.clko = s.dev.clko)
      ∧ (match i with
        | .axisRest .. | .brimAudit .. | .brownout .. | .cal .. | .calBufferReadDone ..
          | .calCommitTimeout .. | .calStoreWriteDone .. | .engageDoorbell .. | .engagePinRise ..
          | .fenceN .. | .imageLoadDone .. | .ioBankSupplyGood .. | .liningDelta .. | .liningSnapshot ..
          | .registerWrite .. | .rstN .. | .rundownStart .. | .stopTimeout .. | .supplyLoss .. => True
        | _ => d.cal = s.dev.cal)
      ∧ (match i with
        | .brownout .. | .currentLoop .. | .encFault .. | .encZEdge .. | .gauntletDone .. | .latticeStamp ..
          | .liningDelta .. | .liningSnapshot .. | .loopExecution .. | .pllRefReturn .. | .rstN ..
          | .ssiWord .. | .stepperPhaseLoop .. | .supplyLoss .. => True
        | _ => d.enc = s.dev.enc)
      ∧ (match i with
        | .adcConversion .. | .alignDone .. | .auditPeriod .. | .axisOvercurrent .. | .axisRest ..
          | .brimAudit .. | .brownout .. | .currentLoop .. | .curveSample .. | .diodeConversion ..
          | .domainLost .. | .encFault .. | .fenceN .. | .followingError .. | .gauntletDone .. | .grant ..
          | .hallEdge .. | .imageLoadDone .. | .ioBankSupplyGood .. | .liningDelta .. | .liningLagExceeded ..
          | .liningSnapshot .. | .mirrorHoldExpired .. | .rstN .. | .rundownStart .. | .sdmLost ..
          | .sosEdge .. | .sosWindowTimeout .. | .ssiWord .. | .stopTimeout .. | .supplyLoss ..
          | .xportLinkDown .. => True
        | _ => d.axis = s.dev.axis)
      ∧ (match i with
        | .adcConversion .. | .auditPeriod .. | .axisRest .. | .brimAudit .. | .brownout .. | .coilOpen ..
          | .diodeConversion .. | .domainLost .. | .eventAck .. | .fenceN .. | .gauntletDone .. | .grant ..
          | .holdCurrentDelay .. | .imageLoadDone .. | .ioBankSupplyGood .. | .liningDelta ..
          | .liningLagExceeded .. | .liningSnapshot .. | .mirrorHoldExpired .. | .registerWrite .. | .rstN ..
          | .stall .. | .stepZeroCapture .. | .stepperOvercurrent .. | .stepperPhaseLoop .. | .stopTimeout ..
          | .supplyLoss .. | .xportLinkDown .. => True
        | _ => d.step = s.dev.step)
      ∧ (match i with
        | .brownout .. | .eventAck .. | .gauntletDone .. | .liningDelta .. | .liningSnapshot ..
          | .profileTick .. | .registerWrite .. | .rstN .. | .stall .. | .supplyLoss .. => True
        | _ => d.prof = s.dev.prof)
      ∧ (match i with
        | .adcConversion .. | .auditPeriod .. | .axisRest .. | .brimAudit .. | .brownout ..
          | .diodeConversion .. | .domainLost .. | .fenceN .. | .gauntletDone .. | .imageLoadDone ..
          | .ioBankSupplyGood .. | .liningDelta .. | .liningLagExceeded .. | .liningSnapshot ..
          | .loopExecution .. | .mirrorHoldExpired .. | .rstN .. | .rundownStart .. | .saturationFinding ..
          | .sourceHoldTimeout .. | .stopTimeout .. | .supplyLoss .. | .visorEnd .. | .visorLatch ..
          | .visorTimeout .. | .xportLinkDown .. => True
        | _ => d.loop = s.dev.loop)
      ∧ (match i with
        | .adcConversion .. | .auditPeriod .. | .axisRest .. | .brimAudit .. | .brownout ..
          | .diodeConversion .. | .domainLost .. | .fenceN .. | .gauntletDone .. | .grant ..
          | .imageLoadDone .. | .ioBankSupplyGood .. | .liningDelta .. | .liningLagExceeded ..
          | .liningSnapshot .. | .loopExecution .. | .mirrorHoldExpired .. | .rstN .. | .rundownStart ..
          | .saturationFinding .. | .sourceHoldTimeout .. | .stopTimeout .. | .supplyLoss ..
          | .xportLinkDown .. => True
        | _ => d.act = s.dev.act)
      ∧ (match i with
        | .adcConversion .. | .auditPeriod .. | .axisRest .. | .brimAudit .. | .brownout ..
          | .diodeConversion .. | .domainLost .. | .fenceN .. | .gauntletDone .. | .grant ..
          | .imageLoadDone .. | .ioBankSupplyGood .. | .lampOvercurrent .. | .lampPeriod .. | .liningDelta ..
          | .liningLagExceeded .. | .liningSnapshot .. | .loopExecution .. | .mirrorHoldExpired .. | .rstN ..
          | .rundownStart .. | .saturationFinding .. | .sourceHoldTimeout .. | .stopTimeout ..
          | .supplyLoss .. | .xportLinkDown .. => True
        | _ => d.lamp = s.dev.lamp)
      ∧ (match i with
        | .adcConversion .. | .brownout .. | .rstN .. | .supplyLoss .. => True
        | _ => d.ain = s.dev.ain)
      ∧ (match i with
        | .brownout .. | .claim .. | .fenceReadback .. | .grantRefused .. | .heartbeat .. | .leaseTimeout ..
          | .rejoinReq .. | .rstN .. | .supplyLoss .. | .swapReq .. => True
        | _ => d.ref = s.dev.ref)
end

