-- ==== Sys2Proof/Laws/Tables.lean ====
section
/-! SUPPORT. Laws of the keyed tables and of the byte memories: a read after a write, a write elsewhere, and the
canonical form of a memory under every operation on it. -/

namespace Sys2Proof.Machine

@[simp] theorem Tbl.getD_set_same {α : Type} (x₀ : α) (t : Tbl α) (i : Nat) (x : α) : (t.set i x).getD x₀ i = x := by
  induction t with
  | nil => simp [Tbl.set, Tbl.getD]
  | cons p t ih =>
    obtain ⟨k, v⟩ := p
    simp only [Tbl.set]
    split
    · simp [Tbl.getD, *]
    · split <;> simp [Tbl.getD, *]

theorem Tbl.getD_set_ne {α : Type} (x₀ : α) (t : Tbl α) {i j : Nat} (x : α) (h : j ≠ i) :
    (t.set i x).getD x₀ j = t.getD x₀ j := by
  induction t with
  | nil => simp [Tbl.set, Tbl.getD, h]
  | cons p t ih =>
    obtain ⟨k, v⟩ := p
    simp only [Tbl.set]
    split
    · rename_i hk
      subst hk
      simp [Tbl.getD, h]
    · split
      · simp [Tbl.getD, h]
      · simp [Tbl.getD, ih]

@[simp] theorem Tbl.at_nil {α : Type} [Inhabited α] (i : Nat) : Tbl.at ([] : Tbl α) i = default := rfl

@[simp] theorem Tbl.at_set_same {α : Type} [Inhabited α] (t : Tbl α) (i : Nat) (x : α) : (t.set i x).at i = x :=
  Tbl.getD_set_same default t i x

@[simp] theorem Tbl.at_set_ne {α : Type} [Inhabited α] (t : Tbl α) {i j : Nat} (x : α) (h : j ≠ i) :
    (t.set i x).at j = t.at j := Tbl.getD_set_ne default t x h

@[simp] theorem Tbl.at_upd_same {α : Type} [Inhabited α] (t : Tbl α) (i : Nat) (f : α → α) :
    (t.upd i f).at i = f (t.at i) := Tbl.at_set_same t i _

@[simp] theorem Tbl.at_upd_ne {α : Type} [Inhabited α] (t : Tbl α) {i j : Nat} (f : α → α) (h : j ≠ i) :
    (t.upd i f).at j = t.at j := Tbl.at_set_ne t _ h

@[simp] theorem Tbl.get?_set_same {α : Type} (t : Tbl α) (i : Nat) (x : α) : (t.set i x).get? i = some x := by
  induction t with
  | nil => simp [Tbl.set, Tbl.get?]
  | cons p t ih =>
    obtain ⟨k, v⟩ := p
    simp only [Tbl.set]
    split
    · simp [Tbl.get?, *]
    · split <;> simp [Tbl.get?, *]

theorem Tbl.get?_set_ne {α : Type} (t : Tbl α) {i j : Nat} (x : α) (h : j ≠ i) : (t.set i x).get? j = t.get? j := by
  induction t with
  | nil => simp [Tbl.set, Tbl.get?, h]
  | cons p t ih =>
    obtain ⟨k, v⟩ := p
    simp only [Tbl.set]
    split
    · rename_i hk
      subst hk
      simp [Tbl.get?, h]
    · split
      · simp [Tbl.get?, h]
      · simp [Tbl.get?, ih]

@[simp] theorem Tbl.get?_del_same {α : Type} (t : Tbl α) (i : Nat) : (t.del i).get? i = none := by
  induction t with
  | nil => rfl
  | cons p t ih =>
    obtain ⟨k, v⟩ := p
    simp only [Tbl.del, List.filter_cons]
    by_cases h : k = i
    · simpa [h, Tbl.del] using ih
    · have h' : ¬ i = k := fun e => h e.symm
      simpa [h, Tbl.get?, h', Tbl.del] using ih

/-- A cell of a canonical memory is above every cell before it. -/
theorem Mem.wf_cons {d : Byte} {k : Nat} {v : Byte} {m : Mem} :
    Mem.wf d ((k, v) :: m) = true ↔ v ≠ d ∧ (∀ c ∈ m, k < c.1) ∧ Mem.wf d m = true := by
  induction m generalizing k v with
  | nil => simp [Mem.wf]
  | cons p m ih =>
    obtain ⟨k', v'⟩ := p
    simp only [Mem.wf, Bool.and_eq_true, bne_iff_ne, decide_eq_true_eq, ih, List.mem_cons]
    constructor
    · rintro ⟨⟨h1, h2⟩, h3, h4, h5⟩
      refine ⟨h1, ?_, h3, h4, h5⟩
      rintro c (rfl | hc)
      · exact h2
      · exact Nat.lt_trans h2 (h4 c hc)
    · rintro ⟨h1, h2, h3, h4, h5⟩
      exact ⟨⟨h1, h2 _ (Or.inl rfl)⟩, h3, h4, h5⟩

theorem Mem.mem_write {d : Byte} {m : Mem} {a : Nat} {b : Byte} {c : Nat × BitVec 8} (h : c ∈ Mem.write d m a b) :
    c ∈ m ∨ c.1 = a := by
  induction m with
  | nil =>
    simp only [Mem.write] at h
    split at h <;> simp_all
  | cons p m ih =>
    obtain ⟨k, v⟩ := p
    simp only [Mem.write] at h
    split at h
    · split at h
      · exact Or.inl (List.mem_cons_of_mem _ h)
      · rcases List.mem_cons.mp h with rfl | h
        · exact Or.inr rfl
        · exact Or.inl (List.mem_cons_of_mem _ h)
    · split at h
      · split at h
        · exact Or.inl h
        · rcases List.mem_cons.mp h with rfl | h
          · exact Or.inr rfl
          · exact Or.inl h
      · rcases List.mem_cons.mp h with rfl | h
        · exact Or.inl (List.mem_cons_self ..)
        · exact (ih h).imp (List.mem_cons_of_mem _) id

/-- A write keeps the canonical form. -/
theorem Mem.wf_write {d : Byte} {m : Mem} (a : Nat) (b : Byte) (h : Mem.wf d m = true) :
    Mem.wf d (Mem.write d m a b) = true := by
  induction m with
  | nil =>
    simp only [Mem.write]
    split <;> simp_all [Mem.wf]
  | cons p m ih =>
    obtain ⟨k, v⟩ := p
    have ⟨h1, h2, h3⟩ := Mem.wf_cons.mp h
    simp only [Mem.write]
    split
    · rename_i e
      subst e
      split
      · exact h3
      · exact Mem.wf_cons.mpr ⟨by assumption, h2, h3⟩
    · split
      · rename_i lt
        split
        · exact h
        · refine Mem.wf_cons.mpr ⟨by assumption, ?_, h⟩
          intro c hc
          rcases List.mem_cons.mp hc with rfl | hc
          · exact lt
          · exact Nat.lt_trans lt (h2 c hc)
      · refine Mem.wf_cons.mpr ⟨h1, ?_, ih h3⟩
        intro c hc
        rcases Mem.mem_write hc with hc | hc
        · exact h2 c hc
        · omega

/-- Writing a byte string keeps the canonical form. -/
theorem Mem.wf_writeBytes {d : Byte} (bs : List Byte) {m : Mem} (a : Nat) (h : Mem.wf d m = true) :
    Mem.wf d (Mem.writeBytes d m a bs) = true := by
  induction bs generalizing m a with
  | nil => exact h
  | cons b bs ih => exact ih (a + 1) (Mem.wf_write a b h)

theorem Mem.wf_filter {d : Byte} (f : Nat × BitVec 8 → Bool) {m : Mem} (h : Mem.wf d m = true) :
    Mem.wf d (m.filter f) = true := by
  induction m with
  | nil => exact h
  | cons p m ih =>
    obtain ⟨k, v⟩ := p
    have ⟨h1, h2, h3⟩ := Mem.wf_cons.mp h
    simp only [List.filter_cons]
    split
    · exact Mem.wf_cons.mpr ⟨h1, fun c hc => h2 c (List.mem_filter.mp hc).1, ih h3⟩
    · exact ih h3

/-- An erase keeps the canonical form. -/
theorem Mem.wf_erase {d : Byte} {m : Mem} (a n : Nat) (h : Mem.wf d m = true) : Mem.wf d (Mem.erase m a n) = true :=
  Mem.wf_filter _ h

theorem Mem.read_of_above {d : Byte} {m : Mem} {a : Nat} (h : ∀ c ∈ m, a < c.1) : Mem.read d m a = d := by
  induction m with
  | nil => rfl
  | cons p m ih =>
    obtain ⟨k, v⟩ := p
    have hk : a < k := h (k, v) (List.mem_cons_self ..)
    have : ¬ a = k := by omega
    simp only [Mem.read, this, if_false]
    exact ih (fun c hc => h c (List.mem_cons_of_mem _ hc))

/-- A read after a write to the same address gives the byte written. -/
theorem Mem.read_write_same {d : Byte} {m : Mem} (a : Nat) (b : Byte) (h : Mem.wf d m = true) :
    Mem.read d (Mem.write d m a b) a = b := by
  induction m with
  | nil =>
    simp only [Mem.write]
    split <;> simp_all [Mem.read]
  | cons p m ih =>
    obtain ⟨k, v⟩ := p
    have ⟨h1, h2, h3⟩ := Mem.wf_cons.mp h
    simp only [Mem.write]
    split
    · rename_i e
      subst e
      split
      · rename_i hb
        rw [hb]
        exact Mem.read_of_above h2
      · simp [Mem.read]
    · rename_i ne
      split
      · rename_i lt
        split
        · rename_i hb
          rw [hb]
          refine Mem.read_of_above ?_
          intro c hc
          rcases List.mem_cons.mp hc with rfl | hc
          · exact lt
          · exact Nat.lt_trans lt (h2 c hc)
        · simp [Mem.read]
      · simp [Mem.read, ne, ih h3]

/-- A write leaves every other address alone. -/
theorem Mem.read_write_ne {d : Byte} {m : Mem} {a a' : Nat} (b : Byte) (h : a' ≠ a) :
    Mem.read d (Mem.write d m a b) a' = Mem.read d m a' := by
  induction m with
  | nil =>
    simp only [Mem.write]
    split <;> simp [Mem.read, h]
  | cons p m ih =>
    obtain ⟨k, v⟩ := p
    simp only [Mem.write]
    split
    · rename_i e
      subst e
      split <;> simp [Mem.read, h]
    · split
      · split <;> simp [Mem.read, h]
      · simp [Mem.read, ih]

end Sys2Proof.Machine
end

