-- ==== Sys2Proof/Laws/State.lean ====
section
/-! SUPPORT. What each update of the device leaves alone, field by field, and what it writes. -/

namespace Sys2Proof.Machine

@[simp] theorem Dev.enter_units (t r : Nat) (d : Dev) : (d.enter t r).units = d.units := rfl
@[simp] theorem Dev.enter_ctr (t r : Nat) (d : Dev) : (d.enter t r).ctr = d.ctr := rfl
@[simp] theorem Dev.enter_host (t r : Nat) (d : Dev) : (d.enter t r).host = d.host := rfl
@[simp] theorem Dev.enter_boot (t r : Nat) (d : Dev) : (d.enter t r).boot = d.boot := rfl
@[simp] theorem Dev.enter_pins (t r : Nat) (d : Dev) : (d.enter t r).pins = d.pins := rfl
@[simp] theorem Dev.enter_eng (t r : Nat) (d : Dev) : (d.enter t r).eng = d.eng := rfl
@[simp] theorem Dev.enter_jobs (t r : Nat) (d : Dev) : (d.enter t r).jobs = d.jobs := rfl
@[simp] theorem Dev.enter_plane (t r : Nat) (d : Dev) : (d.enter t r).plane = d.plane := rfl
@[simp] theorem Dev.enter_stn (t r : Nat) (d : Dev) : (d.enter t r).stn = d.stn := rfl
@[simp] theorem Dev.enter_lane (t r : Nat) (d : Dev) : (d.enter t r).lane = d.lane := rfl
@[simp] theorem Dev.enter_enc (t r : Nat) (d : Dev) : (d.enter t r).enc = d.enc := rfl
@[simp] theorem Dev.enter_cueHold (t r : Nat) (d : Dev) : (d.enter t r).cueHold = d.cueHold := rfl
@[simp] theorem Dev.enter_cal (t r : Nat) (d : Dev) : (d.enter t r).cal = d.cal := rfl
@[simp] theorem Dev.enter_axis (t r : Nat) (d : Dev) : (d.enter t r).axis = d.axis := rfl
@[simp] theorem Dev.enter_prof (t r : Nat) (d : Dev) : (d.enter t r).prof = d.prof := rfl
@[simp] theorem Dev.enter_step (t r : Nat) (d : Dev) : (d.enter t r).step = d.step := rfl
@[simp] theorem Dev.enter_ain (t r : Nat) (d : Dev) : (d.enter t r).ain = d.ain := rfl
@[simp] theorem Dev.enter_loop (t r : Nat) (d : Dev) : (d.enter t r).loop = d.loop := rfl
@[simp] theorem Dev.enter_act (t r : Nat) (d : Dev) : (d.enter t r).act = d.act := rfl
@[simp] theorem Dev.enter_lamp (t r : Nat) (d : Dev) : (d.enter t r).lamp = d.lamp := rfl
@[simp] theorem Dev.enter_pll (t r : Nat) (d : Dev) : (d.enter t r).pll = d.pll := rfl
@[simp] theorem Dev.enter_clko (t r : Nat) (d : Dev) : (d.enter t r).clko = d.clko := rfl
@[simp] theorem Dev.enter_temp (t r : Nat) (d : Dev) : (d.enter t r).temp = d.temp := rfl
@[simp] theorem Dev.enter_dom (t r : Nat) (d : Dev) : (d.enter t r).dom = d.dom := rfl
@[simp] theorem Dev.enter_fab (t r : Nat) (d : Dev) : (d.enter t r).fab = d.fab := rfl
@[simp] theorem Dev.enter_twin (t r : Nat) (d : Dev) : (d.enter t r).twin = d.twin := rfl
@[simp] theorem Dev.enter_ref (t r : Nat) (d : Dev) : (d.enter t r).ref = d.ref := rfl
@[simp] theorem Dev.enter_free (t r : Nat) (d : Dev) : (d.enter t r).free = d.free := rfl

@[simp] theorem Dev.emit_clk (o : Out) (d : Dev) : (d.emit o).clk = d.clk := rfl
@[simp] theorem Dev.emit_units (o : Out) (d : Dev) : (d.emit o).units = d.units := rfl
@[simp] theorem Dev.emit_ctr (o : Out) (d : Dev) : (d.emit o).ctr = d.ctr := rfl
@[simp] theorem Dev.emit_boot (o : Out) (d : Dev) : (d.emit o).boot = d.boot := rfl
@[simp] theorem Dev.emit_pins (o : Out) (d : Dev) : (d.emit o).pins = d.pins := rfl
@[simp] theorem Dev.emit_eng (o : Out) (d : Dev) : (d.emit o).eng = d.eng := rfl
@[simp] theorem Dev.emit_jobs (o : Out) (d : Dev) : (d.emit o).jobs = d.jobs := rfl
@[simp] theorem Dev.emit_plane (o : Out) (d : Dev) : (d.emit o).plane = d.plane := rfl
@[simp] theorem Dev.emit_stn (o : Out) (d : Dev) : (d.emit o).stn = d.stn := rfl
@[simp] theorem Dev.emit_lane (o : Out) (d : Dev) : (d.emit o).lane = d.lane := rfl
@[simp] theorem Dev.emit_enc (o : Out) (d : Dev) : (d.emit o).enc = d.enc := rfl
@[simp] theorem Dev.emit_cueHold (o : Out) (d : Dev) : (d.emit o).cueHold = d.cueHold := rfl
@[simp] theorem Dev.emit_cal (o : Out) (d : Dev) : (d.emit o).cal = d.cal := rfl
@[simp] theorem Dev.emit_axis (o : Out) (d : Dev) : (d.emit o).axis = d.axis := rfl
@[simp] theorem Dev.emit_prof (o : Out) (d : Dev) : (d.emit o).prof = d.prof := rfl
@[simp] theorem Dev.emit_step (o : Out) (d : Dev) : (d.emit o).step = d.step := rfl
@[simp] theorem Dev.emit_ain (o : Out) (d : Dev) : (d.emit o).ain = d.ain := rfl
@[simp] theorem Dev.emit_loop (o : Out) (d : Dev) : (d.emit o).loop = d.loop := rfl
@[simp] theorem Dev.emit_act (o : Out) (d : Dev) : (d.emit o).act = d.act := rfl
@[simp] theorem Dev.emit_lamp (o : Out) (d : Dev) : (d.emit o).lamp = d.lamp := rfl
@[simp] theorem Dev.emit_pll (o : Out) (d : Dev) : (d.emit o).pll = d.pll := rfl
@[simp] theorem Dev.emit_clko (o : Out) (d : Dev) : (d.emit o).clko = d.clko := rfl
@[simp] theorem Dev.emit_temp (o : Out) (d : Dev) : (d.emit o).temp = d.temp := rfl
@[simp] theorem Dev.emit_dom (o : Out) (d : Dev) : (d.emit o).dom = d.dom := rfl
@[simp] theorem Dev.emit_fab (o : Out) (d : Dev) : (d.emit o).fab = d.fab := rfl
@[simp] theorem Dev.emit_twin (o : Out) (d : Dev) : (d.emit o).twin = d.twin := rfl
@[simp] theorem Dev.emit_ref (o : Out) (d : Dev) : (d.emit o).ref = d.ref := rfl
@[simp] theorem Dev.emit_free (o : Out) (d : Dev) : (d.emit o).free = d.free := rfl

@[simp] theorem Dev.bump_clk (u : Nat) (c : Ctr) (n : Nat) (d : Dev) : (d.bump u c n).clk = d.clk := rfl
@[simp] theorem Dev.bump_units (u : Nat) (c : Ctr) (n : Nat) (d : Dev) : (d.bump u c n).units = d.units := rfl
@[simp] theorem Dev.bump_host (u : Nat) (c : Ctr) (n : Nat) (d : Dev) : (d.bump u c n).host = d.host := rfl
@[simp] theorem Dev.bump_boot (u : Nat) (c : Ctr) (n : Nat) (d : Dev) : (d.bump u c n).boot = d.boot := rfl
@[simp] theorem Dev.bump_pins (u : Nat) (c : Ctr) (n : Nat) (d : Dev) : (d.bump u c n).pins = d.pins := rfl
@[simp] theorem Dev.bump_eng (u : Nat) (c : Ctr) (n : Nat) (d : Dev) : (d.bump u c n).eng = d.eng := rfl
@[simp] theorem Dev.bump_jobs (u : Nat) (c : Ctr) (n : Nat) (d : Dev) : (d.bump u c n).jobs = d.jobs := rfl
@[simp] theorem Dev.bump_plane (u : Nat) (c : Ctr) (n : Nat) (d : Dev) : (d.bump u c n).plane = d.plane := rfl
@[simp] theorem Dev.bump_stn (u : Nat) (c : Ctr) (n : Nat) (d : Dev) : (d.bump u c n).stn = d.stn := rfl
@[simp] theorem Dev.bump_lane (u : Nat) (c : Ctr) (n : Nat) (d : Dev) : (d.bump u c n).lane = d.lane := rfl
@[simp] theorem Dev.bump_enc (u : Nat) (c : Ctr) (n : Nat) (d : Dev) : (d.bump u c n).enc = d.enc := rfl
@[simp] theorem Dev.bump_cueHold (u : Nat) (c : Ctr) (n : Nat) (d : Dev) : (d.bump u c n).cueHold = d.cueHold := rfl
@[simp] theorem Dev.bump_cal (u : Nat) (c : Ctr) (n : Nat) (d : Dev) : (d.bump u c n).cal = d.cal := rfl
@[simp] theorem Dev.bump_axis (u : Nat) (c : Ctr) (n : Nat) (d : Dev) : (d.bump u c n).axis = d.axis := rfl
@[simp] theorem Dev.bump_prof (u : Nat) (c : Ctr) (n : Nat) (d : Dev) : (d.bump u c n).prof = d.prof := rfl
@[simp] theorem Dev.bump_step (u : Nat) (c : Ctr) (n : Nat) (d : Dev) : (d.bump u c n).step = d.step := rfl
@[simp] theorem Dev.bump_ain (u : Nat) (c : Ctr) (n : Nat) (d : Dev) : (d.bump u c n).ain = d.ain := rfl
@[simp] theorem Dev.bump_loop (u : Nat) (c : Ctr) (n : Nat) (d : Dev) : (d.bump u c n).loop = d.loop := rfl
@[simp] theorem Dev.bump_act (u : Nat) (c : Ctr) (n : Nat) (d : Dev) : (d.bump u c n).act = d.act := rfl
@[simp] theorem Dev.bump_lamp (u : Nat) (c : Ctr) (n : Nat) (d : Dev) : (d.bump u c n).lamp = d.lamp := rfl
@[simp] theorem Dev.bump_pll (u : Nat) (c : Ctr) (n : Nat) (d : Dev) : (d.bump u c n).pll = d.pll := rfl
@[simp] theorem Dev.bump_clko (u : Nat) (c : Ctr) (n : Nat) (d : Dev) : (d.bump u c n).clko = d.clko := rfl
@[simp] theorem Dev.bump_temp (u : Nat) (c : Ctr) (n : Nat) (d : Dev) : (d.bump u c n).temp = d.temp := rfl
@[simp] theorem Dev.bump_dom (u : Nat) (c : Ctr) (n : Nat) (d : Dev) : (d.bump u c n).dom = d.dom := rfl
@[simp] theorem Dev.bump_fab (u : Nat) (c : Ctr) (n : Nat) (d : Dev) : (d.bump u c n).fab = d.fab := rfl
@[simp] theorem Dev.bump_twin (u : Nat) (c : Ctr) (n : Nat) (d : Dev) : (d.bump u c n).twin = d.twin := rfl
@[simp] theorem Dev.bump_ref (u : Nat) (c : Ctr) (n : Nat) (d : Dev) : (d.bump u c n).ref = d.ref := rfl
@[simp] theorem Dev.bump_free (u : Nat) (c : Ctr) (n : Nat) (d : Dev) : (d.bump u c n).free = d.free := rfl

@[simp] theorem Dev.setCtr_clk (u : Nat) (c : Ctr) (v : Int) (d : Dev) : (d.setCtr u c v).clk = d.clk := rfl
@[simp] theorem Dev.setCtr_units (u : Nat) (c : Ctr) (v : Int) (d : Dev) : (d.setCtr u c v).units = d.units := rfl
@[simp] theorem Dev.setCtr_host (u : Nat) (c : Ctr) (v : Int) (d : Dev) : (d.setCtr u c v).host = d.host := rfl
@[simp] theorem Dev.setCtr_boot (u : Nat) (c : Ctr) (v : Int) (d : Dev) : (d.setCtr u c v).boot = d.boot := rfl
@[simp] theorem Dev.setCtr_pins (u : Nat) (c : Ctr) (v : Int) (d : Dev) : (d.setCtr u c v).pins = d.pins := rfl
@[simp] theorem Dev.setCtr_eng (u : Nat) (c : Ctr) (v : Int) (d : Dev) : (d.setCtr u c v).eng = d.eng := rfl
@[simp] theorem Dev.setCtr_jobs (u : Nat) (c : Ctr) (v : Int) (d : Dev) : (d.setCtr u c v).jobs = d.jobs := rfl
@[simp] theorem Dev.setCtr_plane (u : Nat) (c : Ctr) (v : Int) (d : Dev) : (d.setCtr u c v).plane = d.plane := rfl
@[simp] theorem Dev.setCtr_stn (u : Nat) (c : Ctr) (v : Int) (d : Dev) : (d.setCtr u c v).stn = d.stn := rfl
@[simp] theorem Dev.setCtr_lane (u : Nat) (c : Ctr) (v : Int) (d : Dev) : (d.setCtr u c v).lane = d.lane := rfl
@[simp] theorem Dev.setCtr_enc (u : Nat) (c : Ctr) (v : Int) (d : Dev) : (d.setCtr u c v).enc = d.enc := rfl
@[simp] theorem Dev.setCtr_cueHold (u : Nat) (c : Ctr) (v : Int) (d : Dev) : (d.setCtr u c v).cueHold = d.cueHold := rfl
@[simp] theorem Dev.setCtr_cal (u : Nat) (c : Ctr) (v : Int) (d : Dev) : (d.setCtr u c v).cal = d.cal := rfl
@[simp] theorem Dev.setCtr_axis (u : Nat) (c : Ctr) (v : Int) (d : Dev) : (d.setCtr u c v).axis = d.axis := rfl
@[simp] theorem Dev.setCtr_prof (u : Nat) (c : Ctr) (v : Int) (d : Dev) : (d.setCtr u c v).prof = d.prof := rfl
@[simp] theorem Dev.setCtr_step (u : Nat) (c : Ctr) (v : Int) (d : Dev) : (d.setCtr u c v).step = d.step := rfl
@[simp] theorem Dev.setCtr_ain (u : Nat) (c : Ctr) (v : Int) (d : Dev) : (d.setCtr u c v).ain = d.ain := rfl
@[simp] theorem Dev.setCtr_loop (u : Nat) (c : Ctr) (v : Int) (d : Dev) : (d.setCtr u c v).loop = d.loop := rfl
@[simp] theorem Dev.setCtr_act (u : Nat) (c : Ctr) (v : Int) (d : Dev) : (d.setCtr u c v).act = d.act := rfl
@[simp] theorem Dev.setCtr_lamp (u : Nat) (c : Ctr) (v : Int) (d : Dev) : (d.setCtr u c v).lamp = d.lamp := rfl
@[simp] theorem Dev.setCtr_pll (u : Nat) (c : Ctr) (v : Int) (d : Dev) : (d.setCtr u c v).pll = d.pll := rfl
@[simp] theorem Dev.setCtr_clko (u : Nat) (c : Ctr) (v : Int) (d : Dev) : (d.setCtr u c v).clko = d.clko := rfl
@[simp] theorem Dev.setCtr_temp (u : Nat) (c : Ctr) (v : Int) (d : Dev) : (d.setCtr u c v).temp = d.temp := rfl
@[simp] theorem Dev.setCtr_dom (u : Nat) (c : Ctr) (v : Int) (d : Dev) : (d.setCtr u c v).dom = d.dom := rfl
@[simp] theorem Dev.setCtr_fab (u : Nat) (c : Ctr) (v : Int) (d : Dev) : (d.setCtr u c v).fab = d.fab := rfl
@[simp] theorem Dev.setCtr_twin (u : Nat) (c : Ctr) (v : Int) (d : Dev) : (d.setCtr u c v).twin = d.twin := rfl
@[simp] theorem Dev.setCtr_ref (u : Nat) (c : Ctr) (v : Int) (d : Dev) : (d.setCtr u c v).ref = d.ref := rfl
@[simp] theorem Dev.setCtr_free (u : Nat) (c : Ctr) (v : Int) (d : Dev) : (d.setCtr u c v).free = d.free := rfl

@[simp] theorem Dev.peakCtr_clk (u : Nat) (c : Ctr) (v : Nat) (d : Dev) : (d.peakCtr u c v).clk = d.clk := rfl
@[simp] theorem Dev.peakCtr_units (u : Nat) (c : Ctr) (v : Nat) (d : Dev) : (d.peakCtr u c v).units = d.units := rfl
@[simp] theorem Dev.peakCtr_host (u : Nat) (c : Ctr) (v : Nat) (d : Dev) : (d.peakCtr u c v).host = d.host := rfl
@[simp] theorem Dev.peakCtr_boot (u : Nat) (c : Ctr) (v : Nat) (d : Dev) : (d.peakCtr u c v).boot = d.boot := rfl
@[simp] theorem Dev.peakCtr_pins (u : Nat) (c : Ctr) (v : Nat) (d : Dev) : (d.peakCtr u c v).pins = d.pins := rfl
@[simp] theorem Dev.peakCtr_eng (u : Nat) (c : Ctr) (v : Nat) (d : Dev) : (d.peakCtr u c v).eng = d.eng := rfl
@[simp] theorem Dev.peakCtr_jobs (u : Nat) (c : Ctr) (v : Nat) (d : Dev) : (d.peakCtr u c v).jobs = d.jobs := rfl
@[simp] theorem Dev.peakCtr_plane (u : Nat) (c : Ctr) (v : Nat) (d : Dev) : (d.peakCtr u c v).plane = d.plane := rfl
@[simp] theorem Dev.peakCtr_stn (u : Nat) (c : Ctr) (v : Nat) (d : Dev) : (d.peakCtr u c v).stn = d.stn := rfl
@[simp] theorem Dev.peakCtr_lane (u : Nat) (c : Ctr) (v : Nat) (d : Dev) : (d.peakCtr u c v).lane = d.lane := rfl
@[simp] theorem Dev.peakCtr_enc (u : Nat) (c : Ctr) (v : Nat) (d : Dev) : (d.peakCtr u c v).enc = d.enc := rfl
@[simp] theorem Dev.peakCtr_cueHold (u : Nat) (c : Ctr) (v : Nat) (d : Dev) : (d.peakCtr u c v).cueHold = d.cueHold := rfl
@[simp] theorem Dev.peakCtr_cal (u : Nat) (c : Ctr) (v : Nat) (d : Dev) : (d.peakCtr u c v).cal = d.cal := rfl
@[simp] theorem Dev.peakCtr_axis (u : Nat) (c : Ctr) (v : Nat) (d : Dev) : (d.peakCtr u c v).axis = d.axis := rfl
@[simp] theorem Dev.peakCtr_prof (u : Nat) (c : Ctr) (v : Nat) (d : Dev) : (d.peakCtr u c v).prof = d.prof := rfl
@[simp] theorem Dev.peakCtr_step (u : Nat) (c : Ctr) (v : Nat) (d : Dev) : (d.peakCtr u c v).step = d.step := rfl
@[simp] theorem Dev.peakCtr_ain (u : Nat) (c : Ctr) (v : Nat) (d : Dev) : (d.peakCtr u c v).ain = d.ain := rfl
@[simp] theorem Dev.peakCtr_loop (u : Nat) (c : Ctr) (v : Nat) (d : Dev) : (d.peakCtr u c v).loop = d.loop := rfl
@[simp] theorem Dev.peakCtr_act (u : Nat) (c : Ctr) (v : Nat) (d : Dev) : (d.peakCtr u c v).act = d.act := rfl
@[simp] theorem Dev.peakCtr_lamp (u : Nat) (c : Ctr) (v : Nat) (d : Dev) : (d.peakCtr u c v).lamp = d.lamp := rfl
@[simp] theorem Dev.peakCtr_pll (u : Nat) (c : Ctr) (v : Nat) (d : Dev) : (d.peakCtr u c v).pll = d.pll := rfl
@[simp] theorem Dev.peakCtr_clko (u : Nat) (c : Ctr) (v : Nat) (d : Dev) : (d.peakCtr u c v).clko = d.clko := rfl
@[simp] theorem Dev.peakCtr_temp (u : Nat) (c : Ctr) (v : Nat) (d : Dev) : (d.peakCtr u c v).temp = d.temp := rfl
@[simp] theorem Dev.peakCtr_dom (u : Nat) (c : Ctr) (v : Nat) (d : Dev) : (d.peakCtr u c v).dom = d.dom := rfl
@[simp] theorem Dev.peakCtr_fab (u : Nat) (c : Ctr) (v : Nat) (d : Dev) : (d.peakCtr u c v).fab = d.fab := rfl
@[simp] theorem Dev.peakCtr_twin (u : Nat) (c : Ctr) (v : Nat) (d : Dev) : (d.peakCtr u c v).twin = d.twin := rfl
@[simp] theorem Dev.peakCtr_ref (u : Nat) (c : Ctr) (v : Nat) (d : Dev) : (d.peakCtr u c v).ref = d.ref := rfl
@[simp] theorem Dev.peakCtr_free (u : Nat) (c : Ctr) (v : Nat) (d : Dev) : (d.peakCtr u c v).free = d.free := rfl

@[simp] theorem Dev.freeNext_clk (d : Dev) : (d.freeNext).clk = d.clk := rfl
@[simp] theorem Dev.freeNext_units (d : Dev) : (d.freeNext).units = d.units := rfl
@[simp] theorem Dev.freeNext_ctr (d : Dev) : (d.freeNext).ctr = d.ctr := rfl
@[simp] theorem Dev.freeNext_host (d : Dev) : (d.freeNext).host = d.host := rfl
@[simp] theorem Dev.freeNext_boot (d : Dev) : (d.freeNext).boot = d.boot := rfl
@[simp] theorem Dev.freeNext_pins (d : Dev) : (d.freeNext).pins = d.pins := rfl
@[simp] theorem Dev.freeNext_eng (d : Dev) : (d.freeNext).eng = d.eng := rfl
@[simp] theorem Dev.freeNext_jobs (d : Dev) : (d.freeNext).jobs = d.jobs := rfl
@[simp] theorem Dev.freeNext_plane (d : Dev) : (d.freeNext).plane = d.plane := rfl
@[simp] theorem Dev.freeNext_stn (d : Dev) : (d.freeNext).stn = d.stn := rfl
@[simp] theorem Dev.freeNext_lane (d : Dev) : (d.freeNext).lane = d.lane := rfl
@[simp] theorem Dev.freeNext_enc (d : Dev) : (d.freeNext).enc = d.enc := rfl
@[simp] theorem Dev.freeNext_cueHold (d : Dev) : (d.freeNext).cueHold = d.cueHold := rfl
@[simp] theorem Dev.freeNext_cal (d : Dev) : (d.freeNext).cal = d.cal := rfl
@[simp] theorem Dev.freeNext_axis (d : Dev) : (d.freeNext).axis = d.axis := rfl
@[simp] theorem Dev.freeNext_prof (d : Dev) : (d.freeNext).prof = d.prof := rfl
@[simp] theorem Dev.freeNext_step (d : Dev) : (d.freeNext).step = d.step := rfl
@[simp] theorem Dev.freeNext_ain (d : Dev) : (d.freeNext).ain = d.ain := rfl
@[simp] theorem Dev.freeNext_loop (d : Dev) : (d.freeNext).loop = d.loop := rfl
@[simp] theorem Dev.freeNext_act (d : Dev) : (d.freeNext).act = d.act := rfl
@[simp] theorem Dev.freeNext_lamp (d : Dev) : (d.freeNext).lamp = d.lamp := rfl
@[simp] theorem Dev.freeNext_pll (d : Dev) : (d.freeNext).pll = d.pll := rfl
@[simp] theorem Dev.freeNext_clko (d : Dev) : (d.freeNext).clko = d.clko := rfl
@[simp] theorem Dev.freeNext_temp (d : Dev) : (d.freeNext).temp = d.temp := rfl
@[simp] theorem Dev.freeNext_dom (d : Dev) : (d.freeNext).dom = d.dom := rfl
@[simp] theorem Dev.freeNext_fab (d : Dev) : (d.freeNext).fab = d.fab := rfl
@[simp] theorem Dev.freeNext_twin (d : Dev) : (d.freeNext).twin = d.twin := rfl
@[simp] theorem Dev.freeNext_ref (d : Dev) : (d.freeNext).ref = d.ref := rfl

@[simp] theorem Dev.updPg_clk (o n : Nat) (f : PgStn → PgStn) (d : Dev) : (d.updPg o n f).clk = d.clk := rfl
@[simp] theorem Dev.updPg_units (o n : Nat) (f : PgStn → PgStn) (d : Dev) : (d.updPg o n f).units = d.units := rfl
@[simp] theorem Dev.updPg_ctr (o n : Nat) (f : PgStn → PgStn) (d : Dev) : (d.updPg o n f).ctr = d.ctr := rfl
@[simp] theorem Dev.updPg_host (o n : Nat) (f : PgStn → PgStn) (d : Dev) : (d.updPg o n f).host = d.host := rfl
@[simp] theorem Dev.updPg_boot (o n : Nat) (f : PgStn → PgStn) (d : Dev) : (d.updPg o n f).boot = d.boot := rfl
@[simp] theorem Dev.updPg_pins (o n : Nat) (f : PgStn → PgStn) (d : Dev) : (d.updPg o n f).pins = d.pins := rfl
@[simp] theorem Dev.updPg_eng (o n : Nat) (f : PgStn → PgStn) (d : Dev) : (d.updPg o n f).eng = d.eng := rfl
@[simp] theorem Dev.updPg_plane (o n : Nat) (f : PgStn → PgStn) (d : Dev) : (d.updPg o n f).plane = d.plane := rfl
@[simp] theorem Dev.updPg_stn (o n : Nat) (f : PgStn → PgStn) (d : Dev) : (d.updPg o n f).stn = d.stn := rfl
@[simp] theorem Dev.updPg_lane (o n : Nat) (f : PgStn → PgStn) (d : Dev) : (d.updPg o n f).lane = d.lane := rfl
@[simp] theorem Dev.updPg_enc (o n : Nat) (f : PgStn → PgStn) (d : Dev) : (d.updPg o n f).enc = d.enc := rfl
@[simp] theorem Dev.updPg_cueHold (o n : Nat) (f : PgStn → PgStn) (d : Dev) : (d.updPg o n f).cueHold = d.cueHold := rfl
@[simp] theorem Dev.updPg_cal (o n : Nat) (f : PgStn → PgStn) (d : Dev) : (d.updPg o n f).cal = d.cal := rfl
@[simp] theorem Dev.updPg_axis (o n : Nat) (f : PgStn → PgStn) (d : Dev) : (d.updPg o n f).axis = d.axis := rfl
@[simp] theorem Dev.updPg_prof (o n : Nat) (f : PgStn → PgStn) (d : Dev) : (d.updPg o n f).prof = d.prof := rfl
@[simp] theorem Dev.updPg_step (o n : Nat) (f : PgStn → PgStn) (d : Dev) : (d.updPg o n f).step = d.step := rfl
@[simp] theorem Dev.updPg_ain (o n : Nat) (f : PgStn → PgStn) (d : Dev) : (d.updPg o n f).ain = d.ain := rfl
@[simp] theorem Dev.updPg_loop (o n : Nat) (f : PgStn → PgStn) (d : Dev) : (d.updPg o n f).loop = d.loop := rfl
@[simp] theorem Dev.updPg_act (o n : Nat) (f : PgStn → PgStn) (d : Dev) : (d.updPg o n f).act = d.act := rfl
@[simp] theorem Dev.updPg_lamp (o n : Nat) (f : PgStn → PgStn) (d : Dev) : (d.updPg o n f).lamp = d.lamp := rfl
@[simp] theorem Dev.updPg_pll (o n : Nat) (f : PgStn → PgStn) (d : Dev) : (d.updPg o n f).pll = d.pll := rfl
@[simp] theorem Dev.updPg_clko (o n : Nat) (f : PgStn → PgStn) (d : Dev) : (d.updPg o n f).clko = d.clko := rfl
@[simp] theorem Dev.updPg_temp (o n : Nat) (f : PgStn → PgStn) (d : Dev) : (d.updPg o n f).temp = d.temp := rfl
@[simp] theorem Dev.updPg_dom (o n : Nat) (f : PgStn → PgStn) (d : Dev) : (d.updPg o n f).dom = d.dom := rfl
@[simp] theorem Dev.updPg_fab (o n : Nat) (f : PgStn → PgStn) (d : Dev) : (d.updPg o n f).fab = d.fab := rfl
@[simp] theorem Dev.updPg_twin (o n : Nat) (f : PgStn → PgStn) (d : Dev) : (d.updPg o n f).twin = d.twin := rfl
@[simp] theorem Dev.updPg_ref (o n : Nat) (f : PgStn → PgStn) (d : Dev) : (d.updPg o n f).ref = d.ref := rfl
@[simp] theorem Dev.updPg_free (o n : Nat) (f : PgStn → PgStn) (d : Dev) : (d.updPg o n f).free = d.free := rfl

@[simp] theorem Dev.updPage_clk (o : Nat) (f : Page → Page) (d : Dev) : (d.updPage o f).clk = d.clk := rfl
@[simp] theorem Dev.updPage_units (o : Nat) (f : Page → Page) (d : Dev) : (d.updPage o f).units = d.units := rfl
@[simp] theorem Dev.updPage_ctr (o : Nat) (f : Page → Page) (d : Dev) : (d.updPage o f).ctr = d.ctr := rfl
@[simp] theorem Dev.updPage_host (o : Nat) (f : Page → Page) (d : Dev) : (d.updPage o f).host = d.host := rfl
@[simp] theorem Dev.updPage_boot (o : Nat) (f : Page → Page) (d : Dev) : (d.updPage o f).boot = d.boot := rfl
@[simp] theorem Dev.updPage_pins (o : Nat) (f : Page → Page) (d : Dev) : (d.updPage o f).pins = d.pins := rfl
@[simp] theorem Dev.updPage_eng (o : Nat) (f : Page → Page) (d : Dev) : (d.updPage o f).eng = d.eng := rfl
@[simp] theorem Dev.updPage_plane (o : Nat) (f : Page → Page) (d : Dev) : (d.updPage o f).plane = d.plane := rfl
@[simp] theorem Dev.updPage_stn (o : Nat) (f : Page → Page) (d : Dev) : (d.updPage o f).stn = d.stn := rfl
@[simp] theorem Dev.updPage_lane (o : Nat) (f : Page → Page) (d : Dev) : (d.updPage o f).lane = d.lane := rfl
@[simp] theorem Dev.updPage_enc (o : Nat) (f : Page → Page) (d : Dev) : (d.updPage o f).enc = d.enc := rfl
@[simp] theorem Dev.updPage_cueHold (o : Nat) (f : Page → Page) (d : Dev) : (d.updPage o f).cueHold = d.cueHold := rfl
@[simp] theorem Dev.updPage_cal (o : Nat) (f : Page → Page) (d : Dev) : (d.updPage o f).cal = d.cal := rfl
@[simp] theorem Dev.updPage_axis (o : Nat) (f : Page → Page) (d : Dev) : (d.updPage o f).axis = d.axis := rfl
@[simp] theorem Dev.updPage_prof (o : Nat) (f : Page → Page) (d : Dev) : (d.updPage o f).prof = d.prof := rfl
@[simp] theorem Dev.updPage_step (o : Nat) (f : Page → Page) (d : Dev) : (d.updPage o f).step = d.step := rfl
@[simp] theorem Dev.updPage_ain (o : Nat) (f : Page → Page) (d : Dev) : (d.updPage o f).ain = d.ain := rfl
@[simp] theorem Dev.updPage_loop (o : Nat) (f : Page → Page) (d : Dev) : (d.updPage o f).loop = d.loop := rfl
@[simp] theorem Dev.updPage_act (o : Nat) (f : Page → Page) (d : Dev) : (d.updPage o f).act = d.act := rfl
@[simp] theorem Dev.updPage_lamp (o : Nat) (f : Page → Page) (d : Dev) : (d.updPage o f).lamp = d.lamp := rfl
@[simp] theorem Dev.updPage_pll (o : Nat) (f : Page → Page) (d : Dev) : (d.updPage o f).pll = d.pll := rfl
@[simp] theorem Dev.updPage_clko (o : Nat) (f : Page → Page) (d : Dev) : (d.updPage o f).clko = d.clko := rfl
@[simp] theorem Dev.updPage_temp (o : Nat) (f : Page → Page) (d : Dev) : (d.updPage o f).temp = d.temp := rfl
@[simp] theorem Dev.updPage_dom (o : Nat) (f : Page → Page) (d : Dev) : (d.updPage o f).dom = d.dom := rfl
@[simp] theorem Dev.updPage_fab (o : Nat) (f : Page → Page) (d : Dev) : (d.updPage o f).fab = d.fab := rfl
@[simp] theorem Dev.updPage_twin (o : Nat) (f : Page → Page) (d : Dev) : (d.updPage o f).twin = d.twin := rfl
@[simp] theorem Dev.updPage_ref (o : Nat) (f : Page → Page) (d : Dev) : (d.updPage o f).ref = d.ref := rfl
@[simp] theorem Dev.updPage_free (o : Nat) (f : Page → Page) (d : Dev) : (d.updPage o f).free = d.free := rfl

@[simp] theorem Dev.updStn_clk (n : Nat) (f : Stn → Stn) (d : Dev) : (d.updStn n f).clk = d.clk := rfl
@[simp] theorem Dev.updStn_units (n : Nat) (f : Stn → Stn) (d : Dev) : (d.updStn n f).units = d.units := rfl
@[simp] theorem Dev.updStn_ctr (n : Nat) (f : Stn → Stn) (d : Dev) : (d.updStn n f).ctr = d.ctr := rfl
@[simp] theorem Dev.updStn_host (n : Nat) (f : Stn → Stn) (d : Dev) : (d.updStn n f).host = d.host := rfl
@[simp] theorem Dev.updStn_boot (n : Nat) (f : Stn → Stn) (d : Dev) : (d.updStn n f).boot = d.boot := rfl
@[simp] theorem Dev.updStn_pins (n : Nat) (f : Stn → Stn) (d : Dev) : (d.updStn n f).pins = d.pins := rfl
@[simp] theorem Dev.updStn_eng (n : Nat) (f : Stn → Stn) (d : Dev) : (d.updStn n f).eng = d.eng := rfl
@[simp] theorem Dev.updStn_jobs (n : Nat) (f : Stn → Stn) (d : Dev) : (d.updStn n f).jobs = d.jobs := rfl
@[simp] theorem Dev.updStn_plane (n : Nat) (f : Stn → Stn) (d : Dev) : (d.updStn n f).plane = d.plane := rfl
@[simp] theorem Dev.updStn_lane (n : Nat) (f : Stn → Stn) (d : Dev) : (d.updStn n f).lane = d.lane := rfl
@[simp] theorem Dev.updStn_enc (n : Nat) (f : Stn → Stn) (d : Dev) : (d.updStn n f).enc = d.enc := rfl
@[simp] theorem Dev.updStn_cueHold (n : Nat) (f : Stn → Stn) (d : Dev) : (d.updStn n f).cueHold = d.cueHold := rfl
@[simp] theorem Dev.updStn_cal (n : Nat) (f : Stn → Stn) (d : Dev) : (d.updStn n f).cal = d.cal := rfl
@[simp] theorem Dev.updStn_axis (n : Nat) (f : Stn → Stn) (d : Dev) : (d.updStn n f).axis = d.axis := rfl
@[simp] theorem Dev.updStn_prof (n : Nat) (f : Stn → Stn) (d : Dev) : (d.updStn n f).prof = d.prof := rfl
@[simp] theorem Dev.updStn_step (n : Nat) (f : Stn → Stn) (d : Dev) : (d.updStn n f).step = d.step := rfl
@[simp] theorem Dev.updStn_ain (n : Nat) (f : Stn → Stn) (d : Dev) : (d.updStn n f).ain = d.ain := rfl
@[simp] theorem Dev.updStn_loop (n : Nat) (f : Stn → Stn) (d : Dev) : (d.updStn n f).loop = d.loop := rfl
@[simp] theorem Dev.updStn_act (n : Nat) (f : Stn → Stn) (d : Dev) : (d.updStn n f).act = d.act := rfl
@[simp] theorem Dev.updStn_lamp (n : Nat) (f : Stn → Stn) (d : Dev) : (d.updStn n f).lamp = d.lamp := rfl
@[simp] theorem Dev.updStn_pll (n : Nat) (f : Stn → Stn) (d : Dev) : (d.updStn n f).pll = d.pll := rfl
@[simp] theorem Dev.updStn_clko (n : Nat) (f : Stn → Stn) (d : Dev) : (d.updStn n f).clko = d.clko := rfl
@[simp] theorem Dev.updStn_temp (n : Nat) (f : Stn → Stn) (d : Dev) : (d.updStn n f).temp = d.temp := rfl
@[simp] theorem Dev.updStn_dom (n : Nat) (f : Stn → Stn) (d : Dev) : (d.updStn n f).dom = d.dom := rfl
@[simp] theorem Dev.updStn_fab (n : Nat) (f : Stn → Stn) (d : Dev) : (d.updStn n f).fab = d.fab := rfl
@[simp] theorem Dev.updStn_twin (n : Nat) (f : Stn → Stn) (d : Dev) : (d.updStn n f).twin = d.twin := rfl
@[simp] theorem Dev.updStn_ref (n : Nat) (f : Stn → Stn) (d : Dev) : (d.updStn n f).ref = d.ref := rfl
@[simp] theorem Dev.updStn_free (n : Nat) (f : Stn → Stn) (d : Dev) : (d.updStn n f).free = d.free := rfl

@[simp] theorem Dev.updLane_clk (l : Nat) (f : Lane → Lane) (d : Dev) : (d.updLane l f).clk = d.clk := rfl
@[simp] theorem Dev.updLane_units (l : Nat) (f : Lane → Lane) (d : Dev) : (d.updLane l f).units = d.units := rfl
@[simp] theorem Dev.updLane_ctr (l : Nat) (f : Lane → Lane) (d : Dev) : (d.updLane l f).ctr = d.ctr := rfl
@[simp] theorem Dev.updLane_host (l : Nat) (f : Lane → Lane) (d : Dev) : (d.updLane l f).host = d.host := rfl
@[simp] theorem Dev.updLane_boot (l : Nat) (f : Lane → Lane) (d : Dev) : (d.updLane l f).boot = d.boot := rfl
@[simp] theorem Dev.updLane_pins (l : Nat) (f : Lane → Lane) (d : Dev) : (d.updLane l f).pins = d.pins := rfl
@[simp] theorem Dev.updLane_eng (l : Nat) (f : Lane → Lane) (d : Dev) : (d.updLane l f).eng = d.eng := rfl
@[simp] theorem Dev.updLane_jobs (l : Nat) (f : Lane → Lane) (d : Dev) : (d.updLane l f).jobs = d.jobs := rfl
@[simp] theorem Dev.updLane_plane (l : Nat) (f : Lane → Lane) (d : Dev) : (d.updLane l f).plane = d.plane := rfl
@[simp] theorem Dev.updLane_stn (l : Nat) (f : Lane → Lane) (d : Dev) : (d.updLane l f).stn = d.stn := rfl
@[simp] theorem Dev.updLane_enc (l : Nat) (f : Lane → Lane) (d : Dev) : (d.updLane l f).enc = d.enc := rfl
@[simp] theorem Dev.updLane_cueHold (l : Nat) (f : Lane → Lane) (d : Dev) : (d.updLane l f).cueHold = d.cueHold := rfl
@[simp] theorem Dev.updLane_cal (l : Nat) (f : Lane → Lane) (d : Dev) : (d.updLane l f).cal = d.cal := rfl
@[simp] theorem Dev.updLane_axis (l : Nat) (f : Lane → Lane) (d : Dev) : (d.updLane l f).axis = d.axis := rfl
@[simp] theorem Dev.updLane_prof (l : Nat) (f : Lane → Lane) (d : Dev) : (d.updLane l f).prof = d.prof := rfl
@[simp] theorem Dev.updLane_step (l : Nat) (f : Lane → Lane) (d : Dev) : (d.updLane l f).step = d.step := rfl
@[simp] theorem Dev.updLane_ain (l : Nat) (f : Lane → Lane) (d : Dev) : (d.updLane l f).ain = d.ain := rfl
@[simp] theorem Dev.updLane_loop (l : Nat) (f : Lane → Lane) (d : Dev) : (d.updLane l f).loop = d.loop := rfl
@[simp] theorem Dev.updLane_act (l : Nat) (f : Lane → Lane) (d : Dev) : (d.updLane l f).act = d.act := rfl
@[simp] theorem Dev.updLane_lamp (l : Nat) (f : Lane → Lane) (d : Dev) : (d.updLane l f).lamp = d.lamp := rfl
@[simp] theorem Dev.updLane_pll (l : Nat) (f : Lane → Lane) (d : Dev) : (d.updLane l f).pll = d.pll := rfl
@[simp] theorem Dev.updLane_clko (l : Nat) (f : Lane → Lane) (d : Dev) : (d.updLane l f).clko = d.clko := rfl
@[simp] theorem Dev.updLane_temp (l : Nat) (f : Lane → Lane) (d : Dev) : (d.updLane l f).temp = d.temp := rfl
@[simp] theorem Dev.updLane_dom (l : Nat) (f : Lane → Lane) (d : Dev) : (d.updLane l f).dom = d.dom := rfl
@[simp] theorem Dev.updLane_fab (l : Nat) (f : Lane → Lane) (d : Dev) : (d.updLane l f).fab = d.fab := rfl
@[simp] theorem Dev.updLane_twin (l : Nat) (f : Lane → Lane) (d : Dev) : (d.updLane l f).twin = d.twin := rfl
@[simp] theorem Dev.updLane_ref (l : Nat) (f : Lane → Lane) (d : Dev) : (d.updLane l f).ref = d.ref := rfl
@[simp] theorem Dev.updLane_free (l : Nat) (f : Lane → Lane) (d : Dev) : (d.updLane l f).free = d.free := rfl

@[simp] theorem Dev.updPll_clk (i : Nat) (f : Pll → Pll) (d : Dev) : (d.updPll i f).clk = d.clk := rfl
@[simp] theorem Dev.updPll_units (i : Nat) (f : Pll → Pll) (d : Dev) : (d.updPll i f).units = d.units := rfl
@[simp] theorem Dev.updPll_ctr (i : Nat) (f : Pll → Pll) (d : Dev) : (d.updPll i f).ctr = d.ctr := rfl
@[simp] theorem Dev.updPll_host (i : Nat) (f : Pll → Pll) (d : Dev) : (d.updPll i f).host = d.host := rfl
@[simp] theorem Dev.updPll_boot (i : Nat) (f : Pll → Pll) (d : Dev) : (d.updPll i f).boot = d.boot := rfl
@[simp] theorem Dev.updPll_pins (i : Nat) (f : Pll → Pll) (d : Dev) : (d.updPll i f).pins = d.pins := rfl
@[simp] theorem Dev.updPll_eng (i : Nat) (f : Pll → Pll) (d : Dev) : (d.updPll i f).eng = d.eng := rfl
@[simp] theorem Dev.updPll_jobs (i : Nat) (f : Pll → Pll) (d : Dev) : (d.updPll i f).jobs = d.jobs := rfl
@[simp] theorem Dev.updPll_plane (i : Nat) (f : Pll → Pll) (d : Dev) : (d.updPll i f).plane = d.plane := rfl
@[simp] theorem Dev.updPll_stn (i : Nat) (f : Pll → Pll) (d : Dev) : (d.updPll i f).stn = d.stn := rfl
@[simp] theorem Dev.updPll_lane (i : Nat) (f : Pll → Pll) (d : Dev) : (d.updPll i f).lane = d.lane := rfl
@[simp] theorem Dev.updPll_enc (i : Nat) (f : Pll → Pll) (d : Dev) : (d.updPll i f).enc = d.enc := rfl
@[simp] theorem Dev.updPll_cueHold (i : Nat) (f : Pll → Pll) (d : Dev) : (d.updPll i f).cueHold = d.cueHold := rfl
@[simp] theorem Dev.updPll_cal (i : Nat) (f : Pll → Pll) (d : Dev) : (d.updPll i f).cal = d.cal := rfl
@[simp] theorem Dev.updPll_axis (i : Nat) (f : Pll → Pll) (d : Dev) : (d.updPll i f).axis = d.axis := rfl
@[simp] theorem Dev.updPll_prof (i : Nat) (f : Pll → Pll) (d : Dev) : (d.updPll i f).prof = d.prof := rfl
@[simp] theorem Dev.updPll_step (i : Nat) (f : Pll → Pll) (d : Dev) : (d.updPll i f).step = d.step := rfl
@[simp] theorem Dev.updPll_ain (i : Nat) (f : Pll → Pll) (d : Dev) : (d.updPll i f).ain = d.ain := rfl
@[simp] theorem Dev.updPll_loop (i : Nat) (f : Pll → Pll) (d : Dev) : (d.updPll i f).loop = d.loop := rfl
@[simp] theorem Dev.updPll_act (i : Nat) (f : Pll → Pll) (d : Dev) : (d.updPll i f).act = d.act := rfl
@[simp] theorem Dev.updPll_lamp (i : Nat) (f : Pll → Pll) (d : Dev) : (d.updPll i f).lamp = d.lamp := rfl
@[simp] theorem Dev.updPll_clko (i : Nat) (f : Pll → Pll) (d : Dev) : (d.updPll i f).clko = d.clko := rfl
@[simp] theorem Dev.updPll_temp (i : Nat) (f : Pll → Pll) (d : Dev) : (d.updPll i f).temp = d.temp := rfl
@[simp] theorem Dev.updPll_dom (i : Nat) (f : Pll → Pll) (d : Dev) : (d.updPll i f).dom = d.dom := rfl
@[simp] theorem Dev.updPll_fab (i : Nat) (f : Pll → Pll) (d : Dev) : (d.updPll i f).fab = d.fab := rfl
@[simp] theorem Dev.updPll_twin (i : Nat) (f : Pll → Pll) (d : Dev) : (d.updPll i f).twin = d.twin := rfl
@[simp] theorem Dev.updPll_ref (i : Nat) (f : Pll → Pll) (d : Dev) : (d.updPll i f).ref = d.ref := rfl
@[simp] theorem Dev.updPll_free (i : Nat) (f : Pll → Pll) (d : Dev) : (d.updPll i f).free = d.free := rfl

@[simp] theorem Dev.updPort_clk (p : Nat) (f : Port → Port) (d : Dev) : (d.updPort p f).clk = d.clk := rfl
@[simp] theorem Dev.updPort_units (p : Nat) (f : Port → Port) (d : Dev) : (d.updPort p f).units = d.units := rfl
@[simp] theorem Dev.updPort_ctr (p : Nat) (f : Port → Port) (d : Dev) : (d.updPort p f).ctr = d.ctr := rfl
@[simp] theorem Dev.updPort_host (p : Nat) (f : Port → Port) (d : Dev) : (d.updPort p f).host = d.host := rfl
@[simp] theorem Dev.updPort_boot (p : Nat) (f : Port → Port) (d : Dev) : (d.updPort p f).boot = d.boot := rfl
@[simp] theorem Dev.updPort_pins (p : Nat) (f : Port → Port) (d : Dev) : (d.updPort p f).pins = d.pins := rfl
@[simp] theorem Dev.updPort_eng (p : Nat) (f : Port → Port) (d : Dev) : (d.updPort p f).eng = d.eng := rfl
@[simp] theorem Dev.updPort_jobs (p : Nat) (f : Port → Port) (d : Dev) : (d.updPort p f).jobs = d.jobs := rfl
@[simp] theorem Dev.updPort_plane (p : Nat) (f : Port → Port) (d : Dev) : (d.updPort p f).plane = d.plane := rfl
@[simp] theorem Dev.updPort_stn (p : Nat) (f : Port → Port) (d : Dev) : (d.updPort p f).stn = d.stn := rfl
@[simp] theorem Dev.updPort_lane (p : Nat) (f : Port → Port) (d : Dev) : (d.updPort p f).lane = d.lane := rfl
@[simp] theorem Dev.updPort_enc (p : Nat) (f : Port → Port) (d : Dev) : (d.updPort p f).enc = d.enc := rfl
@[simp] theorem Dev.updPort_cueHold (p : Nat) (f : Port → Port) (d : Dev) : (d.updPort p f).cueHold = d.cueHold := rfl
@[simp] theorem Dev.updPort_cal (p : Nat) (f : Port → Port) (d : Dev) : (d.updPort p f).cal = d.cal := rfl
@[simp] theorem Dev.updPort_axis (p : Nat) (f : Port → Port) (d : Dev) : (d.updPort p f).axis = d.axis := rfl
@[simp] theorem Dev.updPort_prof (p : Nat) (f : Port → Port) (d : Dev) : (d.updPort p f).prof = d.prof := rfl
@[simp] theorem Dev.updPort_step (p : Nat) (f : Port → Port) (d : Dev) : (d.updPort p f).step = d.step := rfl
@[simp] theorem Dev.updPort_ain (p : Nat) (f : Port → Port) (d : Dev) : (d.updPort p f).ain = d.ain := rfl
@[simp] theorem Dev.updPort_loop (p : Nat) (f : Port → Port) (d : Dev) : (d.updPort p f).loop = d.loop := rfl
@[simp] theorem Dev.updPort_act (p : Nat) (f : Port → Port) (d : Dev) : (d.updPort p f).act = d.act := rfl
@[simp] theorem Dev.updPort_lamp (p : Nat) (f : Port → Port) (d : Dev) : (d.updPort p f).lamp = d.lamp := rfl
@[simp] theorem Dev.updPort_pll (p : Nat) (f : Port → Port) (d : Dev) : (d.updPort p f).pll = d.pll := rfl
@[simp] theorem Dev.updPort_clko (p : Nat) (f : Port → Port) (d : Dev) : (d.updPort p f).clko = d.clko := rfl
@[simp] theorem Dev.updPort_temp (p : Nat) (f : Port → Port) (d : Dev) : (d.updPort p f).temp = d.temp := rfl
@[simp] theorem Dev.updPort_dom (p : Nat) (f : Port → Port) (d : Dev) : (d.updPort p f).dom = d.dom := rfl
@[simp] theorem Dev.updPort_twin (p : Nat) (f : Port → Port) (d : Dev) : (d.updPort p f).twin = d.twin := rfl
@[simp] theorem Dev.updPort_ref (p : Nat) (f : Port → Port) (d : Dev) : (d.updPort p f).ref = d.ref := rfl
@[simp] theorem Dev.updPort_free (p : Nat) (f : Port → Port) (d : Dev) : (d.updPort p f).free = d.free := rfl

@[simp] theorem Dev.updAxis_clk (a : Nat) (f : Axis → Axis) (d : Dev) : (d.updAxis a f).clk = d.clk := rfl
@[simp] theorem Dev.updAxis_units (a : Nat) (f : Axis → Axis) (d : Dev) : (d.updAxis a f).units = d.units := rfl
@[simp] theorem Dev.updAxis_ctr (a : Nat) (f : Axis → Axis) (d : Dev) : (d.updAxis a f).ctr = d.ctr := rfl
@[simp] theorem Dev.updAxis_host (a : Nat) (f : Axis → Axis) (d : Dev) : (d.updAxis a f).host = d.host := rfl
@[simp] theorem Dev.updAxis_boot (a : Nat) (f : Axis → Axis) (d : Dev) : (d.updAxis a f).boot = d.boot := rfl
@[simp] theorem Dev.updAxis_pins (a : Nat) (f : Axis → Axis) (d : Dev) : (d.updAxis a f).pins = d.pins := rfl
@[simp] theorem Dev.updAxis_eng (a : Nat) (f : Axis → Axis) (d : Dev) : (d.updAxis a f).eng = d.eng := rfl
@[simp] theorem Dev.updAxis_jobs (a : Nat) (f : Axis → Axis) (d : Dev) : (d.updAxis a f).jobs = d.jobs := rfl
@[simp] theorem Dev.updAxis_plane (a : Nat) (f : Axis → Axis) (d : Dev) : (d.updAxis a f).plane = d.plane := rfl
@[simp] theorem Dev.updAxis_stn (a : Nat) (f : Axis → Axis) (d : Dev) : (d.updAxis a f).stn = d.stn := rfl
@[simp] theorem Dev.updAxis_lane (a : Nat) (f : Axis → Axis) (d : Dev) : (d.updAxis a f).lane = d.lane := rfl
@[simp] theorem Dev.updAxis_enc (a : Nat) (f : Axis → Axis) (d : Dev) : (d.updAxis a f).enc = d.enc := rfl
@[simp] theorem Dev.updAxis_cueHold (a : Nat) (f : Axis → Axis) (d : Dev) : (d.updAxis a f).cueHold = d.cueHold := rfl
@[simp] theorem Dev.updAxis_cal (a : Nat) (f : Axis → Axis) (d : Dev) : (d.updAxis a f).cal = d.cal := rfl
@[simp] theorem Dev.updAxis_prof (a : Nat) (f : Axis → Axis) (d : Dev) : (d.updAxis a f).prof = d.prof := rfl
@[simp] theorem Dev.updAxis_step (a : Nat) (f : Axis → Axis) (d : Dev) : (d.updAxis a f).step = d.step := rfl
@[simp] theorem Dev.updAxis_ain (a : Nat) (f : Axis → Axis) (d : Dev) : (d.updAxis a f).ain = d.ain := rfl
@[simp] theorem Dev.updAxis_loop (a : Nat) (f : Axis → Axis) (d : Dev) : (d.updAxis a f).loop = d.loop := rfl
@[simp] theorem Dev.updAxis_act (a : Nat) (f : Axis → Axis) (d : Dev) : (d.updAxis a f).act = d.act := rfl
@[simp] theorem Dev.updAxis_lamp (a : Nat) (f : Axis → Axis) (d : Dev) : (d.updAxis a f).lamp = d.lamp := rfl
@[simp] theorem Dev.updAxis_pll (a : Nat) (f : Axis → Axis) (d : Dev) : (d.updAxis a f).pll = d.pll := rfl
@[simp] theorem Dev.updAxis_clko (a : Nat) (f : Axis → Axis) (d : Dev) : (d.updAxis a f).clko = d.clko := rfl
@[simp] theorem Dev.updAxis_temp (a : Nat) (f : Axis → Axis) (d : Dev) : (d.updAxis a f).temp = d.temp := rfl
@[simp] theorem Dev.updAxis_dom (a : Nat) (f : Axis → Axis) (d : Dev) : (d.updAxis a f).dom = d.dom := rfl
@[simp] theorem Dev.updAxis_fab (a : Nat) (f : Axis → Axis) (d : Dev) : (d.updAxis a f).fab = d.fab := rfl
@[simp] theorem Dev.updAxis_twin (a : Nat) (f : Axis → Axis) (d : Dev) : (d.updAxis a f).twin = d.twin := rfl
@[simp] theorem Dev.updAxis_ref (a : Nat) (f : Axis → Axis) (d : Dev) : (d.updAxis a f).ref = d.ref := rfl
@[simp] theorem Dev.updAxis_free (a : Nat) (f : Axis → Axis) (d : Dev) : (d.updAxis a f).free = d.free := rfl

@[simp] theorem Dev.updStep_clk (a : Nat) (f : Stepper → Stepper) (d : Dev) : (d.updStep a f).clk = d.clk := rfl
@[simp] theorem Dev.updStep_units (a : Nat) (f : Stepper → Stepper) (d : Dev) : (d.updStep a f).units = d.units := rfl
@[simp] theorem Dev.updStep_ctr (a : Nat) (f : Stepper → Stepper) (d : Dev) : (d.updStep a f).ctr = d.ctr := rfl
@[simp] theorem Dev.updStep_host (a : Nat) (f : Stepper → Stepper) (d : Dev) : (d.updStep a f).host = d.host := rfl
@[simp] theorem Dev.updStep_boot (a : Nat) (f : Stepper → Stepper) (d : Dev) : (d.updStep a f).boot = d.boot := rfl
@[simp] theorem Dev.updStep_pins (a : Nat) (f : Stepper → Stepper) (d : Dev) : (d.updStep a f).pins = d.pins := rfl
@[simp] theorem Dev.updStep_eng (a : Nat) (f : Stepper → Stepper) (d : Dev) : (d.updStep a f).eng = d.eng := rfl
@[simp] theorem Dev.updStep_jobs (a : Nat) (f : Stepper → Stepper) (d : Dev) : (d.updStep a f).jobs = d.jobs := rfl
@[simp] theorem Dev.updStep_plane (a : Nat) (f : Stepper → Stepper) (d : Dev) : (d.updStep a f).plane = d.plane := rfl
@[simp] theorem Dev.updStep_stn (a : Nat) (f : Stepper → Stepper) (d : Dev) : (d.updStep a f).stn = d.stn := rfl
@[simp] theorem Dev.updStep_lane (a : Nat) (f : Stepper → Stepper) (d : Dev) : (d.updStep a f).lane = d.lane := rfl
@[simp] theorem Dev.updStep_enc (a : Nat) (f : Stepper → Stepper) (d : Dev) : (d.updStep a f).enc = d.enc := rfl
@[simp] theorem Dev.updStep_cueHold (a : Nat) (f : Stepper → Stepper) (d : Dev) : (d.updStep a f).cueHold = d.cueHold := rfl
@[simp] theorem Dev.updStep_cal (a : Nat) (f : Stepper → Stepper) (d : Dev) : (d.updStep a f).cal = d.cal := rfl
@[simp] theorem Dev.updStep_axis (a : Nat) (f : Stepper → Stepper) (d : Dev) : (d.updStep a f).axis = d.axis := rfl
@[simp] theorem Dev.updStep_prof (a : Nat) (f : Stepper → Stepper) (d : Dev) : (d.updStep a f).prof = d.prof := rfl
@[simp] theorem Dev.updStep_ain (a : Nat) (f : Stepper → Stepper) (d : Dev) : (d.updStep a f).ain = d.ain := rfl
@[simp] theorem Dev.updStep_loop (a : Nat) (f : Stepper → Stepper) (d : Dev) : (d.updStep a f).loop = d.loop := rfl
@[simp] theorem Dev.updStep_act (a : Nat) (f : Stepper → Stepper) (d : Dev) : (d.updStep a f).act = d.act := rfl
@[simp] theorem Dev.updStep_lamp (a : Nat) (f : Stepper → Stepper) (d : Dev) : (d.updStep a f).lamp = d.lamp := rfl
@[simp] theorem Dev.updStep_pll (a : Nat) (f : Stepper → Stepper) (d : Dev) : (d.updStep a f).pll = d.pll := rfl
@[simp] theorem Dev.updStep_clko (a : Nat) (f : Stepper → Stepper) (d : Dev) : (d.updStep a f).clko = d.clko := rfl
@[simp] theorem Dev.updStep_temp (a : Nat) (f : Stepper → Stepper) (d : Dev) : (d.updStep a f).temp = d.temp := rfl
@[simp] theorem Dev.updStep_dom (a : Nat) (f : Stepper → Stepper) (d : Dev) : (d.updStep a f).dom = d.dom := rfl
@[simp] theorem Dev.updStep_fab (a : Nat) (f : Stepper → Stepper) (d : Dev) : (d.updStep a f).fab = d.fab := rfl
@[simp] theorem Dev.updStep_twin (a : Nat) (f : Stepper → Stepper) (d : Dev) : (d.updStep a f).twin = d.twin := rfl
@[simp] theorem Dev.updStep_ref (a : Nat) (f : Stepper → Stepper) (d : Dev) : (d.updStep a f).ref = d.ref := rfl
@[simp] theorem Dev.updStep_free (a : Nat) (f : Stepper → Stepper) (d : Dev) : (d.updStep a f).free = d.free := rfl

@[simp] theorem Dev.updLoop_clk (a : Nat) (f : Loop → Loop) (d : Dev) : (d.updLoop a f).clk = d.clk := rfl
@[simp] theorem Dev.updLoop_units (a : Nat) (f : Loop → Loop) (d : Dev) : (d.updLoop a f).units = d.units := rfl
@[simp] theorem Dev.updLoop_ctr (a : Nat) (f : Loop → Loop) (d : Dev) : (d.updLoop a f).ctr = d.ctr := rfl
@[simp] theorem Dev.updLoop_host (a : Nat) (f : Loop → Loop) (d : Dev) : (d.updLoop a f).host = d.host := rfl
@[simp] theorem Dev.updLoop_boot (a : Nat) (f : Loop → Loop) (d : Dev) : (d.updLoop a f).boot = d.boot := rfl
@[simp] theorem Dev.updLoop_pins (a : Nat) (f : Loop → Loop) (d : Dev) : (d.updLoop a f).pins = d.pins := rfl
@[simp] theorem Dev.updLoop_eng (a : Nat) (f : Loop → Loop) (d : Dev) : (d.updLoop a f).eng = d.eng := rfl
@[simp] theorem Dev.updLoop_jobs (a : Nat) (f : Loop → Loop) (d : Dev) : (d.updLoop a f).jobs = d.jobs := rfl
@[simp] theorem Dev.updLoop_plane (a : Nat) (f : Loop → Loop) (d : Dev) : (d.updLoop a f).plane = d.plane := rfl
@[simp] theorem Dev.updLoop_stn (a : Nat) (f : Loop → Loop) (d : Dev) : (d.updLoop a f).stn = d.stn := rfl
@[simp] theorem Dev.updLoop_lane (a : Nat) (f : Loop → Loop) (d : Dev) : (d.updLoop a f).lane = d.lane := rfl
@[simp] theorem Dev.updLoop_enc (a : Nat) (f : Loop → Loop) (d : Dev) : (d.updLoop a f).enc = d.enc := rfl
@[simp] theorem Dev.updLoop_cueHold (a : Nat) (f : Loop → Loop) (d : Dev) : (d.updLoop a f).cueHold = d.cueHold := rfl
@[simp] theorem Dev.updLoop_cal (a : Nat) (f : Loop → Loop) (d : Dev) : (d.updLoop a f).cal = d.cal := rfl
@[simp] theorem Dev.updLoop_axis (a : Nat) (f : Loop → Loop) (d : Dev) : (d.updLoop a f).axis = d.axis := rfl
@[simp] theorem Dev.updLoop_prof (a : Nat) (f : Loop → Loop) (d : Dev) : (d.updLoop a f).prof = d.prof := rfl
@[simp] theorem Dev.updLoop_step (a : Nat) (f : Loop → Loop) (d : Dev) : (d.updLoop a f).step = d.step := rfl
@[simp] theorem Dev.updLoop_ain (a : Nat) (f : Loop → Loop) (d : Dev) : (d.updLoop a f).ain = d.ain := rfl
@[simp] theorem Dev.updLoop_act (a : Nat) (f : Loop → Loop) (d : Dev) : (d.updLoop a f).act = d.act := rfl
@[simp] theorem Dev.updLoop_lamp (a : Nat) (f : Loop → Loop) (d : Dev) : (d.updLoop a f).lamp = d.lamp := rfl
@[simp] theorem Dev.updLoop_pll (a : Nat) (f : Loop → Loop) (d : Dev) : (d.updLoop a f).pll = d.pll := rfl
@[simp] theorem Dev.updLoop_clko (a : Nat) (f : Loop → Loop) (d : Dev) : (d.updLoop a f).clko = d.clko := rfl
@[simp] theorem Dev.updLoop_temp (a : Nat) (f : Loop → Loop) (d : Dev) : (d.updLoop a f).temp = d.temp := rfl
@[simp] theorem Dev.updLoop_dom (a : Nat) (f : Loop → Loop) (d : Dev) : (d.updLoop a f).dom = d.dom := rfl
@[simp] theorem Dev.updLoop_fab (a : Nat) (f : Loop → Loop) (d : Dev) : (d.updLoop a f).fab = d.fab := rfl
@[simp] theorem Dev.updLoop_twin (a : Nat) (f : Loop → Loop) (d : Dev) : (d.updLoop a f).twin = d.twin := rfl
@[simp] theorem Dev.updLoop_ref (a : Nat) (f : Loop → Loop) (d : Dev) : (d.updLoop a f).ref = d.ref := rfl
@[simp] theorem Dev.updLoop_free (a : Nat) (f : Loop → Loop) (d : Dev) : (d.updLoop a f).free = d.free := rfl

@[simp] theorem Dev.updChan_clk (c : Nat) (f : Chan → Chan) (d : Dev) : (d.updChan c f).clk = d.clk := rfl
@[simp] theorem Dev.updChan_units (c : Nat) (f : Chan → Chan) (d : Dev) : (d.updChan c f).units = d.units := rfl
@[simp] theorem Dev.updChan_ctr (c : Nat) (f : Chan → Chan) (d : Dev) : (d.updChan c f).ctr = d.ctr := rfl
@[simp] theorem Dev.updChan_host (c : Nat) (f : Chan → Chan) (d : Dev) : (d.updChan c f).host = d.host := rfl
@[simp] theorem Dev.updChan_boot (c : Nat) (f : Chan → Chan) (d : Dev) : (d.updChan c f).boot = d.boot := rfl
@[simp] theorem Dev.updChan_pins (c : Nat) (f : Chan → Chan) (d : Dev) : (d.updChan c f).pins = d.pins := rfl
@[simp] theorem Dev.updChan_eng (c : Nat) (f : Chan → Chan) (d : Dev) : (d.updChan c f).eng = d.eng := rfl
@[simp] theorem Dev.updChan_jobs (c : Nat) (f : Chan → Chan) (d : Dev) : (d.updChan c f).jobs = d.jobs := rfl
@[simp] theorem Dev.updChan_stn (c : Nat) (f : Chan → Chan) (d : Dev) : (d.updChan c f).stn = d.stn := rfl
@[simp] theorem Dev.updChan_lane (c : Nat) (f : Chan → Chan) (d : Dev) : (d.updChan c f).lane = d.lane := rfl
@[simp] theorem Dev.updChan_enc (c : Nat) (f : Chan → Chan) (d : Dev) : (d.updChan c f).enc = d.enc := rfl
@[simp] theorem Dev.updChan_cueHold (c : Nat) (f : Chan → Chan) (d : Dev) : (d.updChan c f).cueHold = d.cueHold := rfl
@[simp] theorem Dev.updChan_cal (c : Nat) (f : Chan → Chan) (d : Dev) : (d.updChan c f).cal = d.cal := rfl
@[simp] theorem Dev.updChan_axis (c : Nat) (f : Chan → Chan) (d : Dev) : (d.updChan c f).axis = d.axis := rfl
@[simp] theorem Dev.updChan_prof (c : Nat) (f : Chan → Chan) (d : Dev) : (d.updChan c f).prof = d.prof := rfl
@[simp] theorem Dev.updChan_step (c : Nat) (f : Chan → Chan) (d : Dev) : (d.updChan c f).step = d.step := rfl
@[simp] theorem Dev.updChan_ain (c : Nat) (f : Chan → Chan) (d : Dev) : (d.updChan c f).ain = d.ain := rfl
@[simp] theorem Dev.updChan_loop (c : Nat) (f : Chan → Chan) (d : Dev) : (d.updChan c f).loop = d.loop := rfl
@[simp] theorem Dev.updChan_act (c : Nat) (f : Chan → Chan) (d : Dev) : (d.updChan c f).act = d.act := rfl
@[simp] theorem Dev.updChan_lamp (c : Nat) (f : Chan → Chan) (d : Dev) : (d.updChan c f).lamp = d.lamp := rfl
@[simp] theorem Dev.updChan_pll (c : Nat) (f : Chan → Chan) (d : Dev) : (d.updChan c f).pll = d.pll := rfl
@[simp] theorem Dev.updChan_clko (c : Nat) (f : Chan → Chan) (d : Dev) : (d.updChan c f).clko = d.clko := rfl
@[simp] theorem Dev.updChan_temp (c : Nat) (f : Chan → Chan) (d : Dev) : (d.updChan c f).temp = d.temp := rfl
@[simp] theorem Dev.updChan_dom (c : Nat) (f : Chan → Chan) (d : Dev) : (d.updChan c f).dom = d.dom := rfl
@[simp] theorem Dev.updChan_fab (c : Nat) (f : Chan → Chan) (d : Dev) : (d.updChan c f).fab = d.fab := rfl
@[simp] theorem Dev.updChan_twin (c : Nat) (f : Chan → Chan) (d : Dev) : (d.updChan c f).twin = d.twin := rfl
@[simp] theorem Dev.updChan_ref (c : Nat) (f : Chan → Chan) (d : Dev) : (d.updChan c f).ref = d.ref := rfl
@[simp] theorem Dev.updChan_free (c : Nat) (f : Chan → Chan) (d : Dev) : (d.updChan c f).free = d.free := rfl

@[simp] theorem Dev.setCount_clk (e : Nat) (c : Int) (d : Dev) : (d.setCount e c).clk = d.clk := rfl
@[simp] theorem Dev.setCount_units (e : Nat) (c : Int) (d : Dev) : (d.setCount e c).units = d.units := rfl
@[simp] theorem Dev.setCount_ctr (e : Nat) (c : Int) (d : Dev) : (d.setCount e c).ctr = d.ctr := rfl
@[simp] theorem Dev.setCount_host (e : Nat) (c : Int) (d : Dev) : (d.setCount e c).host = d.host := rfl
@[simp] theorem Dev.setCount_boot (e : Nat) (c : Int) (d : Dev) : (d.setCount e c).boot = d.boot := rfl
@[simp] theorem Dev.setCount_pins (e : Nat) (c : Int) (d : Dev) : (d.setCount e c).pins = d.pins := rfl
@[simp] theorem Dev.setCount_eng (e : Nat) (c : Int) (d : Dev) : (d.setCount e c).eng = d.eng := rfl
@[simp] theorem Dev.setCount_jobs (e : Nat) (c : Int) (d : Dev) : (d.setCount e c).jobs = d.jobs := rfl
@[simp] theorem Dev.setCount_plane (e : Nat) (c : Int) (d : Dev) : (d.setCount e c).plane = d.plane := rfl
@[simp] theorem Dev.setCount_stn (e : Nat) (c : Int) (d : Dev) : (d.setCount e c).stn = d.stn := rfl
@[simp] theorem Dev.setCount_lane (e : Nat) (c : Int) (d : Dev) : (d.setCount e c).lane = d.lane := rfl
@[simp] theorem Dev.setCount_cueHold (e : Nat) (c : Int) (d : Dev) : (d.setCount e c).cueHold = d.cueHold := rfl
@[simp] theorem Dev.setCount_cal (e : Nat) (c : Int) (d : Dev) : (d.setCount e c).cal = d.cal := rfl
@[simp] theorem Dev.setCount_axis (e : Nat) (c : Int) (d : Dev) : (d.setCount e c).axis = d.axis := rfl
@[simp] theorem Dev.setCount_prof (e : Nat) (c : Int) (d : Dev) : (d.setCount e c).prof = d.prof := rfl
@[simp] theorem Dev.setCount_step (e : Nat) (c : Int) (d : Dev) : (d.setCount e c).step = d.step := rfl
@[simp] theorem Dev.setCount_ain (e : Nat) (c : Int) (d : Dev) : (d.setCount e c).ain = d.ain := rfl
@[simp] theorem Dev.setCount_loop (e : Nat) (c : Int) (d : Dev) : (d.setCount e c).loop = d.loop := rfl
@[simp] theorem Dev.setCount_act (e : Nat) (c : Int) (d : Dev) : (d.setCount e c).act = d.act := rfl
@[simp] theorem Dev.setCount_lamp (e : Nat) (c : Int) (d : Dev) : (d.setCount e c).lamp = d.lamp := rfl
@[simp] theorem Dev.setCount_pll (e : Nat) (c : Int) (d : Dev) : (d.setCount e c).pll = d.pll := rfl
@[simp] theorem Dev.setCount_clko (e : Nat) (c : Int) (d : Dev) : (d.setCount e c).clko = d.clko := rfl
@[simp] theorem Dev.setCount_temp (e : Nat) (c : Int) (d : Dev) : (d.setCount e c).temp = d.temp := rfl
@[simp] theorem Dev.setCount_dom (e : Nat) (c : Int) (d : Dev) : (d.setCount e c).dom = d.dom := rfl
@[simp] theorem Dev.setCount_fab (e : Nat) (c : Int) (d : Dev) : (d.setCount e c).fab = d.fab := rfl
@[simp] theorem Dev.setCount_twin (e : Nat) (c : Int) (d : Dev) : (d.setCount e c).twin = d.twin := rfl
@[simp] theorem Dev.setCount_ref (e : Nat) (c : Int) (d : Dev) : (d.setCount e c).ref = d.ref := rfl
@[simp] theorem Dev.setCount_free (e : Nat) (c : Int) (d : Dev) : (d.setCount e c).free = d.free := rfl


/-- Registering an instant moves the present to it, never back (log entry 1). -/
@[simp] theorem Dev.enter_now (t r : Nat) (d : Dev) : (d.enter t r).clk.now = d.clk.registered t r := rfl
@[simp] theorem Dev.enter_rank (t r : Nat) (d : Dev) : (d.enter t r).clk.rank = r := rfl
@[simp] theorem Dev.enter_us (t r u : Nat) (d : Dev) : (d.enter t r).us u = d.us u := rfl
@[simp] theorem Dev.enter_ust (t r u : Nat) (d : Dev) : (d.enter t r).ust u = d.ust u := rfl
@[simp] theorem Dev.enter_ctrAt (t r u : Nat) (c : Ctr) (d : Dev) : (d.enter t r).ctrAt u c = d.ctrAt u c := rfl
@[simp] theorem Dev.enter_cfgU (t r u : Nat) (rt : RT) (f : F) (d : Dev) : (d.enter t r).cfgU rt u f = d.cfgU rt u f := rfl
@[simp] theorem Dev.enter_cfg (t r i : Nat) (rt : RT) (f : F) (d : Dev) : (d.enter t r).cfg rt i f = d.cfg rt i f := rfl
@[simp] theorem Dev.enter_cfgN (t r i : Nat) (rt : RT) (f : F) (d : Dev) : (d.enter t r).cfgN rt i f = d.cfgN rt i f := rfl
@[simp] theorem Dev.enter_cfgB (t r i : Nat) (rt : RT) (f : F) (d : Dev) : (d.enter t r).cfgB rt i f = d.cfgB rt i f := rfl
@[simp] theorem Dev.enter_has (t r i : Nat) (rt : RT) (d : Dev) : (d.enter t r).has rt i = d.has rt i := rfl
@[simp] theorem Dev.enter_isJet (t r n : Nat) (d : Dev) : (d.enter t r).isJet n = d.isJet n := rfl
@[simp] theorem Dev.enter_isScan (t r n : Nat) (d : Dev) : (d.enter t r).isScan n = d.isScan n := rfl
@[simp] theorem Dev.enter_stnOn (t r n : Nat) (d : Dev) : (d.enter t r).stnOn n = d.stnOn n := rfl
@[simp] theorem Dev.enter_isTwin (t r : Nat) (d : Dev) : (d.enter t r).isTwin = d.isTwin := rfl
@[simp] theorem Dev.enter_isActive (t r : Nat) (d : Dev) : (d.enter t r).isActive = d.isActive := rfl
@[simp] theorem Dev.enter_node (t r : Nat) (d : Dev) : (d.enter t r).node = d.node := rfl

/-- Two counters share a key only if they are one. -/
theorem ctrKey_inj {u v : Nat} {c k : Ctr} (h : ctrKey u c = ctrKey v k) : u = v ∧ c = k := by
  have hc : c.ctorIdx < 256 := by cases c <;> decide
  have hk : k.ctorIdx < 256 := by cases k <;> decide
  unfold ctrKey at h
  have e : c.ctorIdx = k.ctorIdx := by omega
  refine ⟨by omega, ?_⟩
  rw [← Ctr.ofNat_ctorIdx c, e, Ctr.ofNat_ctorIdx]

@[simp] theorem Dev.bump_ctrAt_same (u : Nat) (c : Ctr) (n : Nat) (d : Dev) :
    (d.bump u c n).ctrAt u c = d.ctrAt u c + BitVec.ofNat 64 n := by
  simp [Dev.ctrAt, Dev.bump]

theorem Dev.bump_ctrAt_ne {u v : Nat} {c k : Ctr} (n : Nat) (d : Dev) (h : ¬(v = u ∧ k = c)) :
    (d.bump u c n).ctrAt v k = d.ctrAt v k := by
  have : ctrKey v k ≠ ctrKey u c := fun e => h (ctrKey_inj e)
  simp [Dev.ctrAt, Dev.bump, this]

@[simp] theorem Dev.setCtr_ctrAt_same (u : Nat) (c : Ctr) (v : Int) (d : Dev) :
    (d.setCtr u c v).ctrAt u c = BitVec.ofInt 64 v := by
  simp [Dev.ctrAt, Dev.setCtr]

@[simp] theorem Dev.bump_us (u v : Nat) (c : Ctr) (n : Nat) (d : Dev) : (d.bump u c n).us v = d.us v := rfl
@[simp] theorem Dev.bump_ust (u v : Nat) (c : Ctr) (n : Nat) (d : Dev) : (d.bump u c n).ust v = d.ust v := rfl

@[simp] theorem Dev.updStn_at (n : Nat) (f : Stn → Stn) (d : Dev) : (d.updStn n f).stn.at n = f (d.stn.at n) := by
  simp [Dev.updStn]
@[simp] theorem Dev.updLane_at (l : Nat) (f : Lane → Lane) (d : Dev) : (d.updLane l f).lane.at l = f (d.lane.at l) := by
  simp [Dev.updLane]
@[simp] theorem Dev.updPll_at (i : Nat) (f : Pll → Pll) (d : Dev) : (d.updPll i f).pll.at i = f (d.pll.at i) := by
  simp [Dev.updPll]
@[simp] theorem Dev.updAxis_at (a : Nat) (f : Axis → Axis) (d : Dev) : (d.updAxis a f).axis.at a = f (d.axis.at a) := by
  simp [Dev.updAxis]
@[simp] theorem Dev.updStep_at (a : Nat) (f : Stepper → Stepper) (d : Dev) : (d.updStep a f).step.at a = f (d.step.at a) := by
  simp [Dev.updStep]
@[simp] theorem Dev.updLoop_at (a : Nat) (f : Loop → Loop) (d : Dev) : (d.updLoop a f).loop.at a = f (d.loop.at a) := by
  simp [Dev.updLoop]
@[simp] theorem Dev.updPort_at (p : Nat) (f : Port → Port) (d : Dev) :
    (d.updPort p f).fab.ports.at p = f (d.fab.ports.at p) := by
  simp [Dev.updPort]
@[simp] theorem Dev.updChan_at (c : Nat) (f : Chan → Chan) (d : Dev) :
    (d.updChan c f).plane.ch.at c = f (d.plane.ch.at c) := by
  simp [Dev.updChan]

end Sys2Proof.Machine
end

