-- ==== Sys2Proof/Laws/Drives.lean ====
section
/-! SUPPORT. What new duties, new bridges, a profile, a referee and noted flaws leave alone, and when a new duty acts. -/

namespace Sys2Proof.Machine

@[simp] theorem Dev.newDuties_clk (a u v w : Nat) (d : Dev) : (d.newDuties a u v w).clk = d.clk := rfl
@[simp] theorem Dev.newDuties_units (a u v w : Nat) (d : Dev) : (d.newDuties a u v w).units = d.units := rfl
@[simp] theorem Dev.newDuties_ctr (a u v w : Nat) (d : Dev) : (d.newDuties a u v w).ctr = d.ctr := rfl
@[simp] theorem Dev.newDuties_host (a u v w : Nat) (d : Dev) : (d.newDuties a u v w).host = d.host := rfl
@[simp] theorem Dev.newDuties_boot (a u v w : Nat) (d : Dev) : (d.newDuties a u v w).boot = d.boot := rfl
@[simp] theorem Dev.newDuties_pins (a u v w : Nat) (d : Dev) : (d.newDuties a u v w).pins = d.pins := rfl
@[simp] theorem Dev.newDuties_eng (a u v w : Nat) (d : Dev) : (d.newDuties a u v w).eng = d.eng := rfl
@[simp] theorem Dev.newDuties_jobs (a u v w : Nat) (d : Dev) : (d.newDuties a u v w).jobs = d.jobs := rfl
@[simp] theorem Dev.newDuties_plane (a u v w : Nat) (d : Dev) : (d.newDuties a u v w).plane = d.plane := rfl
@[simp] theorem Dev.newDuties_stn (a u v w : Nat) (d : Dev) : (d.newDuties a u v w).stn = d.stn := rfl
@[simp] theorem Dev.newDuties_lane (a u v w : Nat) (d : Dev) : (d.newDuties a u v w).lane = d.lane := rfl
@[simp] theorem Dev.newDuties_enc (a u v w : Nat) (d : Dev) : (d.newDuties a u v w).enc = d.enc := rfl
@[simp] theorem Dev.newDuties_cueHold (a u v w : Nat) (d : Dev) : (d.newDuties a u v w).cueHold = d.cueHold := rfl
@[simp] theorem Dev.newDuties_cal (a u v w : Nat) (d : Dev) : (d.newDuties a u v w).cal = d.cal := rfl
@[simp] theorem Dev.newDuties_prof (a u v w : Nat) (d : Dev) : (d.newDuties a u v w).prof = d.prof := rfl
@[simp] theorem Dev.newDuties_step (a u v w : Nat) (d : Dev) : (d.newDuties a u v w).step = d.step := rfl
@[simp] theorem Dev.newDuties_ain (a u v w : Nat) (d : Dev) : (d.newDuties a u v w).ain = d.ain := rfl
@[simp] theorem Dev.newDuties_loop (a u v w : Nat) (d : Dev) : (d.newDuties a u v w).loop = d.loop := rfl
@[simp] theorem Dev.newDuties_act (a u v w : Nat) (d : Dev) : (d.newDuties a u v w).act = d.act := rfl
@[simp] theorem Dev.newDuties_lamp (a u v w : Nat) (d : Dev) : (d.newDuties a u v w).lamp = d.lamp := rfl
@[simp] theorem Dev.newDuties_pll (a u v w : Nat) (d : Dev) : (d.newDuties a u v w).pll = d.pll := rfl
@[simp] theorem Dev.newDuties_clko (a u v w : Nat) (d : Dev) : (d.newDuties a u v w).clko = d.clko := rfl
@[simp] theorem Dev.newDuties_temp (a u v w : Nat) (d : Dev) : (d.newDuties a u v w).temp = d.temp := rfl
@[simp] theorem Dev.newDuties_dom (a u v w : Nat) (d : Dev) : (d.newDuties a u v w).dom = d.dom := rfl
@[simp] theorem Dev.newDuties_fab (a u v w : Nat) (d : Dev) : (d.newDuties a u v w).fab = d.fab := rfl
@[simp] theorem Dev.newDuties_twin (a u v w : Nat) (d : Dev) : (d.newDuties a u v w).twin = d.twin := rfl
@[simp] theorem Dev.newDuties_ref (a u v w : Nat) (d : Dev) : (d.newDuties a u v w).ref = d.ref := rfl
@[simp] theorem Dev.newDuties_free (a u v w : Nat) (d : Dev) : (d.newDuties a u v w).free = d.free := rfl

@[simp] theorem Dev.newBridges_clk (i : Nat) (a b : Bridge) (d : Dev) : (d.newBridges i a b).clk = d.clk := rfl
@[simp] theorem Dev.newBridges_units (i : Nat) (a b : Bridge) (d : Dev) : (d.newBridges i a b).units = d.units := rfl
@[simp] theorem Dev.newBridges_ctr (i : Nat) (a b : Bridge) (d : Dev) : (d.newBridges i a b).ctr = d.ctr := rfl
@[simp] theorem Dev.newBridges_host (i : Nat) (a b : Bridge) (d : Dev) : (d.newBridges i a b).host = d.host := rfl
@[simp] theorem Dev.newBridges_boot (i : Nat) (a b : Bridge) (d : Dev) : (d.newBridges i a b).boot = d.boot := rfl
@[simp] theorem Dev.newBridges_pins (i : Nat) (a b : Bridge) (d : Dev) : (d.newBridges i a b).pins = d.pins := rfl
@[simp] theorem Dev.newBridges_eng (i : Nat) (a b : Bridge) (d : Dev) : (d.newBridges i a b).eng = d.eng := rfl
@[simp] theorem Dev.newBridges_jobs (i : Nat) (a b : Bridge) (d : Dev) : (d.newBridges i a b).jobs = d.jobs := rfl
@[simp] theorem Dev.newBridges_plane (i : Nat) (a b : Bridge) (d : Dev) : (d.newBridges i a b).plane = d.plane := rfl
@[simp] theorem Dev.newBridges_stn (i : Nat) (a b : Bridge) (d : Dev) : (d.newBridges i a b).stn = d.stn := rfl
@[simp] theorem Dev.newBridges_lane (i : Nat) (a b : Bridge) (d : Dev) : (d.newBridges i a b).lane = d.lane := rfl
@[simp] theorem Dev.newBridges_enc (i : Nat) (a b : Bridge) (d : Dev) : (d.newBridges i a b).enc = d.enc := rfl
@[simp] theorem Dev.newBridges_cueHold (i : Nat) (a b : Bridge) (d : Dev) : (d.newBridges i a b).cueHold = d.cueHold := rfl
@[simp] theorem Dev.newBridges_cal (i : Nat) (a b : Bridge) (d : Dev) : (d.newBridges i a b).cal = d.cal := rfl
@[simp] theorem Dev.newBridges_axis (i : Nat) (a b : Bridge) (d : Dev) : (d.newBridges i a b).axis = d.axis := rfl
@[simp] theorem Dev.newBridges_prof (i : Nat) (a b : Bridge) (d : Dev) : (d.newBridges i a b).prof = d.prof := rfl
@[simp] theorem Dev.newBridges_ain (i : Nat) (a b : Bridge) (d : Dev) : (d.newBridges i a b).ain = d.ain := rfl
@[simp] theorem Dev.newBridges_loop (i : Nat) (a b : Bridge) (d : Dev) : (d.newBridges i a b).loop = d.loop := rfl
@[simp] theorem Dev.newBridges_act (i : Nat) (a b : Bridge) (d : Dev) : (d.newBridges i a b).act = d.act := rfl
@[simp] theorem Dev.newBridges_lamp (i : Nat) (a b : Bridge) (d : Dev) : (d.newBridges i a b).lamp = d.lamp := rfl
@[simp] theorem Dev.newBridges_pll (i : Nat) (a b : Bridge) (d : Dev) : (d.newBridges i a b).pll = d.pll := rfl
@[simp] theorem Dev.newBridges_clko (i : Nat) (a b : Bridge) (d : Dev) : (d.newBridges i a b).clko = d.clko := rfl
@[simp] theorem Dev.newBridges_temp (i : Nat) (a b : Bridge) (d : Dev) : (d.newBridges i a b).temp = d.temp := rfl
@[simp] theorem Dev.newBridges_dom (i : Nat) (a b : Bridge) (d : Dev) : (d.newBridges i a b).dom = d.dom := rfl
@[simp] theorem Dev.newBridges_fab (i : Nat) (a b : Bridge) (d : Dev) : (d.newBridges i a b).fab = d.fab := rfl
@[simp] theorem Dev.newBridges_twin (i : Nat) (a b : Bridge) (d : Dev) : (d.newBridges i a b).twin = d.twin := rfl
@[simp] theorem Dev.newBridges_ref (i : Nat) (a b : Bridge) (d : Dev) : (d.newBridges i a b).ref = d.ref := rfl
@[simp] theorem Dev.newBridges_free (i : Nat) (a b : Bridge) (d : Dev) : (d.newBridges i a b).free = d.free := rfl

@[simp] theorem Dev.updProf_clk (u : Nat) (f : Prof → Prof) (d : Dev) : (d.updProf u f).clk = d.clk := rfl
@[simp] theorem Dev.updProf_units (u : Nat) (f : Prof → Prof) (d : Dev) : (d.updProf u f).units = d.units := rfl
@[simp] theorem Dev.updProf_ctr (u : Nat) (f : Prof → Prof) (d : Dev) : (d.updProf u f).ctr = d.ctr := rfl
@[simp] theorem Dev.updProf_host (u : Nat) (f : Prof → Prof) (d : Dev) : (d.updProf u f).host = d.host := rfl
@[simp] theorem Dev.updProf_boot (u : Nat) (f : Prof → Prof) (d : Dev) : (d.updProf u f).boot = d.boot := rfl
@[simp] theorem Dev.updProf_pins (u : Nat) (f : Prof → Prof) (d : Dev) : (d.updProf u f).pins = d.pins := rfl
@[simp] theorem Dev.updProf_eng (u : Nat) (f : Prof → Prof) (d : Dev) : (d.updProf u f).eng = d.eng := rfl
@[simp] theorem Dev.updProf_jobs (u : Nat) (f : Prof → Prof) (d : Dev) : (d.updProf u f).jobs = d.jobs := rfl
@[simp] theorem Dev.updProf_plane (u : Nat) (f : Prof → Prof) (d : Dev) : (d.updProf u f).plane = d.plane := rfl
@[simp] theorem Dev.updProf_stn (u : Nat) (f : Prof → Prof) (d : Dev) : (d.updProf u f).stn = d.stn := rfl
@[simp] theorem Dev.updProf_lane (u : Nat) (f : Prof → Prof) (d : Dev) : (d.updProf u f).lane = d.lane := rfl
@[simp] theorem Dev.updProf_enc (u : Nat) (f : Prof → Prof) (d : Dev) : (d.updProf u f).enc = d.enc := rfl
@[simp] theorem Dev.updProf_cueHold (u : Nat) (f : Prof → Prof) (d : Dev) : (d.updProf u f).cueHold = d.cueHold := rfl
@[simp] theorem Dev.updProf_cal (u : Nat) (f : Prof → Prof) (d : Dev) : (d.updProf u f).cal = d.cal := rfl
@[simp] theorem Dev.updProf_axis (u : Nat) (f : Prof → Prof) (d : Dev) : (d.updProf u f).axis = d.axis := rfl
@[simp] theorem Dev.updProf_step (u : Nat) (f : Prof → Prof) (d : Dev) : (d.updProf u f).step = d.step := rfl
@[simp] theorem Dev.updProf_ain (u : Nat) (f : Prof → Prof) (d : Dev) : (d.updProf u f).ain = d.ain := rfl
@[simp] theorem Dev.updProf_loop (u : Nat) (f : Prof → Prof) (d : Dev) : (d.updProf u f).loop = d.loop := rfl
@[simp] theorem Dev.updProf_act (u : Nat) (f : Prof → Prof) (d : Dev) : (d.updProf u f).act = d.act := rfl
@[simp] theorem Dev.updProf_lamp (u : Nat) (f : Prof → Prof) (d : Dev) : (d.updProf u f).lamp = d.lamp := rfl
@[simp] theorem Dev.updProf_pll (u : Nat) (f : Prof → Prof) (d : Dev) : (d.updProf u f).pll = d.pll := rfl
@[simp] theorem Dev.updProf_clko (u : Nat) (f : Prof → Prof) (d : Dev) : (d.updProf u f).clko = d.clko := rfl
@[simp] theorem Dev.updProf_temp (u : Nat) (f : Prof → Prof) (d : Dev) : (d.updProf u f).temp = d.temp := rfl
@[simp] theorem Dev.updProf_dom (u : Nat) (f : Prof → Prof) (d : Dev) : (d.updProf u f).dom = d.dom := rfl
@[simp] theorem Dev.updProf_fab (u : Nat) (f : Prof → Prof) (d : Dev) : (d.updProf u f).fab = d.fab := rfl
@[simp] theorem Dev.updProf_twin (u : Nat) (f : Prof → Prof) (d : Dev) : (d.updProf u f).twin = d.twin := rfl
@[simp] theorem Dev.updProf_ref (u : Nat) (f : Prof → Prof) (d : Dev) : (d.updProf u f).ref = d.ref := rfl
@[simp] theorem Dev.updProf_free (u : Nat) (f : Prof → Prof) (d : Dev) : (d.updProf u f).free = d.free := rfl

@[simp] theorem Dev.updRef_clk (lo : Nat) (f : Ref → Ref) (d : Dev) : (d.updRef lo f).clk = d.clk := rfl
@[simp] theorem Dev.updRef_units (lo : Nat) (f : Ref → Ref) (d : Dev) : (d.updRef lo f).units = d.units := rfl
@[simp] theorem Dev.updRef_ctr (lo : Nat) (f : Ref → Ref) (d : Dev) : (d.updRef lo f).ctr = d.ctr := rfl
@[simp] theorem Dev.updRef_host (lo : Nat) (f : Ref → Ref) (d : Dev) : (d.updRef lo f).host = d.host := rfl
@[simp] theorem Dev.updRef_boot (lo : Nat) (f : Ref → Ref) (d : Dev) : (d.updRef lo f).boot = d.boot := rfl
@[simp] theorem Dev.updRef_pins (lo : Nat) (f : Ref → Ref) (d : Dev) : (d.updRef lo f).pins = d.pins := rfl
@[simp] theorem Dev.updRef_eng (lo : Nat) (f : Ref → Ref) (d : Dev) : (d.updRef lo f).eng = d.eng := rfl
@[simp] theorem Dev.updRef_jobs (lo : Nat) (f : Ref → Ref) (d : Dev) : (d.updRef lo f).jobs = d.jobs := rfl
@[simp] theorem Dev.updRef_plane (lo : Nat) (f : Ref → Ref) (d : Dev) : (d.updRef lo f).plane = d.plane := rfl
@[simp] theorem Dev.updRef_stn (lo : Nat) (f : Ref → Ref) (d : Dev) : (d.updRef lo f).stn = d.stn := rfl
@[simp] theorem Dev.updRef_lane (lo : Nat) (f : Ref → Ref) (d : Dev) : (d.updRef lo f).lane = d.lane := rfl
@[simp] theorem Dev.updRef_enc (lo : Nat) (f : Ref → Ref) (d : Dev) : (d.updRef lo f).enc = d.enc := rfl
@[simp] theorem Dev.updRef_cueHold (lo : Nat) (f : Ref → Ref) (d : Dev) : (d.updRef lo f).cueHold = d.cueHold := rfl
@[simp] theorem Dev.updRef_cal (lo : Nat) (f : Ref → Ref) (d : Dev) : (d.updRef lo f).cal = d.cal := rfl
@[simp] theorem Dev.updRef_axis (lo : Nat) (f : Ref → Ref) (d : Dev) : (d.updRef lo f).axis = d.axis := rfl
@[simp] theorem Dev.updRef_prof (lo : Nat) (f : Ref → Ref) (d : Dev) : (d.updRef lo f).prof = d.prof := rfl
@[simp] theorem Dev.updRef_step (lo : Nat) (f : Ref → Ref) (d : Dev) : (d.updRef lo f).step = d.step := rfl
@[simp] theorem Dev.updRef_ain (lo : Nat) (f : Ref → Ref) (d : Dev) : (d.updRef lo f).ain = d.ain := rfl
@[simp] theorem Dev.updRef_loop (lo : Nat) (f : Ref → Ref) (d : Dev) : (d.updRef lo f).loop = d.loop := rfl
@[simp] theorem Dev.updRef_act (lo : Nat) (f : Ref → Ref) (d : Dev) : (d.updRef lo f).act = d.act := rfl
@[simp] theorem Dev.updRef_lamp (lo : Nat) (f : Ref → Ref) (d : Dev) : (d.updRef lo f).lamp = d.lamp := rfl
@[simp] theorem Dev.updRef_pll (lo : Nat) (f : Ref → Ref) (d : Dev) : (d.updRef lo f).pll = d.pll := rfl
@[simp] theorem Dev.updRef_clko (lo : Nat) (f : Ref → Ref) (d : Dev) : (d.updRef lo f).clko = d.clko := rfl
@[simp] theorem Dev.updRef_temp (lo : Nat) (f : Ref → Ref) (d : Dev) : (d.updRef lo f).temp = d.temp := rfl
@[simp] theorem Dev.updRef_dom (lo : Nat) (f : Ref → Ref) (d : Dev) : (d.updRef lo f).dom = d.dom := rfl
@[simp] theorem Dev.updRef_fab (lo : Nat) (f : Ref → Ref) (d : Dev) : (d.updRef lo f).fab = d.fab := rfl
@[simp] theorem Dev.updRef_twin (lo : Nat) (f : Ref → Ref) (d : Dev) : (d.updRef lo f).twin = d.twin := rfl
@[simp] theorem Dev.updRef_free (lo : Nat) (f : Ref → Ref) (d : Dev) : (d.updRef lo f).free = d.free := rfl

@[simp] theorem Dev.noteFlaws_clk (xs : List EccFlaw) (d : Dev) : (d.noteFlaws xs).clk = d.clk := rfl
@[simp] theorem Dev.noteFlaws_units (xs : List EccFlaw) (d : Dev) : (d.noteFlaws xs).units = d.units := rfl
@[simp] theorem Dev.noteFlaws_ctr (xs : List EccFlaw) (d : Dev) : (d.noteFlaws xs).ctr = d.ctr := rfl
@[simp] theorem Dev.noteFlaws_host (xs : List EccFlaw) (d : Dev) : (d.noteFlaws xs).host = d.host := rfl
@[simp] theorem Dev.noteFlaws_boot (xs : List EccFlaw) (d : Dev) : (d.noteFlaws xs).boot = d.boot := rfl
@[simp] theorem Dev.noteFlaws_pins (xs : List EccFlaw) (d : Dev) : (d.noteFlaws xs).pins = d.pins := rfl
@[simp] theorem Dev.noteFlaws_eng (xs : List EccFlaw) (d : Dev) : (d.noteFlaws xs).eng = d.eng := rfl
@[simp] theorem Dev.noteFlaws_jobs (xs : List EccFlaw) (d : Dev) : (d.noteFlaws xs).jobs = d.jobs := rfl
@[simp] theorem Dev.noteFlaws_stn (xs : List EccFlaw) (d : Dev) : (d.noteFlaws xs).stn = d.stn := rfl
@[simp] theorem Dev.noteFlaws_lane (xs : List EccFlaw) (d : Dev) : (d.noteFlaws xs).lane = d.lane := rfl
@[simp] theorem Dev.noteFlaws_enc (xs : List EccFlaw) (d : Dev) : (d.noteFlaws xs).enc = d.enc := rfl
@[simp] theorem Dev.noteFlaws_cueHold (xs : List EccFlaw) (d : Dev) : (d.noteFlaws xs).cueHold = d.cueHold := rfl
@[simp] theorem Dev.noteFlaws_cal (xs : List EccFlaw) (d : Dev) : (d.noteFlaws xs).cal = d.cal := rfl
@[simp] theorem Dev.noteFlaws_axis (xs : List EccFlaw) (d : Dev) : (d.noteFlaws xs).axis = d.axis := rfl
@[simp] theorem Dev.noteFlaws_prof (xs : List EccFlaw) (d : Dev) : (d.noteFlaws xs).prof = d.prof := rfl
@[simp] theorem Dev.noteFlaws_step (xs : List EccFlaw) (d : Dev) : (d.noteFlaws xs).step = d.step := rfl
@[simp] theorem Dev.noteFlaws_ain (xs : List EccFlaw) (d : Dev) : (d.noteFlaws xs).ain = d.ain := rfl
@[simp] theorem Dev.noteFlaws_loop (xs : List EccFlaw) (d : Dev) : (d.noteFlaws xs).loop = d.loop := rfl
@[simp] theorem Dev.noteFlaws_act (xs : List EccFlaw) (d : Dev) : (d.noteFlaws xs).act = d.act := rfl
@[simp] theorem Dev.noteFlaws_lamp (xs : List EccFlaw) (d : Dev) : (d.noteFlaws xs).lamp = d.lamp := rfl
@[simp] theorem Dev.noteFlaws_pll (xs : List EccFlaw) (d : Dev) : (d.noteFlaws xs).pll = d.pll := rfl
@[simp] theorem Dev.noteFlaws_clko (xs : List EccFlaw) (d : Dev) : (d.noteFlaws xs).clko = d.clko := rfl
@[simp] theorem Dev.noteFlaws_temp (xs : List EccFlaw) (d : Dev) : (d.noteFlaws xs).temp = d.temp := rfl
@[simp] theorem Dev.noteFlaws_dom (xs : List EccFlaw) (d : Dev) : (d.noteFlaws xs).dom = d.dom := rfl
@[simp] theorem Dev.noteFlaws_fab (xs : List EccFlaw) (d : Dev) : (d.noteFlaws xs).fab = d.fab := rfl
@[simp] theorem Dev.noteFlaws_twin (xs : List EccFlaw) (d : Dev) : (d.noteFlaws xs).twin = d.twin := rfl
@[simp] theorem Dev.noteFlaws_ref (xs : List EccFlaw) (d : Dev) : (d.noteFlaws xs).ref = d.ref := rfl
@[simp] theorem Dev.noteFlaws_free (xs : List EccFlaw) (d : Dev) : (d.noteFlaws xs).free = d.free := rfl

@[simp] theorem Dev.noteFlaws_mem (xs : List EccFlaw) (d : Dev) : (d.noteFlaws xs).plane.mem = d.plane.mem := rfl
@[simp] theorem Dev.noteFlaws_bands (xs : List EccFlaw) (d : Dev) : (d.noteFlaws xs).plane.bands = d.plane.bands := rfl
@[simp] theorem Dev.noteFlaws_ch (xs : List EccFlaw) (d : Dev) : (d.noteFlaws xs).plane.ch = d.plane.ch := rfl

/-- Naming no flaw changes nothing. -/
@[simp] theorem Dev.noteFlaws_nil (d : Dev) : d.noteFlaws [] = d := rfl

/-- New duties of an axis wait for the boundary, which they set, and are the duties from there on (R432). -/
theorem Dev.axisDuties_newDuties (a u v w : Nat) (d : Dev) :
    (d.newDuties a u v w).axisDuties a = if d.qns < d.pwmBoundary a then d.axisDuties a else (u, v, w) := by
  have h : (d.newDuties a u v w).qns = d.qns := rfl
  unfold Dev.axisDuties at *
  rw [h]
  simp [Dev.newDuties, Dev.updAxis, Dev.axisDuties]

/-- New bridges of a stepper wait for the next chopper period (R473, R474). -/
theorem Dev.bridges_newBridges (i : Nat) (a b : Bridge) (d : Dev) :
    (d.newBridges i a b).bridges i = if d.qns < d.chopBoundary i then d.bridges i else (a, b) := by
  have h : (d.newBridges i a b).qns = d.qns := rfl
  unfold Dev.bridges at *
  rw [h]
  simp [Dev.newBridges, Dev.updStep, Dev.bridges]

/-- New duties of one axis leave the duties of another. -/
theorem Dev.axisDuties_newDuties_ne {a b : Nat} (u v w : Nat) (d : Dev) (h : b ≠ a) :
    (d.newDuties a u v w).axisDuties b = d.axisDuties b := by
  have q : (d.newDuties a u v w).qns = d.qns := rfl
  unfold Dev.axisDuties
  rw [q]
  simp [Dev.newDuties, Dev.updAxis, h]

end Sys2Proof.Machine
end

