-- ==== Sys2Proof/Laws/Reports.lean ====
section
/-! SUPPORT. What a send and a report can do, once for each operation. -/

namespace Sys2Proof.Machine

theorem Dev.Sent.clk {e d : Dev} (h : Dev.Sent e d) : d.clk = e.clk := by have q := congrArg Dev.clk h.1; exact q
theorem Dev.Sent.units {e d : Dev} (h : Dev.Sent e d) : d.units = e.units := by have q := congrArg Dev.units h.1; exact q
theorem Dev.Sent.boot {e d : Dev} (h : Dev.Sent e d) : d.boot = e.boot := by have q := congrArg Dev.boot h.1; exact q
theorem Dev.Sent.pins {e d : Dev} (h : Dev.Sent e d) : d.pins = e.pins := by have q := congrArg Dev.pins h.1; exact q
theorem Dev.Sent.eng {e d : Dev} (h : Dev.Sent e d) : d.eng = e.eng := by have q := congrArg Dev.eng h.1; exact q
theorem Dev.Sent.jobs {e d : Dev} (h : Dev.Sent e d) : d.jobs = e.jobs := by have q := congrArg Dev.jobs h.1; exact q
theorem Dev.Sent.plane {e d : Dev} (h : Dev.Sent e d) : d.plane = e.plane := by have q := congrArg Dev.plane h.1; exact q
theorem Dev.Sent.stn {e d : Dev} (h : Dev.Sent e d) : d.stn = e.stn := by have q := congrArg Dev.stn h.1; exact q
theorem Dev.Sent.lane {e d : Dev} (h : Dev.Sent e d) : d.lane = e.lane := by have q := congrArg Dev.lane h.1; exact q
theorem Dev.Sent.enc {e d : Dev} (h : Dev.Sent e d) : d.enc = e.enc := by have q := congrArg Dev.enc h.1; exact q
theorem Dev.Sent.cueHold {e d : Dev} (h : Dev.Sent e d) : d.cueHold = e.cueHold := by have q := congrArg Dev.cueHold h.1; exact q
theorem Dev.Sent.cal {e d : Dev} (h : Dev.Sent e d) : d.cal = e.cal := by have q := congrArg Dev.cal h.1; exact q
theorem Dev.Sent.axis {e d : Dev} (h : Dev.Sent e d) : d.axis = e.axis := by have q := congrArg Dev.axis h.1; exact q
theorem Dev.Sent.prof {e d : Dev} (h : Dev.Sent e d) : d.prof = e.prof := by have q := congrArg Dev.prof h.1; exact q
theorem Dev.Sent.step {e d : Dev} (h : Dev.Sent e d) : d.step = e.step := by have q := congrArg Dev.step h.1; exact q
theorem Dev.Sent.ain {e d : Dev} (h : Dev.Sent e d) : d.ain = e.ain := by have q := congrArg Dev.ain h.1; exact q
theorem Dev.Sent.loop {e d : Dev} (h : Dev.Sent e d) : d.loop = e.loop := by have q := congrArg Dev.loop h.1; exact q
theorem Dev.Sent.act {e d : Dev} (h : Dev.Sent e d) : d.act = e.act := by have q := congrArg Dev.act h.1; exact q
theorem Dev.Sent.lamp {e d : Dev} (h : Dev.Sent e d) : d.lamp = e.lamp := by have q := congrArg Dev.lamp h.1; exact q
theorem Dev.Sent.pll {e d : Dev} (h : Dev.Sent e d) : d.pll = e.pll := by have q := congrArg Dev.pll h.1; exact q
theorem Dev.Sent.clko {e d : Dev} (h : Dev.Sent e d) : d.clko = e.clko := by have q := congrArg Dev.clko h.1; exact q
theorem Dev.Sent.temp {e d : Dev} (h : Dev.Sent e d) : d.temp = e.temp := by have q := congrArg Dev.temp h.1; exact q
theorem Dev.Sent.dom {e d : Dev} (h : Dev.Sent e d) : d.dom = e.dom := by have q := congrArg Dev.dom h.1; exact q
theorem Dev.Sent.twin {e d : Dev} (h : Dev.Sent e d) : d.twin = e.twin := by have q := congrArg Dev.twin h.1; exact q
theorem Dev.Sent.ref {e d : Dev} (h : Dev.Sent e d) : d.ref = e.ref := by have q := congrArg Dev.ref h.1; exact q
theorem Dev.Sent.free {e d : Dev} (h : Dev.Sent e d) : d.free = e.free := by have q := congrArg Dev.free h.1; exact q

theorem Dev.Reports.clk {e d : Dev} {u c : Nat} {s : Option UState} (h : e.Reports u c s d) : d.clk = e.clk := h.2.2.clk
theorem Dev.Reports.boot {e d : Dev} {u c : Nat} {s : Option UState} (h : e.Reports u c s d) :
    d.boot = e.boot.noted c := h.2.2.boot
theorem Dev.Reports.pins {e d : Dev} {u c : Nat} {s : Option UState} (h : e.Reports u c s d) : d.pins = e.pins := h.2.2.pins
theorem Dev.Reports.eng {e d : Dev} {u c : Nat} {s : Option UState} (h : e.Reports u c s d) : d.eng = e.eng := h.2.2.eng
theorem Dev.Reports.jobs {e d : Dev} {u c : Nat} {s : Option UState} (h : e.Reports u c s d) : d.jobs = e.jobs := h.2.2.jobs
theorem Dev.Reports.plane {e d : Dev} {u c : Nat} {s : Option UState} (h : e.Reports u c s d) : d.plane = e.plane := h.2.2.plane
theorem Dev.Reports.stn {e d : Dev} {u c : Nat} {s : Option UState} (h : e.Reports u c s d) : d.stn = e.stn := h.2.2.stn
theorem Dev.Reports.lane {e d : Dev} {u c : Nat} {s : Option UState} (h : e.Reports u c s d) : d.lane = e.lane := h.2.2.lane
theorem Dev.Reports.enc {e d : Dev} {u c : Nat} {s : Option UState} (h : e.Reports u c s d) : d.enc = e.enc := h.2.2.enc
theorem Dev.Reports.cueHold {e d : Dev} {u c : Nat} {s : Option UState} (h : e.Reports u c s d) : d.cueHold = e.cueHold := h.2.2.cueHold
theorem Dev.Reports.cal {e d : Dev} {u c : Nat} {s : Option UState} (h : e.Reports u c s d) : d.cal = e.cal := h.2.2.cal
theorem Dev.Reports.axis {e d : Dev} {u c : Nat} {s : Option UState} (h : e.Reports u c s d) : d.axis = e.axis := h.2.2.axis
theorem Dev.Reports.prof {e d : Dev} {u c : Nat} {s : Option UState} (h : e.Reports u c s d) : d.prof = e.prof := h.2.2.prof
theorem Dev.Reports.step {e d : Dev} {u c : Nat} {s : Option UState} (h : e.Reports u c s d) : d.step = e.step := h.2.2.step
theorem Dev.Reports.ain {e d : Dev} {u c : Nat} {s : Option UState} (h : e.Reports u c s d) : d.ain = e.ain := h.2.2.ain
theorem Dev.Reports.loop {e d : Dev} {u c : Nat} {s : Option UState} (h : e.Reports u c s d) : d.loop = e.loop := h.2.2.loop
theorem Dev.Reports.act {e d : Dev} {u c : Nat} {s : Option UState} (h : e.Reports u c s d) : d.act = e.act := h.2.2.act
theorem Dev.Reports.lamp {e d : Dev} {u c : Nat} {s : Option UState} (h : e.Reports u c s d) : d.lamp = e.lamp := h.2.2.lamp
theorem Dev.Reports.pll {e d : Dev} {u c : Nat} {s : Option UState} (h : e.Reports u c s d) : d.pll = e.pll := h.2.2.pll
theorem Dev.Reports.clko {e d : Dev} {u c : Nat} {s : Option UState} (h : e.Reports u c s d) : d.clko = e.clko := h.2.2.clko
theorem Dev.Reports.temp {e d : Dev} {u c : Nat} {s : Option UState} (h : e.Reports u c s d) : d.temp = e.temp := h.2.2.temp
theorem Dev.Reports.dom {e d : Dev} {u c : Nat} {s : Option UState} (h : e.Reports u c s d) : d.dom = e.dom := h.2.2.dom
theorem Dev.Reports.twin {e d : Dev} {u c : Nat} {s : Option UState} (h : e.Reports u c s d) : d.twin = e.twin := h.2.2.twin
theorem Dev.Reports.ref {e d : Dev} {u c : Nat} {s : Option UState} (h : e.Reports u c s d) : d.ref = e.ref := h.2.2.ref
theorem Dev.Reports.free {e d : Dev} {u c : Nat} {s : Option UState} (h : e.Reports u c s d) : d.free = e.free := h.2.2.free
theorem Dev.Reports.ctrAt {e d : Dev} {u c : Nat} {s : Option UState} (h : e.Reports u c s d) (v : Nat) (k : Ctr)
    (h1 : k ≠ .FRAMES_TX) (h2 : k ≠ .CREDIT_STALLS) : d.ctrAt v k = e.ctrAt v k := h.2.2.2.2 v k h1 h2

theorem Dev.Sent.refl (d : Dev) : Dev.Sent d d := ⟨rfl, rfl, fun _ _ _ _ => rfl⟩

theorem Dev.Sent.trans {a b c : Dev} (h : Dev.Sent a b) (g : Dev.Sent b c) : Dev.Sent a c := by
  obtain ⟨h1, h2, h3⟩ := h
  obtain ⟨g1, g2, g3⟩ := g
  refine ⟨?_, ?_, fun v k x y => (g3 v k x y).trans (h3 v k x y)⟩
  · rw [← h1]
    have := congrArg (fun d : Dev => ({ d with host := a.host, fab := a.fab, ctr := a.ctr } : Dev)) g1
    exact this
  · rw [g2, h2]

theorem Dev.portSend_sent (p dst : Nat) (b : XBody) (d : Dev) : Dev.Sent d (d.portSend p dst b) := by
  refine ⟨rfl, rfl, fun v k hk _ => ?_⟩
  exact Dev.bump_ctrAt_ne 1 _ (fun h => hk h.2)

theorem Dev.Sent.ite {c : Prop} [Decidable c] {d a b : Dev} (ha : Dev.Sent d a) (hb : Dev.Sent d b) :
    Dev.Sent d (if c then a else b) := by
  split
  · exact ha
  · exact hb

theorem Dev.portQueue_sent (p dst : Nat) (b : XBody) (d : Dev) : Dev.Sent d (d.portQueue p dst b) := by
  refine Dev.Sent.ite (Dev.portSend_sent p dst b d) ⟨rfl, rfl, fun v k _ hk => ?_⟩
  exact Dev.bump_ctrAt_ne 1 _ (fun h => hk h.2)

theorem Dev.xport_sent (p : Nat) (b : XBody) (d : Dev) : Dev.Sent d (d.xport p b) := Dev.portQueue_sent _ _ _ _

theorem Dev.xsend_sent (dst : Nat) (b : XBody) (d : Dev) : Dev.Sent d (d.xsend dst b) := by
  unfold Dev.xsend
  split
  · exact Dev.Sent.refl d
  · split
    · exact Dev.portQueue_sent _ _ _ _
    · exact ⟨rfl, rfl, fun _ _ _ _ => rfl⟩

theorem Dev.flood_sent (but : Option Nat) (b : XBody) (d : Dev) : Dev.Sent d (d.flood but b) := by
  have h : ∀ (l : List Nat) (e : Dev), Dev.Sent d e → Dev.Sent d (l.foldl (fun d p => d.xport p b) e) := by
    intro l
    induction l with
    | nil => exact fun e h => h
    | cons p l ih => exact fun e h => ih _ (h.trans (Dev.xport_sent p b e))
  exact h _ d (Dev.Sent.refl d)

theorem Dev.tellHome_sent (fuel a : Nat) (d : Dev) : Dev.Sent d (Dev.tellHome fuel a d) := by
  induction fuel generalizing a with
  | zero => exact Dev.Sent.refl d
  | succ n ih =>
    simp only [Dev.tellHome]
    split
    · exact Dev.Sent.refl d
    · split
      · exact ih _
      · exact Dev.xsend_sent _ _ _

theorem Dev.sendStatus_sent (fuel u : Nat) (d : Dev) : Dev.Sent d (Dev.sendStatus fuel u d) :=
  Dev.tellHome_sent fuel (d.addr u) d

/-- What a report does, whatever its severity. -/
theorem Dev.reportAs_does (sev : Nat) (ack : Bool) (u code : Nat) (st : Option UState) (det : Nat) (d : Dev) :
    (d.reportAs sev ack u code st det).us u
        = (d.us u).event (d.clk.now / 4) d.clk.rank d.host.order sev code st ack
    ∧ (∀ v, v ≠ u → (d.reportAs sev ack u code st det).us v = d.us v)
    ∧ Dev.Sent { d with units := (d.reportAs sev ack u code st det).units, boot := d.boot.noted code }
        (d.reportAs sev ack u code st det) := by
  have key : ∀ e : Dev, { e with host := d.host } =
      { d with
        units := d.units.set u ((d.us u).event (d.clk.now / 4) d.clk.rank d.host.order sev code st ack)
        boot := d.boot.noted code } →
      (Dev.sendStatus 8 u e).us u = (d.us u).event (d.clk.now / 4) d.clk.rank d.host.order sev code st ack
      ∧ (∀ v, v ≠ u → (Dev.sendStatus 8 u e).us v = d.us v)
      ∧ Dev.Sent { d with units := (Dev.sendStatus 8 u e).units, boot := d.boot.noted code } (Dev.sendStatus 8 u e) := by
    intro e he
    have hs := Dev.sendStatus_sent 8 u e
    have hu : (Dev.sendStatus 8 u e).units = e.units := hs.units
    have heu : e.units = d.units.set u ((d.us u).event (d.clk.now / 4) d.clk.rank d.host.order sev code st ack) := by
      have q := congrArg Dev.units he
      exact q
    have hf : e.fab = d.fab := by have q := congrArg Dev.fab he; exact q
    have hc : e.ctr = d.ctr := by have q := congrArg Dev.ctr he; exact q
    refine ⟨?_, ?_, ?_⟩
    · simp [Dev.us, hu, heu]
    · intro v hv
      simp [Dev.us, hu, heu, hv]
    · refine Dev.Sent.trans ⟨?_, ?_, ?_⟩ hs
      · have q := congrArg (fun x : Dev => ({ x with units := e.units } : Dev)) he
        rw [hu]
        cases e
        cases hf
        cases hc
        exact q
      · simp [hf]
      · intro v k _ _
        simp [Dev.ctrAt, hc]
  unfold Dev.reportAs
  dsimp only
  split
  · exact key _ rfl
  · exact key _ rfl

/-- A report is a report in the sense of the claims. -/
theorem Dev.report_does (u code : Nat) (st : Option UState) (det : Nat) (d : Dev) :
    d.Reports u code st (d.report u code st det) :=
  Dev.reportAs_does (kindOf code).severity (kindOf code).needsAck u code st det d

/-- A change of a port is nothing that a send does not touch. -/
theorem Dev.updPort_sent (p : Nat) (f : Port → Port) (d : Dev) : Dev.Sent d (d.updPort p f) :=
  ⟨rfl, rfl, fun _ _ _ _ => rfl⟩

theorem Dev.returnCredit_sent (p : Nat) (d : Dev) : Dev.Sent d (d.returnCredit p) :=
  (Dev.updPort_sent p _ d).trans (Dev.xport_sent p _ _)

theorem Dev.acceptBlocks_sent (p : Nat) (bulk isCredit : Bool) (n : Nat) (d : Dev) :
    Dev.Sent d (d.acceptBlocks p bulk isCredit n) :=
  Dev.Sent.ite (Dev.updPort_sent p _ d) ((Dev.updPort_sent p _ d).trans (Dev.returnCredit_sent p _))

/-- What accepting a frame on a port does. -/
theorem Dev.accept_sent (p : Nat) (b : XBody) (d : Dev) : (d.bump (uid cXPORT p) .FRAMES_RX 1).Sent (d.accept p b) :=
  Dev.acceptBlocks_sent p b.bulk b.isCredit b.blocks _

/-- What accepting a message of another node does. -/
theorem Dev.acceptFrom_took (node : Nat) (b : XBody) (d : Dev) : d.Took (d.acceptFrom node b) := by
  unfold Dev.acceptFrom
  split
  · split
    · exact Or.inr ⟨_, Dev.accept_sent _ b d⟩
    · exact Or.inl (Dev.Sent.refl d)
  · exact Or.inl (Dev.Sent.refl d)

theorem Dev.Took.sent {a b c : Dev} (h : a.Took b) (g : b.Sent c) : a.Took c := by
  rcases h with h | ⟨p, h⟩
  · exact Or.inl (h.trans g)
  · exact Or.inr ⟨p, h.trans g⟩

/-- A mark-link frame takes its data blocks, SOF and EOF of the executor's buffer (R368). -/
theorem LaneBody.wire_eq (b : LaneBody) : b.wire = b.data.length + 2 := rfl

/-- A frame on the wire: its SOF, its data blocks, its EOF (R368). -/
theorem frameWords_length (typ seq : Nat) (active req : Bool) (data : List Nat) :
    (frameWords typ active req seq data).length = data.length + 2 := by
  simp [frameWords]

end Sys2Proof.Machine
end

