-- ==== Sys2Proof/Machine/Pins.lean ====
section
/-! DEFINITION. The levels of the drive, stepper, actuator, lamp and clock outputs at the present instant of device time, as
views of the state (R428 to R433, R441, R471 to R477, R522 to R525, R551, R552). No command reads an output back. -/

namespace Sys2Proof.Machine

/-- The level of an output with a polarity bit: 1 makes it active low. -/
def pinLevel (activeLow active : Bool) : Bool := active != activeLow

/-- Offset `p` of a period `T`, both in qns, lies within a pulse of `on` compare steps of 156.25 ps centred in the period. A
pulse begins with its first instant and ends before its last (R429, R431). -/
def inPulse (T p on : Nat) : Bool :=
  let x : Int := 8 * (2 * (p : Int) - T)
  decide (-(5 * (on : Int)) ≤ x ∧ x < 5 * (on : Int))

/-- The same for a pulse centred on the period's boundary (R431). -/
def inValley (T p on : Nat) : Bool := 16 * p < 5 * on || 16 * (T - p) ≤ 5 * on

/-- An on-time of `duty`/65,536 of a period of `T` compare steps (R429, R472, R522). -/
def onSteps (T duty : Nat) : Nat := (rdiv ((duty * T : Nat) : Int) 65536).toNat

/-- A leg of an axis: its high side and its low side are on (R431, R433, R441). The high side is centred on the peak, the
low side on the valley, with DEADTIME at each change; after a trip, and while a blower is OFF, every gate is off (R441,
R461), and in the safe state SAFE_STATE decides. -/
def Dev.legGates (d : Dev) (a duty : Nat) : Bool × Bool :=
  let x := d.axis.at a
  let T := 10 * d.pwmT a
  let p := (d.qns + T - d.pwmBoundary a) % T
  if x.trip then (false, false)
  else if x.on && x.onFrom ≤ d.qns then (inPulse T p duty, inValley T p (d.lowTime a duty))
  else (false, (x.safe || x.on) && d.cfgB .axis a .SAFE_STATE)

/-- Half-bridge output HB6n + k at its pin: U high, U low, V high, V low, W high, W low (R428). -/
def Dev.halfBridge (d : Dev) (o : Nat) : Bool :=
  let a := o / 6
  let x := d.axisDuties a
  let g := d.legGates a (if o % 6 < 2 then x.1 else if o % 6 < 4 then x.2.1 else x.2.2)
  pinLevel (d.cfgB .axis a .GATE_POL) (if o % 2 = 0 then g.1 else g.2)

/-- What a bridge of a stepper does in its chopper period (R472, R474). -/
inductive Chop where
  /-- the input that the sign of i_ref selects drives -/
  | drive
  /-- both low sides are on -/
  | slow
  /-- the bridge is reversed -/
  | fast
  deriving DecidableEq, Repr

/-- The part of the chopper period that the present instant falls in: the drive interval is centred on the midpoint; DECAY 2
decays fast for the first MIX sixteenths of the decay interval on either side (R472, R474, log entry 94). -/
def Dev.chop (d : Dev) (i duty : Nat) (fast : Bool) : Chop :=
  let T := 20 * d.cfgN .step i .CHOP_HALF
  let p := d.qns % T
  let on := onSteps (32 * d.cfgN .step i .CHOP_HALF) duty
  let gone := if 2 * p < T then 16 * p else 16 * p - (8 * T + 5 * on)
  if inPulse T p on then .drive
  else if fast then .fast
  else if d.cfgN .step i .DECAY = 2 ∧ 16 * gone < d.cfgN .step i .MIX * (8 * T - 5 * on) then .fast
  else .slow

/-- Stepper output SPW4n + k at its pin: A1, A2, B1, B2 (R471, R474, R477). A positive i_ref drives the first input of its
bridge (log entry 94). -/
def Dev.stepPin (d : Dev) (o : Nat) : Bool :=
  let i := o / 4
  let x := d.step.at i
  let second := o % 2 == 1
  let act :=
    if !((x.on && x.onFrom ≤ d.qns) || d.qns < x.offAt) then false
    else
      let b := if o % 4 < 2 then (d.bridges i).1 else (d.bridges i).2
      let neg := b.sg < 0
      match d.chop i b.d b.fast with
      | .drive => second == neg
      | .fast => second != neg
      | .slow => false
  pinLevel (d.cfgB .step i .OUT_POL) act

/-- Actuator output n at its pin (R522, R523). -/
def Dev.actPin (d : Dev) (i : Nat) : Bool :=
  let T := 10 * d.cfgN .act i .PERIOD_T
  pinLevel (d.cfgB .act i .OUT_POL)
    (if d.cfgB .act i .KIND then d.actActive i
      else inPulse T (d.qns % T) (onSteps (16 * d.cfgN .act i .PERIOD_T) (d.actDuty i)))

/-- Lamp output n at its pin: its on-time, in 156.25 ps, centred in its period (R525). -/
def Dev.lampPin (d : Dev) (i : Nat) : Bool :=
  let T := 10 * d.cfgN .lamp i .PERIOD_T
  pinLevel (d.cfgB .lamp i .OUT_POL) (inPulse T (d.qns % T) (d.lamp.at i).on)

/-- The tap over DIV is high: for DIV / 2 tap cycles of DIV, (DIV + 1) / 2 where DIV is odd, from the start on (R551); DIV 1 is
the tap itself. -/
def Dev.tapHigh (d : Dev) (i : Nat) : Bool :=
  let dv := d.cfgN .clko i .DIV
  let half := d.tapPhase i / 2000000000000
  if dv = 1 then half % 2 = 0 else half / 2 % dv < (dv + 1) / 2

/-- A clock output at its pin: parked at its PARK level, the seconds pulse of TAP 2, high for 1 ms from each whole second, or
the tap over DIV (R551, R552, R562). -/
def Dev.clkPin (d : Dev) (i : Nat) : Bool :=
  if !(d.clko.at i).run then (d.clko.at i).level
  else pinLevel (d.cfgB .clko i .INVERT)
    (if d.cfgN .clko i .TAP = 2 then decide (d.qns % 4000000000 < 4000000) else d.tapHigh i)

/-- The clocks of the regions, in mHz (R536): CORE, CTL and ADC from SYSPLL, TIME from TPLL, and PLACEn. -/
def Dev.regionClocks (d : Dev) : List Nat :=
  [d.dcoRate 0 / 4, d.dcoRate 0 / 10, d.dcoRate 0 / 50, d.dcoRate 1 / 16] ++ (upTo 8).map (fun n => d.dcoRate (n + 2) / 20)

end Sys2Proof.Machine
end

