-- ==== Sys2Proof/Tests/Slice0.lean ====
section
/-! SUPPORT. Tests: a smoke test of the well-formedness checks, steps whose results the manual gives, and for the hypotheses
of every statement of Sys2Proof/Certificates/Slice0/Obligations.lean states and operands that meet them. -/

namespace Sys2Proof.Tests

open Sys2Proof Sys2Proof.Machine

set_option maxRecDepth 100000
set_option Elab.async false

/-- A record of a type at a unit index of node 0, with the given fields; the others are 0. -/
def rec (r : RT) (i : Nat) (fs : List (F × Nat)) : Rec :=
  { typ := r.code, addr := r.unit i
    body := fs.foldl (fun b x => b + match r.field? x.1 with | some f => x.2 * 2 ^ f.lo | none => 0) 0 }

/-- A device that has started, with an image of node 0 of the given records. -/
def dev (rs : List Rec) : Dev :=
  { State.reset.dev with boot := { stage := .up, loaded := true, image := { header := 0, recs := rs } } }

/-- The same on a twin. -/
def twinDev (rs : List Rec) : Dev :=
  { State.reset.dev with boot := { stage := .up, loaded := true, image := { header := 2 ^ 177, recs := rs } } }

/-- The state of a device with nothing waiting. -/
def on (d : Dev) : State := { dev := d }

/-- A unit in a state. -/
def inSt (u : Nat) (st : UState) (d : Dev) : Dev := { d with units := d.units.set u { state := st } }

/-- An engaged device. -/
def engaged (d : Dev) : Dev := { d with eng := { d.eng with st := .engaged }, pins := { d.pins with ready := true } }

/-- A ticket entry of a type with further bits. -/
def entry (typ : Nat) (more : Nat := 0) : Entry := BitVec.ofNat 512 (typ + more)

/-- A ticket in slot 5 that has not started. -/
def tkt (typ : Nat) (more : Nat := 0) : Tkt := { slot := 5, entry := entry typ more }

/-- The device with that ticket as its oldest. -/
def holding (typ : Nat) (more : Nat) (d : Dev) : Dev := { d with host := { d.host with tickets := [tkt typ more] } }

/-- What `tkt` means to `Dev.startable`. -/
def starts (typ : Nat) (more : Nat) (d : Dev) : Prop := (holding typ more d).startable typ = some (tkt typ more)

/-! ## Well-formedness -/

/-- One ill-formed command for each check. -/
def illFormed : List Instr :=
  [.gauntletDone 0 [BitVec.ofNat 16 (uid cLOOP 0)], .axisRest 0 (BitVec.ofNat 16 (uid cLOOP 0)), .latticeStamp 0 0 0 ⟨0, 0⟩,
    .scatterFetchDone 0 0 [], .tokenRefill 0 0 0 4, .tokenRefill 0 0 16000 0,
    .dmaReadCompletion 0 0 0 (.data (List.replicate 4097 0)),
    .except 0 0 { seq := 1, refSeq := 1, event := 0, pageId := 0, more := false, entries := [] },
    .profileTick 0 (BitVec.ofNat 16 (uid cSTN 0)), .todFrame 0 { bytes := [] },
    .route 0 0 (.route { src := 1, withdraw := false, routeSeq := 1, ranges := [] }),
    .route 0 0 (.route { src := 1, withdraw := false, routeSeq := 1, ranges := [(2, 1)] }),
    .status 0 0xFFFF 0, .status 0 (BitVec.ofNat 32 (uid cLOOP 0)) 0x80000000, .audit 0 0 0 0,
    .mittenJoin 0 { mitten := 0, first := 0, ancestors := [], last := true, fingers := [] },
    .visorData 0 { src := 0, visorId := 0, part := 0, last := true, bytes := [0] },
    .fence 0 { kind := 2, epoch := 0, referee := 0, line := 0 },
    .liningSnapshot 0 { epoch := 0, seq := 1, stamp := 0, entry := .nozzle 0 0 3, last := false },
    .liningDelta 0 { epoch := 0, seq := 1, stamp := 0, entry := .page 0 0 7 false, last := false },
    .liningDelta 0 { epoch := 0, seq := 1, stamp := 0, entry := .engagement 6 0, last := false },
    .liningDelta 0 { epoch := 0, seq := 1, stamp := 0, entry := .ticket 0 4, last := false },
    .route 0 0 (.transit { dst := 4, src := 1, hops := 0, bulk := false, typ := 1, body := List.replicate 13 0 })]

theorem test_ill_formed_commands_are_refused : illFormed.all (fun i => !i.wf) = true := by decide +kernel

theorem test_well_formed_commands_pass :
    [Instr.ready 0, .latticeStamp 0 0 1 ⟨0, 0⟩, .fence 0 { kind := 1, epoch := 0, referee := 0, line := 0 },
      .profileTick 0 (BitVec.ofNat 16 (uid cSTEP 15))].all Instr.wf = true := by decide +kernel

/-! ## Witnesses: the queue, status words, addresses -/

theorem witness_AnEventCountsAndTakesItsReason :
    ({} : UnitStat).cycle ≠ 5 ∧ 3 < 16 ∧ 7 < 16 ∧ 0x0B08 < 65536 ∧ 0x0B09 < 65536 ∧ (1 : Nat) ≠ 0
      ∧ (some UState.fault).isSome ∧ (2 : Nat) < 7 := by decide

/-- A node whose mitten 0 has a loop and a lamp as fingers, and a twin pair's mitten 1. -/
def mittens : Dev :=
  { twinDev [{ typ := RT.mitten.code, addr := uid cMITTEN 0, body := 2 + uid cLOOP 0 * 2 ^ 32 + uid cLAMP 0 * 2 ^ 64 },
      { typ := RT.mitten.code, addr := uid cMITTEN 1, body := 2 + 2 ^ 31 + uid cNODE 0 * 2 ^ 32 + (6 * 65536 + uid cNODE 0) * 2 ^ 64 }]
    with twin := { role := .active } }

theorem witness_AMittenShowsTheWorstOfItsFingers :
    (∃ x, mittens.homed (uid cMITTEN 0) = true ∧ mittens.mittenRec (uid cMITTEN 0) = some x ∧ bit x.body 31 = false
      ∧ (mittens.fingersOf (uid cMITTEN 0)).map (mittens.statOf 7) ≠ [])
    ∧ ∃ x, mittens.homed (uid cMITTEN 1) = true ∧ mittens.mittenRec (uid cMITTEN 1) = some x ∧ bit x.body 31 = true :=
  ⟨⟨_, by decide +kernel, rfl, by decide +kernel, fun h => by cases h⟩, ⟨_, by decide +kernel, rfl, by decide +kernel⟩⟩

theorem witness_UnitAddressesSplitIntoClassAndIndex : (63 < 64 ∧ 1023 < 1024) ∧ 65535 < 65536 := by decide

/-! ## Witnesses: start-up -/

/-- A device in a stage of start-up. -/
def inStage (g : Stage) : Dev := { State.reset.dev with boot := { stage := g, vstby := true } }

theorem witness_ResetReturnsTheDeviceToItsRelease :
    1000 ≤ 1000 ∧ 999 < 1000
    ∧ (railMain .vdd = true ∧ (inStage .stepping).boot.stage ≠ .up ∧ (inStage .stepping).boot.stage ≠ .critical
      ∧ (inStage .stepping).boot.stage ≠ .unpowered)
    ∧ (inStage .up).boot.stage = .up ∧ (inStage .critical).boot.stage = .critical := by decide

theorem witness_TheAonIslandKeepsItsOwnState :
    (100 ≤ 100 ∧ (inStage .unpowered).boot.vstby = true ∧ (inStage .unpowered).boot.stage = .unpowered)
    ∧ (inStage .up).boot.stage ≠ .unpowered ∧ (inStage .up).boot.keyHash = 0
    ∧ ({ (inStage .up) with boot := { stage := .up, keyHash := 1 } } : Dev).boot.keyHash ≠ 0 := by decide

/-- A header that passes R47, of a GENERATION. -/
def header (gen : Nat) : List Byte :=
  let h := 0x46435656 + 1 * 2 ^ 40 + 64 * 2 ^ 48 + gen * 2 ^ 64 + 88 * 2 ^ 96
  let bs := leBytes 60 h
  bs ++ leBytes 4 (crc32c bs).toNat

/-- A device before its release with a header in each slot. -/
def slots (a b : List Byte) : Dev :=
  { State.reset.dev with boot := { flash0 := Mem.writeBytes 0xFF (Mem.writeBytes 0xFF [] (slotOff 0) a) (slotOff 1) b } }

theorem witness_headers_are_valid :
    (headerCheck ((slots (header 7) (header 9)).boot.slotHeader 0)).isNone = true
    ∧ (headerCheck ((slots (header 7) (header 9)).boot.slotHeader 1)).isNone = true
    ∧ (slots (header 7) (header 9)).boot.stage = .unpowered := by decide +kernel

theorem witness_TheReleaseChoosesASlot :
    (hdrGen (leNat ((slots (header 7) (header 9)).boot.slotHeader 0))
      < hdrGen (leNat ((slots (header 7) (header 9)).boot.slotHeader 1)))
    ∧ ¬ (hdrGen (leNat ((slots (header 7) (header 7)).boot.slotHeader 0))
      < hdrGen (leNat ((slots (header 7) (header 7)).boot.slotHeader 1)))
    ∧ (headerCheck ((slots (header 7) []).boot.slotHeader 1)).isNone = false
    ∧ (headerCheck ((slots [] (header 7)).boot.slotHeader 0)).isNone = false := by decide +kernel

/-- A device that tries slot 0, which is empty, and then the given ones. -/
def trying (rest : List Nat) : Dev := { State.reset.dev with boot := { stage := .released, trySlots := 0 :: rest } }

theorem witness_AnImageIsLoadedOnlyWhenItsFullCheckPasses :
    ∀ rest ∈ [[], [1]], (trying rest).boot.stage = .released ∧ (trying rest).boot.trySlots = 0 :: rest
      ∧ (fullCheck (trying rest).boot.fuses [0, 0, 0, 0]).isOk = false := by decide +kernel

/-- The smallest image: a header and the NODE record of node 0. -/
def smallImage : List Byte :=
  let body := Rec.bytes { typ := RT.node.code, addr := uid cNODE 0, len := 28, body := 128 * 2 ^ 32 }
  let h := 0x46435656 + 1 * 2 ^ 40 + 64 * 2 ^ 48 + 7 * 2 ^ 64 + 92 * 2 ^ 96 + 1 * 2 ^ 128
    + (crc32c body).toNat * 2 ^ 224
  let bs := leBytes 60 h
  bs ++ leBytes 4 (crc32c bs).toNat ++ body

theorem witness_an_image_passes_its_full_check :
    (fullCheck (slots smallImage []).boot.fuses ((slots smallImage []).boot.slotImage 0)).isOk = true := by decide +kernel

/-- A device whose domains are being stepped, its lattice domain 116 on. -/
def stepping : Dev :=
  { State.reset.dev with
    boot := { stage := .stepping, loaded := true, domQueue := [116, 117], image := {} }
    dom := [(116, { on := true, good := true })] }

/-- A device about to assert READY. -/
def almostReady : Dev :=
  { State.reset.dev with
    boot := { stage := .locking, loaded := true, stepped := true, image := {} }
    pll := [(0, { everLocked := true }), (1, { everLocked := true })]
    fab := { crown := some 0, joined := true }, clk := { got := true } }

/-- A page in MARKING at station 0. -/
def onePage : Page :=
  { order := 0, slot := 5, job := 1, id := 1, mask := 1, state := .marking, lines := 10, stn := [(0, { begun := true })] }

/-- A running device whose domain of table memory is good, with a jet station and a page in MARKING on it. -/
def marking : Dev :=
  { dev [rec .stnJet 0 []] with
    dom := [(88, { on := true, good := true }), (89, { on := true, good := true })]
    jobs := { pages := [onePage], order := 1 } }

theorem witness_DomainsComeGoodAndAreLost :
    [116, 117] ≠ ([] : List Nat) ∧ State.reset.dev.boot.stage ≠ .stepping ∧ stepping.boot.stage = .stepping
    ∧ (stepping.boot.stage ≠ .up ∧ stepping.boot.stage ≠ .critical ∧ (stepping.dom.at 116).on = true)
    ∧ (almostReady.pins.ready = false ∧ almostReady.boot.loaded = true ∧ almostReady.boot.stepped = true
      ∧ almostReady.boot.domQueue = [] ∧ almostReady.boot.stage = .locking ∧ (almostReady.pll.at 0).everLocked = true
      ∧ (almostReady.pll.at 1).everLocked = true ∧ almostReady.fab.crown = some almostReady.node
      ∧ almostReady.fab.joined = true ∧ almostReady.clk.got = true ∧ almostReady.isTwin = false
      ∧ almostReady.twin.role ≠ .fenced)
    ∧ marking.boot.stage = .up ∧ (marking.dom.at 88).good = true ∧ (marking.dom.at 87).good = false
    ∧ 0 ∈ marking.stations ∧ (marking.jobs.pages.map (·.order)).Nodup
    ∧ (∃ p ∈ marking.jobs.pages, p.state = .marking ∧ bit p.mask 0 = true) := by decide +kernel

theorem witness_a_lost_domain_has_units :
    uid cAXIS 0 ∈ (dev [rec .axis 0 []]).unitsIn 89 ∧ uid cSTEP 0 ∈ (dev [rec .step 0 []]).unitsIn 93
    ∧ uid cLANE 0 ∈ (dev [rec .lane 0 []]).unitsIn 0 ∧ uid cXPORT 0 ∈ (dev [rec .xport 0 []]).unitsIn 111 := by
  decide +kernel

/-! ## Witnesses: clocks -/

/-- Powered PLLs 0 and 2 with given contents, on a node with jet station 0. -/
def plls (p0 p2 : Pll) : Dev :=
  { dev [rec .stnJet 0 []] with dom := [(116, { on := true }), (118, { on := true })], pll := [(0, p0), (2, p2)] }

theorem witness_APllLocksAndTheOutputPasses :
    (plls {} {}).pllOn 0 = true ∧ (plls {} {}).boot.lockFails.at 0 < 3 ∧ ((plls {} {}).pll.at 0).locked = false
    ∧ ((plls {} { hold := true }).pll.at 2).hold = true
    ∧ ((plls { locked := true } {}).pll.at 0).locked = true ∧ ((plls { locked := true } {}).pll.at 0).follow = false
    ∧ 3 < lockM 1 ∧ lockM 1000000000000 < 26
    ∧ ({ (plls {} {}) with stn := [(0, { coasting := true })] }.stn.at 0).coasting = true := by decide +kernel

theorem witness_ALostReferenceGivesHoldover :
    let d := plls { everLocked := true, locked := true } { everLocked := true, locked := true }
    d.pllOn 2 = true ∧ (d.pll.at 2).everLocked = true ∧ (d.pll.at 2).hold = false ∧ (d.pll.at 2).locked = true
    ∧ d.stnOn 0 = true ∧ (d.stn.at 0).coasting = false
    ∧ ((plls { hold := true } {}).pll.at 0).hold = true := by decide +kernel

theorem witness_PllsThatDoNotLockAreReported :
    let d := { plls {} { locked := true } with boot := { (plls {} {}).boot with lockFails := [(0, 2)] } }
    d.pllOn 0 = true ∧ (d.pll.at 0).everLocked = false ∧ d.boot.lockFails.at 0 = 2 ∧ (plls {} {}).boot.lockFails.at 0 < 2
    ∧ d.pllOn 2 = true ∧ d.isJet 0 = true ∧ (d.pll.at 2).locked = true ∧ (d.pll.at 2).follow = false := by decide +kernel

/-! ## Witnesses: engagement -/

/-- A device with an ENGAGE_SRC and an engagement state, READY as given. -/
def asking (src : Nat) (st : EngState) (ready : Bool) : Dev :=
  { dev [rec .startup 0 [(.ENGAGE_SRC, src), (.REQUIRE_TIME, 1)]] with
    eng := { st := st }, pins := { ready := ready }, temp := { now := 250 } }

theorem witness_AnEngageRequestIsHeldOrRefused :
    (∀ src ∈ [0, 1, 2, 3], (asking src .idle true).engageSrc = src)
    ∧ (asking 0 .idle false).pins.ready = false ∧ (asking 0 .gauntlet true).eng.st = .gauntlet
    ∧ (asking 0 .idle true).temp.now < 1050 ∧ (asking 0 .idle true).ust uTEMP ≠ .fault
    ∧ (1050 : Int) ≤ ({ asking 0 .idle true with temp := { now := 1050 } } : Dev).temp.now := by decide +kernel

theorem witness_AStopEndsThePagesThatWait :
    (engaged marking).eng.st = .engaged ∧ ((engaged marking).jobs.pages.map (·.order)).Nodup
    ∧ (asking 0 .gauntlet true).engageSrc ≠ 1 ∧ (asking 1 .idle true).engageSrc = 1 := by decide +kernel

theorem witness_TheGauntletEngagesOrRefuses :
    (asking 0 .waitTime true).eng.st = .waitTime ∧ (asking 0 .waitTime true).timeSettled = false
    ∧ ({ asking 0 .waitTime true with fab := { crown := some 0, running := true }, clk := { settled := true } } : Dev).eng.st
        = .waitTime
    ∧ (asking 0 .gauntlet true).eng.st = .gauntlet ∧ (asking 0 .gauntlet true).temp.now < 1050
    ∧ (asking 0 .gauntlet true).ust uTEMP ≠ .fault := by decide +kernel

/-- A device that disengages, with axis 0. -/
def stopping (run : Option Nat) (safe : Bool) : Dev :=
  { dev [rec .axis 0 [(.MODE, 2)]] with eng := { st := .disengaging, rundownAt := run }, axis := [(0, { safe := safe })] }

theorem witness_TheDrivesRunDownAndTheStopEnds :
    (∀ p ∈ (stopping none false).jobs.pages, p.state ≠ .armed ∧ p.state ≠ .marking ∧ p.state ≠ .marked)
    ∧ (stopping none false).allAtRest = false ∧ (stopping none true).allAtRest = true
    ∧ (stopping (some 0) false).eng.rundownAt.isSome = true ∧ (stopping (some 0) false).runsDown (uid cAXIS 0) = true
    ∧ ((stopping (some 0) false).enter 0 7).atRest (uid cAXIS 0) = true := by decide +kernel

/-! ## Witnesses: the host port and the tickets -/

theorem witness_TheHostRegionResets :
    ((0x0100 : Nat) ≤ 0x0100 ∧ (0x05FF : Nat) < 0x0600)
    ∧ ({ coalesce := [(3, 40)] } : HostSt).coalesce.get? 3 = some 40
    ∧ (({} : HostSt).msixEntry 3).getLsbD 96 = true
    ∧ (({ msixTable := [(3, 0)] } : HostSt).msixEntry 3).getLsbD 96 = false := by decide +kernel

/-- A ring that is on. -/
def ring16 (used : Nat) : RingSt := { size := 16, used := used }

theorem witness_RingRegistersAreWrittenUnderR119 :
    (∃ k, 4 ≤ k ∧ k ≤ 12 ∧ (16#32).toNat = 2 ^ k) ∧ (State.reset.dev.host.ring .ticket).size = 0
    ∧ State.reset.dev.ringsMayStop = true ∧ (engaged (dev [])).ringsMayStop = false
    ∧ (∀ k, 4 ≤ k → k ≤ 12 → (17#32).toNat ≠ 2 ^ k)
    ∧ ({ cq := ring16 3 } : HostSt).cq.size ≠ 0 ∧ (0x1000#64).toNat % 4096 = 0 ∧ (0x1800#64).toNat % 4096 ≠ 0
    ∧ (15#32).toNat < (ring16 3).size.toNat ∧ (ring16 3).size.toNat ≤ (16#32).toNat
    ∧ (3 + 16 - 0) % 16 ≤ (ring16 3).used ∧ (ring16 3).used < (4 + 16 - 0) % 16 := by
  refine ⟨⟨4, by decide⟩, by decide, by decide, by decide, fun k h1 h2 => ?_, by decide, by decide, by decide, by decide,
    by decide, by decide, by decide⟩
  have : k = 4 ∨ k = 5 ∨ k = 6 ∨ k = 7 ∨ k = 8 ∨ k = 9 ∨ k = 10 ∨ k = 11 ∨ k = 12 := by omega
  rcases this with h | h | h | h | h | h | h | h | h <;> subst h <;> decide

theorem witness_ARegisterWordActsAsItsCommand :
    (3#32).getLsbD 1 = true ∧ ((1#32).getLsbD 1 = false ∧ (1#32).getLsbD 0 = true)
    ∧ (0x9000 ≤ (0x9000#16).toNat ∧ (0x0500#16).toNat < 0x8000)
    ∧ (uvalid (uid cAXIS 23) = true ∧ (dev []).node < 65536 ∧ (dev []).mittenRec ((dev []).addr (uid cAXIS 23)) = none
      ∧ uclass (uid cAXIS 23) ≠ cSTEP ∧ uid cAXIS 23 ≠ uTEMP ∧ uid cAXIS 23 ≠ uNODE) := by decide +kernel

/-- A device that may fetch a ticket. -/
def fetching : Dev :=
  { dev [] with host := { tq := { size := 16, hostIdx := 1 }, cq := ring16 0 } }

theorem witness_TicketsAreFetchedInOrder :
    (fetching.host.tq.size ≠ 0 ∧ fetching.host.fetchHalt = false ∧ fetching.host.tq.devIdx ≠ fetching.host.tq.hostIdx
      ∧ (fetching.host.tickets.map (·.room)).sum + 4
        ≤ (fetching.host.cq.size.toNat - 1 - fetching.host.cq.used) + (4096 - fetching.host.keptCq.length))
    ∧ ticketFormatOk (entry 0x0C (0x100 + 7 * 2 ^ 32)) = true
    ∧ ticketNodeAny (entry 0x0C (0x100 + 7 * 2 ^ 32)) = false ∧ ticketFormatOk (entry 0x0D) = false
    ∧ ticketFormatOk (entry 0x0B (0x100 + 88 * 2 ^ 416 + 0xFFFF * 2 ^ 128)) = true
    ∧ ticketNodeAny (entry 0x0B (0x100 + 88 * 2 ^ 416 + 0xFFFF * 2 ^ 128)) = true
    ∧ (dev []).host.tq.size = 0 := by decide +kernel

theorem witness_TicketsOutsideTheirStateAreRefused :
    (∀ x ∈ [1, 2, 3, 4, 5, 6, 7, 8, 9, 10, 11, 12], (holding x 0 (dev [])).startable x = some (tkt x)
      ∧ (holding x 0 (dev [])).startable (x + 1) = none)
    ∧ (dev []).eng.st ≠ .engaged ∧ (dev []).pins.ready = false ∧ (dev []).boot.stage ≠ .recovery
    ∧ (dev []).cal.job = none ∧ (dev []).cal.waitMask = 0 ∧ (dev []).cal.step = 0 := by decide +kernel

/-- A ticket of a job 7 for station 0. -/
def job7 : Nat := 7 * 2 ^ 32 + 1 * 2 ^ 160

theorem witness_JobsOpenAndClose :
    let d := engaged (holding 0x01 job7 (dev []))
    let c := engaged (holding 0x0C job7 (dev []))
    d.startable 0x01 = some (tkt 0x01 job7) ∧ tf (tkt 0x01 job7).entry 167 160 = 1 ∧ tf (tkt 0x01).entry 167 160 = 0
    ∧ tJob (tkt 0x01 job7).entry = 7 ∧ 7 ∉ d.jobs.closed ∧ d.jobs.isOpen.get? 7 = none ∧ d.jobs.isOpen.length < 16
    ∧ c.startable 0x0C = some (tkt 0x0C job7) ∧ c.pins.ready = true
    ∧ ({ isOpen := [(7, 1)] } : Jobs).isOpen.get? 7 ≠ none ∧ ({ isOpen := [(7, 1)] } : Jobs).closing = []
    ∧ ({ pages := [{ order := 0, slot := 5, job := 7, id := 1, mask := 1, lines := 1 }] } : Jobs).pages.any
        (fun p => p.job == 7 && !p.state.terminal) = true := by decide +kernel

/-! ## Witnesses: pages and their lines -/

/-- Station 0: a jet station without lanes, waveform set 0 defined, ARMED, with job 7 open on it. -/
def press (more : List Rec := []) : Dev :=
  { inSt (uid cSTN 0) .armed (dev (rec .stnJet 0 [(.LANE_MASK, 0), (.PLANE_COLS, 8)] :: rec .stnPlace 0 []
      :: { typ := RT.waveset.code, addr := RT.waveset.unit 0, body := 2 ^ 191 } :: more)) with
    jobs := { isOpen := [(7, 1)] } }

/-- A PAGE ticket of job 7 page 3 on station 0, 10 lines of 1 bit. -/
def page3 : Nat := 0x102 + 7 * 2 ^ 32 + 3 * 2 ^ 128 + 2 ^ 160 + 2 ^ 256 + 8 * 2 ^ 304 + 10 * 2 ^ 352

theorem witness_PagesQueueThroughTheirGauntlet :
    let d := engaged (holding page3 0 press)
    let p := pageOfTicket (tkt page3).entry 5 d.jobs.order
    d.startable 0x02 = some (tkt page3) ∧ d.eng.st = .engaged ∧ p.lines = 10 ∧ d.pageGauntlet p = none
    ∧ { d with jobs := {} }.pageGauntlet p = some 0x0E04
    ∧ (pageOfTicket (tkt 0x102).entry 5 0).lines = 0
    ∧ (let k := tkt (0x105 + 7 * 2 ^ 32)
      (holding (0x105 + 7 * 2 ^ 32) 0 press).startable 0x05 = some k ∧ (pageOfTestTicket k.entry 5 0).pattern = 0) := by
  decide +kernel

/-- A page QUEUED at station 0. -/
def queued : Page := { job := 7, id := 3, slot := 5, mask := 1, lines := 10, order := 0 }

/-- A device with that page, and a channel that takes PLANE tickets. -/
def withPage (p : Page) : Dev :=
  { engaged (press [rec .dma 0 [(.TICKET_USE, 1), (.BURST_KIB, 1), (.MAX_READS, 16), (.METERED, 1), (.SHARE, 1024)]]) with
    jobs := { isOpen := [(7, 1)], pages := [p], order := 1 } }

/-- A PLANE ticket of that page: 2 lines of 16 bytes from line 0. -/
def plane3 (blank : Bool) : Nat :=
  0x103 + 7 * 2 ^ 32 + 3 * 2 ^ 128 + 2 * 2 ^ 368
    + if blank then 2 ^ 163 else 16 * 2 ^ 400 + 1 * 2 ^ 432 + 0x1000 * 2 ^ 448

theorem witness_PlaneTicketsDescribeLines :
    (∀ b ∈ [false, true], let d := holding (plane3 b) 0 (withPage queued)
      let x := (tkt (plane3 b)).entry
      d.startable 0x03 = some (tkt (plane3 b)) ∧ d.eng.st = .engaged ∧ d.planeRefusal x = none
      ∧ d.pageJ (tJob x) (tf x 159 128) = some queued ∧ (tf x 163 163 = 1 ↔ b = true)
      ∧ (d.plane.ch.at 0).jobs = [] ∧ (d.plane.ch.at 0).waitBand = none)
    ∧ (holding (plane3 false) 0 (withPage { queued with lines := 1 })).planeRefusal (tkt (plane3 false)).entry
        = some 0x0E0E := by decide +kernel

/-- A station 0 with lane 0, which has one enabled nozzle, and a spit pattern 0. -/
def heads : Dev :=
  engaged (dev [rec .stnJet 0 [(.LANE_MASK, 1)], rec .stnPlace 0 [(.GLIDE_SLOPE, 64), (.BRIM_MIN_LINES, 16)], rec .lane 0 [],
    { rec .nozzleMap 0 [(.NOZZLES, 1)] with body := (rec .nozzleMap 0 [(.NOZZLES, 1)]).body + 2 ^ (8 * 16 + 16) },
    { typ := RT.spitPattern.code, addr := RT.spitPattern.unit 0, body := 1 + 2 * 2 ^ (8 * 4 + 52) }])

theorem witness_TicketsForStationsWaitForTheirBrims :
    (starts 0x06 0x100 heads ∧ starts 0x07 (0x100 + 1 * 2 ^ 128 + 100 * 2 ^ 160) heads
      ∧ starts 0x08 (0x100 + 2 ^ 128 + 2 ^ 144) heads)
    ∧ heads.isJet 0 = true ∧ 0 ∈ heads.lanesOf 0 ∧ 0 < heads.nozzles 0 ∧ nozEnabled (heads.nozWord 0 0) = true
    ∧ ({ heads with jobs := { pages := [onePage] } } : Dev).brimOpen 0 = false ∧ heads.nozzles 0 ≤ 1
    ∧ heads.stnOn 0 = true ∧ heads.glideFull 0 100 = false ∧ heads.glideFull 0 8388609 = true ∧ heads.stnOn 1 = false
    ∧ heads.spitMarked 0 0 = true ∧ heads.spitMarked 0 15 = false := by
  unfold starts; decide +kernel

/-- A device with the smallest image staged to slot 1. -/
def staging (g : StageStep) (len : Nat := 92) : Dev :=
  let d := holding 0x10B (len * 2 ^ 416) (dev [])
  { d with
    boot := { d.boot with stStep := g, stTicket := 5, stSlot := 1, stData := smallImage }
    pins := { ready := true } }

theorem witness_AnImageIsStagedThroughTheFlash :
    (staging .none).startable 0x0B = some (tkt 0x10B (92 * 2 ^ 416)) ∧ (staging .none).pins.ready = true
    ∧ (staging .none).boot.stage ≠ .recovery ∧ tf (tkt 0x10B (92 * 2 ^ 416)).entry 143 128 = (staging .none).node
    ∧ tf (tkt 0x10B (2 ^ 128)).entry 143 128 ≠ (staging .none).node
    ∧ tf (tkt 0x10B (92 * 2 ^ 416)).entry 447 416 = 92 ∧ 92 % 4 = 0 ∧ 88 ≤ 92 ∧ 92 ≤ 0x4000000
    ∧ smallImage.length = 92 ∧ (staging .reading).tkt 5 = some (tkt 0x10B (92 * 2 ^ 416))
    ∧ (staging .erasing).boot.stStep ≠ .none ∧ (staging .writing).boot.stStep = .writing
    ∧ Mem.wf 0xFF (staging .writing).boot.flash0 = true := by decide +kernel

theorem witness_staged_images_pass_or_fail :
    (staging .reading).stageFinding (tkt 0x10B (92 * 2 ^ 416)) smallImage = none
    ∧ (staging .reading).stageFinding (tkt 0x10B (88 * 2 ^ 416)) smallImage = some 0x0104 := by decide +kernel

/-! ## Witnesses: channels and bands -/

/-- The job of a PLANE ticket whose scatter list of two entries was asked for. -/
def planeJob : PlaneJob :=
  { slot := 5, job := 7, page := 3, ord := 0, stn := 0, sgAddr := 0x1000, sgCount := 2, lineBytes := 16, lineCount := 2
    firstLine := 0, asked := 2 }

/-- A scatter entry of `n` bytes. -/
def sg (n : Nat) : SgEntry := { addr := 0x2000, len := BitVec.ofNat 32 n, reserved := 0 }

/-- A device whose channel 0 stands as given. -/
def channel (q : Chan) : Dev :=
  let d := holding (plane3 false) 0 (withPage queued)
  { d with plane := { d.plane with ch := [(0, q)] } }

theorem witness_ScatterListsArriveInPieces :
    ((channel { jobs := [planeJob] }).plane.ch.at 0).active = some planeJob ∧ planeJob.fetched < planeJob.asked
    ∧ [sg 16, sg 16].length = planeJob.asked - planeJob.fetched ∧ (∀ x ∈ [sg 16, sg 16], x.len ≠ 0 ∧ x.reserved = 0)
    ∧ listSum [sg 16, sg 16] = 32 ∧ planeJob.listed + 32 ≤ planeJob.lineBytes * planeJob.lineCount
    ∧ planeJob.lineBytes * planeJob.lineCount < planeJob.listed + listSum [sg 16, sg 17]
    ∧ ((channel { jobs := [planeJob] }).tkt 5).isSome = true ∧ planeJob.asked = planeJob.sgCount
    ∧ planeJob.asked ≠ { planeJob with sgCount := 300 }.sgCount := by decide +kernel

/-- A descriptor of 4,096 bytes with bytes still to be asked for. -/
def desc : Desc :=
  { id := 1, src := 0x2000, dst := 0x10000, len := 16, line := 0, sg := 0, page := 3, slot := 5, lastOfLine := true
    lastOfTicket := true, wport := 0, stn := 0, job := 7, ord := 0 }

theorem witness_ReadsAreIssuedWithinTheirLimits :
    let d := channel { jobs := [{ planeJob with fetched := 2, offset := 32, complete := false }], store := [desc], tokens := 16 * 8192000 }
    ((d.enter 0 7).chanRun 0).nextRead 0 = some desc ∧ (((d.enter 0 7).chanRun 0).plane.ch.at 0).reads.length
      < ((d.enter 0 7).chanRun 0).cfgN .dma 0 .MAX_READS
    ∧ ((d.enter 0 7).chanRun 0).cfgB .dma 0 .METERED = true
    ∧ desc.readLen * 8192000 ≤ (((d.enter 0 7).chanRun 0).plane.ch.at 0).tokens
    ∧ (let z := channel { jobs := [{ planeJob with fetched := 2, offset := 32 }], store := [desc] }
      (((z.enter 0 7).chanRun 0).plane.ch.at 0).tokens < desc.readLen * 8192000)
    ∧ d.cfgB .dma 0 .METERED = true ∧ (d.plane.ch.at 0).jobs ≠ [] := by decide +kernel

theorem witness_ACompletedReadWritesItsBytesAndNoOthers :
    let d := channel { store := [{ desc with issued := 16 }], reads := [(3, 1, 16, 0)] }
    (d.plane.ch.at 0).store = [{ desc with issued := 16 }] ∧ (d.plane.ch.at 0).reads = [((3#14).toNat, 1, 16, 0)]
    ∧ (d.plane.ch.at 0).sg = [] ∧ desc.status = 0 ∧ desc.reason = 0 ∧ desc.pieces = []
    ∧ d.late desc.ord desc.stn desc.line = false ∧ (List.replicate 16 (0xAA : Byte)).length = desc.len := by decide +kernel

/-- Band 2 of bank 1 in the hands of a page. -/
def owner (ord : Nat) : BandOwner := { stn := 0, job := 7, page := 3, ord := ord, group := 0 }

/-- A device with bank 1, that band, and channel 0 waiting for a band of it. -/
def banked (ord : Nat) : Dev :=
  let d := { engaged (press [rec .bank 1 [(.SYS_BANDS, 8)], rec .dma 0 []]) with jobs := { pages := [queued], order := 1 } }
  { d with plane := { d.plane with
      bands := [(1 * 256 + 2, owner ord)], waiting := [(100, 0, 1, 0)]
      ch := [(0, { jobs := [planeJob], waitBand := some (1, 0) })] } }

theorem witness_BandsAreGrantedAndReturned :
    (banked 0).plane.bands.get? (1 * 256 + 2) = some (owner 0) ∧ (banked 0).plane.bands.get? (1 * 256 + 3) = none
    ∧ (banked 9).bandUsed (owner 9) = true ∧ (banked 9).bandBusy (1 * 256 + 2) = false ∧ (owner 9).withdrawn = false
    ∧ (banked 0).bandUsed (owner 0) = false
    ∧ (banked 0).firstWait 1 = some (100, 0, 1, 0) ∧ (banked 0).freeOf 1 = some 0
    ∧ ((banked 0).plane.ch.at 0).active = some planeJob ∧ ((banked 0).plane.ch.at 0).waitBand = some (1, 0) := by
  decide +kernel

/-! ## Witnesses: pages, leading edges, position -/

/-- A QUEUED page whose line data is blank and whose place PLL is locked. -/
def ready3 (st : PState) (dl : Bool := false) : Dev :=
  let span : Span := { stn := 0, first := 0, count := 10, blank := true, slot := 5 }
  { withPage { queued with state := st, deadline := dl, stn := [(0, { le := some 512 })], spans := [span] } with
    pll := [(2, { locked := true })] }

theorem witness_PagesArmAndAreMarked :
    (∀ st ∈ [PState.queued, .armed], ∀ dl ∈ [true, false], ∃ p, (ready3 st dl).pageJ (7#32).toNat (3#32).toNat = some p
      ∧ ((ready3 st dl).jobs.pages.map (·.order)).Nodup ∧ p.state = st ∧ p.deadline = dl
      ∧ ((ready3 st dl).enter 0 7).canArm p = true
      ∧ ({ ready3 st dl with pll := [] }.enter 0 7).canArm p = false ∧ (ready3 st dl).firstStn p = 0
      ∧ (p.stn.at ((ready3 st dl).firstStn p)).le.isSome = true ∧ bit p.mask ((ready3 st dl).firstStn p) = true
      ∧ (p.stn.at ((ready3 st dl).firstStn p)).marked = false ∧ (ready3 st dl).eng.st = .engaged) := by
  intro st hs dl hd
  exact ⟨_, rfl, by revert st dl; decide +kernel⟩

/-- A device with a cue that stations do not use, and a web station 0 with a page QUEUED, whose previous page ended at
`e`. -/
def web (p : Page) (e : Option Int) : Dev :=
  let d := inSt (uid cCUE 3) .run (engaged (dev [rec .stnJet 0 [(.LANE_MASK, 0)],
    rec .stnPlace 0 [(.WEB, 1), (.WEB_REPEAT, 65536 * 100), (.BRIM_MIN_LINES, 16), (.LE_SRC, 1), (.UPSTREAM_NODE, 4),
      (.UPSTREAM_STN, 2)], rec .cue 3 [(.FILTER_NS, 20)]]))
  { d with stn := [(0, { leLast := some 0, prevEnd := e })], jobs := { pages := [p], order := 1 } }

theorem witness_LeadingEdgesAreBound :
    let d := web queued (some 0)
    (d.has .cue 3 = true ∧ d.ust (uid cCUE 3) = .run ∧ (true ≠ d.cfgB .cue 3 .POLARITY) ∧ 19 < d.cfgN .cue 3 .FILTER_NS
      ∧ d.cfgN .cue 3 .FILTER_NS ≤ 20 ∧ d.cueHold.at 3 ≤ (d.enter 0 6).qns
      ∧ (∀ m, m < 8 → ¬ (d.binding m = true ∧ ((d.cfgN .stnPlace m .LE_SRC = 0 ∧ d.cfgN .stnPlace m .LE_CUE = 3)
        ∨ (d.cfgB .stnPlace m .REG_EN = true ∧ d.cfgN .stnPlace m .REG_CUE = 3)))))
    ∧ ((d.stn.at 0).leLast = some 0 ∧ d.binding 0 = true ∧ d.cfgB .stnPlace 0 .WEB = true ∧ (d.stn.at 0).webWait = false
      ∧ d.unbound 0 = some queued ∧ queued.leMode = false
      ∧ ¬ ((0 : Int) + d.cfg .stnPlace 0 .WEB_REPEAT - 0 < 65536 * ((d.cfgN .stnPlace 0 .BRIM_MIN_LINES : Nat) : Int))
      ∧ ((0 : Int) + d.cfg .stnPlace 0 .WEB_REPEAT - 65536 * 90 < 65536 * ((d.cfgN .stnPlace 0 .BRIM_MIN_LINES : Nat) : Int))
      ∧ (web { queued with state := .marking } none).unbound 0 = none)
    ∧ ((web { queued with leMode := true } none).pageJ 7 3 = some { queued with leMode := true }
      ∧ (web { queued with leMode := true } none).firstStn { queued with leMode := true } = 0)
    ∧ (let w := { d with stn := [(0, { webWait := true })] }
      w.unbound0 0 = some queued
      ∧ (∀ m, m < 8 → ((w.binding m = true ∧ w.cfgN .stnPlace m .LE_SRC = 1 ∧ w.cfgN .stnPlace m .UPSTREAM_NODE = 4
        ∧ w.cfgN .stnPlace m .UPSTREAM_STN = 2 ∧ w.takesEdge m = true) ↔ m = 0))
      ∧ nextSeq (w.stn.at 0).upSeq = 1) := by decide +kernel

/-- A station of which the position engine keeps 2 stamps, coasting as given, with a glide. -/
def placed (c : Bool) : Dev :=
  { marking with
    eng := { st := .engaged }
    stn := [(0, { coasting := c, glides := [{ slot := 5, rem := 256, slope := 64 }] })]
    pll := [(2, { everLocked := true, locked := true })] }

theorem witness_TheLatticeAndTheCorrections :
    (placed true).stnOn 0 = true ∧ (64 : Int) % 32 = 0 ∧ (65 : Int) % 32 ≠ 0
    ∧ (placed true).cfgB .stnPlace 0 .SEC_EN = false ∧ (placed true).stnOn 1 = false ∧ (placed true).binding 0 = true
    ∧ (∀ g ∈ ((placed true).stn.at 0).glides, 0 ≤ g.slope ∧ g.slope ≤ 64)
    ∧ (placed true).marking 0 = some onePage ∧ ((placed true).stn.at 0).coasting = true
    ∧ (onePage.stn.at 0).cut = false := by decide +kernel

theorem witness_EncodersAndTheirLoss :
    let d := dev [rec .enc 0 [(.MODE, 1), (.SSI_BITS, 12)], rec .enc 1 []]
    d.has .enc 0 = true ∧ d.cfgN .enc 0 .MODE = 1 ∧ d.has .enc 1 = true ∧ d.cfgN .enc 1 .MODE = 0
    ∧ (d.enc.at 0).ssiFails ≠ 2 ∧ ({ d with enc := [(0, { ssiFails := 2 })] }.enc.at 0).ssiFails = 2
    ∧ (placed false).stnOn 0 = true ∧ ((placed false).pll.at 2).everLocked = true
    ∧ ((placed false).stn.at 0).coasting = false := by decide +kernel

/-! ## Witnesses: calibration -/

/-- A calibration record of station 0 with the value 0. -/
def calRec : Rec := { typ := 0x0810, addr := uid cSTN 0, len := 24 }

/-- A calibration job of slot 5 for station 0 whose buffer is read. -/
def calibrating (c : CalSt) : Dev :=
  let d := engaged (holding 0x104 (20 * 2 ^ 128 + 2 ^ 160 + 0x4000 * 2 ^ 448) press)
  { d with cal := c, clk := { d.clk with now := 0 } }

/-- The calibration state while the buffer is read. -/
def calReading : CalSt := { job := some (5, 1, 0x4000, 24), reading := true, newGen := 0, gen := 0 }

theorem witness_TheCalTicketReadsItsBuffer :
    let d := calibrating {}
    let k := tkt 0x104 (20 * 2 ^ 128 + 2 ^ 160 + 0x4000 * 2 ^ 448)
    (d.eng.st = .engaged ∧ d.startable 0x04 = some k ∧ d.cal.job = none ∧ d.cal.waitMask = 0 ∧ d.cal.step = 0
      ∧ d.cal.gen ≠ 0xFFFFFFFE ∧ (calibrating { gen := 0xFFFFFFFE }).cal.gen = 0xFFFFFFFE ∧ tf k.entry 159 128 = 20
      ∧ tf (tkt 0x104 (15 * 2 ^ 128)).entry 159 128 < 16)
    ∧ (let c := calibrating calReading
      c.cal.job = some (5, 1, 0x4000, 24) ∧ c.cal.reading = true ∧ c.tkt 5 ≠ none ∧ c.twin.partnerGen = none
      ∧ calRec.bytes.length = 24 ∧ (calWalk c.node (24 / 20 + 1) [] (calRec.bytes.take 24)).toOption = some [calRec]
      ∧ (calWalk c.node (24 / 20 + 1) [] (List.replicate 24 0)).toOption = none
      ∧ c.calGauntlet c.cal.recs 1 [calRec] = none ∧ c.calGauntlet c.cal.recs 2 [calRec] = some 0x0802
      ∧ c.stnOn 0 = true ∧ bit 1 0 = true
      ∧ (∀ n, n < 8 → bit 1 n = true →
        ({ c with jobs := { pages := [{ onePage with id := 9 }] } }.enter 0 7).brimOpen n = false)) := by decide +kernel

/-- A calibration store write at a step, its target slot 0 written whole where `w` holds. -/
def storing (step : Nat) (w : Bool) : Dev :=
  let d := calibrating { calReading with reading := false, step := step, newGen := 1, body := calRec.bytes, target := 0 }
  let o := calOff 0
  let m0 := Mem.writeBytes 0xFF (Mem.writeBytes 0xFF [] (o + 0x1000) calRec.bytes) (o + 0x40)
    (leBytes 4 (crc32c calRec.bytes).toNat)
  let m1 := Mem.writeBytes 0xFF m0 o (commitBytes 0 24 0 1 0)
  if w then { d with boot := { d.boot with flash0 := m1, flash1 := m1 } } else d

theorem witness_TheStoreIsWrittenInItsOrder :
    (∀ n ∈ [0, 2, 3, 4, 5, 6, 7], (storing n false).cal.step = n ∧ (storing n false).tkt 5 ≠ none
      ∧ (storing n false).cal.job = some (5, 1, 0x4000, 24) ∧ (storing n false).twin.partnerGen = none
      ∧ Mem.wf 0xFF (storing n false).boot.flash0 = true ∧ Mem.wf 0xFF (storing n false).boot.flash1 = true)
    ∧ (let d := storing 5 true
      let m := d.boot.flash d.calCs
      Mem.wf 0xFF m = true ∧ Mem.bytes 0xFF m (calOff 0 + 0x1000) d.cal.body.length = d.cal.body
      ∧ Mem.bytes 0xFF m (calOff 0 + 0x40) 4 = leBytes 4 (crc32c d.cal.body).toNat)
    ∧ ((storing 7 true).calSlot 0).map (·.1) = some 1 ∧ ((storing 7 false).calSlot 0).map (·.1) = none
    ∧ ((storing 2 false).enter 0 7).clk.now < (storing 2 false).cal.stepAt + 4000000 * 60000
    ∧ (storing 2 false).cal.stepAt + 4000000 * 60000 ≤ ((storing 2 false).enter 240000000000 7).clk.now := by decide +kernel

theorem witness_ABrimAuditsAndSettlesItsPages :
    let p : Page := { onePage with state := .marked, stn := [(0, { begun := true, marked := true })] }
    let d : Dev := { withPage p with jobs := { pages := [p], order := 1 } }
    d.stnOn 0 = true ∧ d.inBrim 0 = true ∧ d.eng.st = .engaged ∧ (d.enter 0 7).auditWaits 0 = false
    ∧ (d.jobs.pages.map (·.order)).Nodup ∧ p.auditDue 0 = true ∧ d.ledgerOk p 0 = true
    ∧ d.ledgerOk { p with stn := [(0, { led := { vRequested := 1 } })] } 0 = false
    ∧ (∀ m, m < 8 → bit p.mask m = true → m ≠ 0 → (p.stn.at m).audited = true) ∧ d.stnOn 1 = false
    ∧ ({ engaged marking with jobs := { pages := [onePage] } } : Dev).inBrim 0 = false := by decide +kernel

theorem witness_TheArbiterCutsOff :
    let p : Page := { onePage with lines := 10 }
    let d := press [rec .bank 1 []]
    let d : Dev := { d with
      jobs := { pages := [p], order := 1 }
      stn := [(0, { builds := [{ ord := 0, k := 2, step4 := true }, { ord := 0, k := 3 }] })] }
    d.has .bank 0 = false ∧ d.has .bank 1 = true ∧ d.isJet 0 = true ∧ (d.jobs.pages.map (·.order)).Nodup
    ∧ (d.stn.at 0).builds.reverse.find? (fun b => !b.step4) = some { ord := 0, k := 3 } ∧ d.page? 0 = some p
    ∧ p.test = false ∧ d.lMin 0 ≤ 3 ∧ 3 - d.lMin 0 < p.lines ∧ 3 - d.lMin 0 ∉ (p.stn.at 0).lost := by decide +kernel

/-! ## Witnesses: jet stations -/

/-- A page in MARKING at station 0 whose leading edge is at 0. -/
def running : Page := { onePage with stn := [(0, { begun := true, le := some 0 })] }

/-- Stamps of a web that has moved 32 pu every 100 qns. -/
def moved : List (Int × Nat) := (List.range 20).map fun (i : Nat) => ((640 - 32 * i : Int), 4000 - 100 * i)

/-- An executor's HELLO. -/
def greeting : HelloFrame :=
  { kind := 0, nozzles := 1, headType := 0, bufBlocks := 1024, input := 0, tSetupNs := 0, reportNs := 0, version := 1
    features := 0, serial := 0 }

/-- `heads` with that page, events in build, and stamps of a moving web. -/
def jetting (bs : List Build) (moving : Bool) : Dev :=
  { heads with
    jobs := { pages := [running], order := 1 }
    stn := [(0, { builds := bs, stamps := if moving then moved else [] })] }

theorem witness_FireEventsAreBuiltLimitedAndIssued :
    let d := jetting [{ ord := 0, k := 1 }] true
    d.isJet 0 = true ∧ d.toBuild 0 = some running ∧ (jetting [] true).isJet 1 = false
    ∧ (d.jobs.pages.map (·.order)).Nodup ∧ d.lMin 0 ≤ 0 ∧ 0 - d.lMin 0 < running.lines
    ∧ (running.stn.at 0).tested 0 = false ∧ d.linePresent running 0 0 = false
    ∧ d.page? 0 = some running
    ∧ (∀ l ∈ d.lanesOf 0, (d.enter 0 7).fireAt l running 1 ≠ none)
    ∧ (∃ l ∈ (jetting [] false).lanesOf 0, ((jetting [] false).enter 0 7).fireAt l running 1 = none)
    ∧ (let b : Build := { ord := 0, k := 1, step4 := true }
      let z := jetting [b] true
      let e := z.enter 40000 7
      let ts := (z.lanesOf 0).filterMap (fun l => e.fireAt l running 1)
      b.step4 = true ∧ ts.length = (z.lanesOf 0).length ∧ ts.foldl min (ts.headD 0) ≤ e.qns + e.leadQ 0 + 4000)
    ∧ 0 < d.nozzles 0 ∧ d.nozOut 0 0 0 1 = true := by decide +kernel

/-- `heads` in a brim with spit work. -/
def spitting (x : Spit) : Dev :=
  { heads with
    jobs := {}
    lane := [(0, { up := true, hello := some greeting })]
    stn := [(0, { spit := x, spitTickets := [(5, 0, 1)], stamps := moved })] }

theorem witness_BrimsAreSpatByDistanceAndByTime :
    let d := holding 0x108 (2 ^ 128 + 2 ^ 144) (spitting { queue := [(0, some 5, false)], line := 1 })
    (d.stn.at 0).spit.queue = (0, some 5, false) :: [] ∧ d.inBrim 0 = true ∧ d.isJet 0 = true ∧ d.eng.st = .engaged
    ∧ (d.stn.at 0).spit.stop = none ∧ d.lanesOf 0 ≠ [] ∧ (∀ l ∈ d.lanesOf 0, (d.stn.at 0).spit.sent.at l ≤ (d.stn.at 0).spit.brimLine)
    ∧ (d.stn.at 0).spit.line < d.spitLines 0 (0, some 5, false)
    ∧ bits (d.spitWord 0 0) 63 52 = 2 ∧ (∀ l ∈ d.lanesOf 0, d.spitCut 0 l (d.spitTarget 0 l 0) = false)
    ∧ (let c : Dev := { d with jobs := { pages := [{ running with state := .armed, stn := [(0, { le := some (-1000000) })] }] } }
      c.inBrim 0 = true ∧ ∀ l ∈ c.lanesOf 0, c.spitCut 0 l (c.spitTarget 0 l 0) = true)
    ∧ (∀ l ∈ d.lanesOf 0, ((d.enter 0 7).predict 0 (d.spitTarget 0 l 0)).any
        (fun a => decide (a ≤ ((d.enter 0 7).qns + (d.enter 0 7).leadLane l + 4000 : Int))) = true
      ∧ (d.enter 0 7).canSend l (5 + ceilDiv (3 * d.nozzles l) 64) = true)
    ∧ (∀ l ∈ d.lanesOf 0, ∀ a, (d.enter 0 7).predict 0 (d.spitTarget 0 l 90) = some a →
        ((d.enter 0 7).qns + (d.enter 0 7).leadLane l + 4000 : Int) < a)
    ∧ (spitting { queue := [(0, none, false)] }).spitLines 0 (0, none, false) = 2
    ∧ (d.stn.at 0).spitTickets.find? (fun q => q.1 == 5) = some (5, 0, 1)
    ∧ (∀ m, m < 8 → m ≠ 0 → ∀ q ∈ (d.stn.at m).spitTickets, q.1 ≠ 5) ∧ d.tkt 5 ≠ none
    ∧ d.cfgN .stnJet 0 .IDLE_SPIT_MS = 0
    ∧ ((spitting { idle := some (0, 1) }).stn.at 0).spit.idle = some (0, 1)
    ∧ ((spitting { idle := some (0, 1) }).enter 0 7).speed 0 = (32, 100) := by decide +kernel

theorem witness_idle_spitting_starts :
    let d : Dev := engaged (dev [rec .stnJet 0 [(.LANE_MASK, 1), (.IDLE_SPIT_MS, 500)]])
    d.isJet 0 = true ∧ d.cfgN .stnJet 0 .IDLE_SPIT_MS ≠ 0 ∧ d.inBrim 0 = true ∧ d.eng.st = .engaged
    ∧ (d.enter 0 7).idleDue 0 = false
    ∧ (let z : Dev := { d with clk := { d.clk with tai := 2000000000 * 2 ^ 46, running := true } }
      (z.enter 0 7).idleDue 0 = true)
    ∧ (let i : Dev := spitting { idle := some (0, 1) }
      bits (i.spitWord 0 (i.cfgN .stnJet 0 .SPIT_AUTO_IDX)) 63 52 = 2 ∧ i.inBrim 0 = true
      ∧ 0 + 4000 * i.cfgN .stnJet 0 .IDLE_SPIT_PERIOD_US * 1 ≤ (i.enter 0 7).qns + (i.enter 0 7).leadQ 0 + 4000
      ∧ 2 ≤ ((spitting { idle := some (0, 2) }).stn.at 0).spit.idle.elim 0 (·.2)) := by decide +kernel

/-! ## Witnesses: lanes -/

/-- `heads` with lane 0 as given. -/
def lane0 (x : Lane) : Dev := { heads with lane := [(0, x)], eng := { st := .idle } }

/-- An EXCEPT frame about frame 4. -/
def exceptOn (es : List ExceptEntry) : ExceptFrame :=
  { seq := 1, refSeq := 4, event := 0, more := false, pageId := 0, entries := es }

theorem witness_ExceptionsMoveNozzles :
    let q : SentFrame := { seq := 4, blocks := 2, release := 0, fires := true, levels := [3] }
    let d := lane0 { up := true, hello := some greeting, frames := [q], noz := [(0, { st := 1, exc := 1, win := 0 })] }
    ((d.lane.at 0).up = true ∧ (d.lane.at 0).hello.isSome = true)
    ∧ (exceptOn []).entries.length = 0 ∧ 64 < (exceptOn (List.replicate 65 ⟨0, 0, 0⟩)).entries.length
    ∧ (exceptOn [⟨0, 1, 0⟩]).entries = [⟨0, 1, 0⟩]
    ∧ (d.lane.at 0).frames.find? (fun y => y.fires && y.seq == (exceptOn [⟨0, 1, 0⟩]).refSeq.toNat) = some q
    ∧ q.levels.getD 0 0 ≠ 0 ∧ 0 < d.nozzles 0
    ∧ ((d.noz 0 0).st ≠ 1 ∨ (d.lane.at 0).events < (d.noz 0 0).win + d.cfgN .health 0 .WINDOW_EVENTS)
    ∧ (lane0 { up := true, hello := some greeting }).lane.at 0 ≠ {} ∧ (lane0 {}).lane.at 0 = {}
    ∧ (let w := lane0 { events := 65535, noz := [(0, { st := 1 })] }
      (w.noz 0 0).st = 1 ∧ (w.noz 0 0).win + w.cfgN .health 0 .WINDOW_EVENTS ≤ (w.lane.at 0).events) := by decide +kernel

theorem witness_ExecutorsReport :
    let d := lane0 { up := true, hello := some greeting, sent := 10, returned := 4, exch := some (1, 0) }
    (d.lane.at 0).up = true ∧ ((lane0 {}).lane.at 0).up = false ∧ greeting.features.toNat < 8 ∧ greeting.kind.toNat < 2
    ∧ greeting.nozzles ≠ 0 ∧ 16 ≤ greeting.bufBlocks.toNat ∧ ({ greeting with bufBlocks := 15 }).bufBlocks.toNat < 16
    ∧ d.eng.st ≠ .engaged ∧ d.eng.st ≠ .disengaging ∧ (d.lane.at 0).hello.isSome = true
    ∧ 4 + ((11#32).toNat + 2 ^ 32 - 4 % 2 ^ 32) % 2 ^ 32 > (d.lane.at 0).sent
    ∧ 4 + ((10#32).toNat + 2 ^ 32 - 4 % 2 ^ 32) % 2 ^ 32 ≤ (d.lane.at 0).sent
    ∧ d.laneOpen 0 = true ∧ (lane0 {}).laneOpen 0 = false ∧ (d.lane.at 0).queue = [] ∧ 5 ≤ (d.lane.at 0).avail
    ∧ (d.lane.at 0).exch ≠ none := by decide +kernel

theorem witness_LanesTrainAndGoDown :
    let d (x : Lane) : Dev := lane0 { x with training := true }
    (d {}).has .lane 0 = true ∧ ((d {}).lane.at 0).training = true ∧ (d {}).has .lane 1 = false
    ∧ ((d { low := true, failsLow := 2 }).lane.at 0).failsLow = 2 ∧ ((d { fails := 2 }).lane.at 0).fails = 2
    ∧ (d {}).cfgB .lane 0 .FALLBACK_EN = false
    ∧ (dev [rec .lane 0 [(.FALLBACK_EN, 1)]]).cfgB .lane 0 .FALLBACK_EN = true
    ∧ ((lane0 { up := true }).lane.at 0).up = true ∧ (lane0 { up := true }).isTwin = false := by decide +kernel

/-! ## Witnesses: scan stations -/

/-- A scan station 0 of one beam, with its SOS and EOS units, and a clocked place PLL. -/
def scanner (c : Scan) : Dev :=
  let d := inSt (uid cSOS 0) .run (engaged (dev [rec .stnPlace 0 [],
    rec .stnScan 0 [(.BEAMS, 1), (.FACETS_M1, 3), (.PIX_PER_FACET, 1000), (.SE_PIXELS, 500), (.SOS_WIN, 16), (.SWEEP_PIXELS, 8),
      (.EOS_TRIM_MAX, 64), (.EOS_FILT, 2)], rec .sos 0 [], rec .sos 1 []]))
  { d with
    jobs := { pages := [onePage], order := 1 }
    clk := { d.clk with running := true }
    stn := [(0, { scan := c })], pll := [(2, { locked := true, rate := 100000000000 })] }

theorem witness_SweepsStartAtTheirSos :
    let d := scanner { begun := true, rate := 100000000000, eosOver := false, tHat := 0 }
    (d.isScan 0 = true ∧ d.binding 0 = true ∧ d.ust (uid cSOS 0) = .run
      ∧ (d.enter 0 6).sosInWindow 0 ((d.enter 0 6).sosStamp 0) = true
      ∧ (d.enter 1000000 6).sosInWindow 0 ((d.enter 1000000 6).sosStamp 0) = false)
    ∧ ((d.scan 0).begun = true ∧ (d.scan 0).misses ≠ 15 ∧ ((scanner { begun := true, misses := 15 }).scan 0).misses = 15
      ∧ (scanner { begun := true, misses := 15 }).marking 0 ≠ none)
    ∧ (d.cfgN .stnScan 0 .SE_PIXELS ≠ 0 ∧ d.has .sos 1 = true ∧ (d.scan 0).eosOver = false ∧ (d.scan 0).rate ≠ 0
      ∧ rdiv (1024000000000000 * d.cfgN .stnScan 0 .SE_PIXELS) (d.scan 0).rate = 5120000
      ∧ absI ((d.enter 20000 6).sosStamp 1 - 0 - 5120000) ≤ rdiv (5120000 * d.cfg .stnScan 0 .SOS_WIN) 1024
      ∧ ¬ absI ((d.enter 0 6).sosStamp 1 - 0 - 5120000) ≤ rdiv (5120000 * d.cfg .stnScan 0 .SOS_WIN) 1024)
    ∧ (let w : Sweep := { j := 1, ord := some 0, tHat := 100, lv := [(0, [1, 1])] }
      let z := scanner { begun := true, sweep := some w }
      (z.scan 0).sweep = some w ∧ w.ord.bind z.page? = some onePage ∧ beamSegs (w.lv.getD [] 0) ≠ []
      ∧ w.tHat < (z.enter 1000 7).qns ∧ 0 ∉ w.sent ∧ z.silentFor onePage 0 = false) := by decide +kernel

/-! ## Witnesses: drives, loops, lamps -/

/-- An engaged device with axis 0 of a MODE and ACTION, its state as given. -/
def axis0 (mode action : Nat) (x : Axis) : Dev :=
  { inSt (uid cAXIS 0) .run (engaged (dev [
      rec .axis 0 [(.MODE, mode), (.ACTION, action), (.ANGLE_SRC, 2), (.PWM_HALF, 5000), (.DEADTIME, 40), (.VBUS_MIN_V, 10),
        (.VBUS_MAX_V, 60), (.W_MAX, 3000)],
      rec .blowerCurve 0 [(.T_ON, 5), (.T_OFF, 2), (.POINTS, 2)],
      rec .sdm 0 [], rec .sdm 1 [], rec .enc 0 [], rec .ain 0 []])) with
    axis := [(0, x)] }

theorem witness_AxesTripAndFollowTheirLaws :
    let d := axis0 4 2 { on := true, follow := some 0, alignAt := some 0, hallBad := 2 }
    d.has .axis 0 = true ∧ d.has .axis 1 = false ∧ (d.axis.at 0).on = true ∧ ((axis0 4 1 {}).axis.at 0).on = false
    ∧ d.isActive = true ∧ d.ainScaled 0 < 1000 * d.cfg .axis 0 .VBUS_MIN_V ∧ d.cfgN .axis 0 .ANGLE_SRC ≠ 1
    ∧ (d.axis.at 0).follow ≠ none ∧ (axis0 4 0 {}).cfgN .axis 0 .ACTION = 0 ∧ (axis0 4 1 {}).cfgN .axis 0 .ACTION = 1
    ∧ d.cfgN .axis 0 .ACTION = 2 ∧ (d.axis.at 0).alignAt ≠ none ∧ hallSector 1 ≠ none ∧ hallSector 0 = none
    ∧ (d.axis.at 0).hallBad = 2 ∧ d.cfgN .axis 0 .ANGLE_SRC = 2
    ∧ (d.cfgN .axis 0 .MODE = 4 ∧ d.ust (uid cAXIS 0) = .run ∧ (d.axis.at 0).ramp = false ∧ d.eng.st = .engaged
      ∧ (d.enter 0 7).curveInput 0 = (some 0, true))
    ∧ d.has .sdm 0 = true ∧ d.has .sdm 2 = false ∧ d.has .enc 0 = true ∧ d.has .enc 1 = false := by decide +kernel

/-- A device with stepper 0 of a STALL_ACTION and a profile, its state as given, in a run-down or not. -/
def step0 (action : Nat) (x : Stepper) (down : Option Nat) : Dev :=
  let d := inSt (uid cSTEP 0) .run (engaged (dev [rec .step 0 [(.STALL_ACTION, action), (.HOLD_DELAY_MS, 100), (.CHOP_HALF, 5000),
    (.DMAX, 240), (.SENSE_WIN_NS, 500), (.STEP_PER_COUNT, 65536)],
    { rec .profile 0 [(.VMAX, 1000), (.ACC, 100), (.DEC, 100), (.POS_MAX, 1000)] with addr := uid cSTEP 0 }]))
  { d with step := [(0, x)], eng := { d.eng with rundownAt := down } }

theorem witness_SteppersAndProfilesMove :
    let d := step0 1 { on := true, fullA := some 0, devAt := some 0 } none
    d.has .step 0 = true ∧ d.has .step 1 = false ∧ d.cfgN .step 0 .STEP_PER_COUNT ≠ 0 ∧ (d.step.at 0).on = true
    ∧ d.stepPos 0 = (d.step.at 0).lastStep ∧ d.stepPos 0 ≠ 7 ∧ d.isActive = true ∧ (d.step.at 0).fullA.isSome = true
    ∧ (d.step.at 0).held = none ∧ (d.step.at 0).stallHold = false ∧ d.cfgN .step 0 .HOLD_DELAY_MS ≠ 0
    ∧ (d.step.at 0).count0 = none ∧ (d.step.at 0).devAt ≠ none ∧ d.ust (uid cSTEP 0) = .run
    ∧ d.cfgN .step 0 .STALL_ACTION = 1 ∧ (step0 0 {} none).cfgN .step 0 .STALL_ACTION = 0
    ∧ (step0 2 {} none).cfgN .step 0 .STALL_ACTION = 2
    ∧ d.profRuns (uid cSTEP 0) = true ∧ d.profRuns (uid cSTEP 1) = false
    ∧ 0 ≤ d.cfgU .profile (uid cSTEP 0) .DEC ∧ 0 ≤ d.cfgU .profile (uid cSTEP 0) .ACC
    ∧ d.cfgU .profile (uid cSTEP 0) .VMAX = 1000 ∧ d.cfgU .profile (uid cSTEP 0) .POS_MIN ≤ d.cfgU .profile (uid cSTEP 0) .POS_MAX
    ∧ d.eng.rundownAt = none ∧ (step0 1 { on := true } (some 0)).eng.rundownAt ≠ none := by decide +kernel

/-- A device with analog input 0, loop 0 from it to actuator 0, and lamp 0, in given states. -/
def loop0 (st : UState) (x : Loop) (m : Lamp) : Dev :=
  let d := inSt (uid cLAMP 0) .run (inSt (uid cLOOP 0) st (engaged (dev [
    rec .ain 0 [(.GAIN, 65536), (.GAIN_SH, 16), (.ELEC_MIN, 100), (.ELEC_MAX, 4000), (.LIMIT_HI, 50)],
    rec .loop 0 [(.OUT_MAX, 1000), (.RAMP_RATE, 100), (.DIV, 100), (.DST_KIND, 1), (.SAT_ACTION, 2), (.T_SAT_MS, 1), (.SAT_WIN_MS, 10000),
      (.SAT_FRAC, 192)],
    rec .act 0 [(.DUTY_MAX, 500)],
    rec .lamp 0 [(.PERIOD_T, 4000), (.DUTY_MAX, 65535), (.N_DIAG, 64), (.T_DIAG_NS, 2000), (.DIAG_EN, 1)]])))
  { d with ain := [(0, { outs := 7, beyond := true })], loop := [(0, x)], lamp := [(0, m)] }

theorem witness_InputsLoopsAndLampsFollowTheirLaws :
    let d := loop0 .run {} { duty := 30000, k := 63 }
    d.has .ain 0 = true ∧ d.has .ain 1 = false
    ∧ (d.cfg .ain 0 .ELEC_MIN ≤ d.compensated 200 ∧ (d.compensated 200 : Int) ≤ d.cfg .ain 0 .ELEC_MAX)
    ∧ ¬ d.cfg .ain 0 .ELEC_MIN ≤ d.compensated 0 ∧ (d.ain.at 0).outs = 7 ∧ (d.ain.at 0).beyond = true
    ∧ d.has .loop 0 = true ∧ d.has .loop 1 = false ∧ d.ust (uid cLOOP 0) = .run ∧ (d.enter 0 7).source 0 = some 0
    ∧ (let z : Dev := inSt (uid cAIN 0) .fault d; (z.enter 0 7).source 0 = none ∧ z.ust (uid cLOOP 0) = .run)
    ∧ d.cfg .loop 0 .OUT_MIN ≤ d.cfg .loop 0 .OUT_MAX ∧ d.isActive = true ∧ d.cfgN .loop 0 .DST_KIND = 1
    ∧ (let h := loop0 .hold { holdAt := some 0 } {}
      h.ust (uid cLOOP 0) = .hold ∧ (h.loop.at 0).holdAt ≠ none ∧ (h.loop.at 0).inBand = false)
    ∧ (let z := loop0 .run { satAt := some 0 } {}
      (z.enter 100000000 7).satFound 0 = true ∧ (z.loop.at 0).satFlagged = false ∧ (z.enter 0 7).satFound 0 = false)
    ∧ d.lampLive 0 = true ∧ d.lampLive 1 = false ∧ d.cfgB .lamp 0 .DIAG_EN = true
    ∧ d.cfgN .lamp 0 .T_DIAG_NS * 32 ≤ d.cfgN .lamp 0 .N_DIAG * d.lampTau 0 * 5
    ∧ (loop0 .run {} { duty := 1 }).cfgN .lamp 0 .N_DIAG * (loop0 .run {} { duty := 1 }).lampTau 0 * 5
        < d.cfgN .lamp 0 .T_DIAG_NS * 32
    ∧ d.ust (uid cLAMP 0) ≠ .fenced := by decide +kernel

/-! ## Witnesses: time -/

/-- A device whose port 1 leads to its parent, with an exchange in progress. -/
def timed (st : EngState) (run : Bool) (src : Nat) : Dev :=
  { dev [rec .time 0 [(.TIME_SRC, src), (.STEP_NS, 1000)], rec .xport 1 []] with
    eng := { st := st }
    fab := { ports := [(1, { up := true })], parent := some 1, running := run, crown := if run then some 0 else some 4 }
    clk := { State.reset.dev.clk with exch := some (1, 0), tod := some (100, 0), clockClass := 6, master := some 1, good := 7 } }

/-- A ToD frame of second 100. -/
def tod100 : TodFrame :=
  let b : List Byte := [0x56, 0x56, 0x54, 0x44, 0, 0, 0, 0, 0, 100, 0, 0]
  { bytes := b ++ (leBytes 4 (crc32c b).toNat).reverse }

/-- A PTP message of domain 0. -/
def ptp248 : PtpMessage :=
  { domain := 0, master := 1, priority1 := 128, priority2 := 128, offset := 65536, utcOffset := 37, clockClass := 248 }

theorem witness_TimeIsDisciplined :
    let d := timed .idle false 0
    (d.fab.ports.at 1).up = true ∧ (d.fab.ports.at 0).up = false ∧ d.clk.exch = some (1, 0) ∧ d.fab.parent = some 1
    ∧ d.mayStep = true ∧ 65536 * d.cfg .time 0 .STEP_NS < absI (65536 * 1001)
    ∧ ¬ 65536 * d.cfg .time 0 .STEP_NS < absI (65536 * 1000) ∧ (timed .engaged false 0).mayStep = false
    ∧ (d.enter 0 6).adjRange.1 ≤ (d.enter 0 6).adjRange.2 ∧ d.fab.running = false
    ∧ (timed .idle true 1).followsPtp ptp248 = true ∧ d.followsPtp ptp248 = false
    ∧ ((timed .idle true 1).fab.running = true ∧ (timed .idle true 1).cfgN .time 0 .TIME_SRC = 1)
    ∧ (timed .idle true 2).grandmaster = true ∧ d.grandmaster = false ∧ (timed .idle true 2).clk.tod = some (100, 0)
    ∧ 0 + 400000000 ≤ ((timed .idle true 2).enter 400000000 6).clk.now
    ∧ ((timed .idle true 2).enter 400000000 6).clk.now ≤ 0 + 3600000000
    ∧ ¬ 0 + 400000000 ≤ ((timed .idle true 2).enter 399999999 6).clk.now
    ∧ ¬ ((timed .idle true 2).enter 3600000001 6).clk.now ≤ 0 + 3600000000
    ∧ todSeconds tod100 = some 100 ∧ todSeconds { bytes := [] } = none ∧ (timed .idle true 2).clk.clockClass = 6 := by
  decide +kernel

/-! ## Witnesses: temperature -/

/-- An engaged device with a neighbour 4 and a thermal state. -/
def hot (x : Temp) : Dev :=
  { engaged (dev [rec .thermal 0 [(.NB_COUNT, 1), (.NB0_NODE, 4)]]) with
    temp := x, fab := { ports := [(1, { up := true, credit := none, subtree := [(4, 4)] })], parent := none } }

theorem witness_TheTemperatureStopsTheDevice :
    let d := hot { fails := 2, orderly := true, swapAt := some (0, 0x0C03) }
    State.reset.dev.boot.stage = .unpowered ∧ d.boot.stage ≠ .unpowered ∧ d.boot.stage ≠ .critical
    ∧ (∀ x ∈ [(-550 : Int), 1039, 1040, 1049, 1050, 1149, 1150, 1249, 1250, 1500], -550 ≤ x ∧ x ≤ 1500)
    ∧ diodeValid .open = none ∧ diodeValid .failed = none ∧ diodeValid (.reading 1501) = none
    ∧ 2 ≤ d.temp.fails ∧ d.temp.hard = false ∧ (hot {}).temp.orderly = false ∧ d.temp.orderly = true
    ∧ (d.jobs.pages.map (·.order)).Nodup ∧ (inStage .critical).boot.stage = .critical
    ∧ d.temp.swapAt = some (0, 0x0C03) ∧ (d.enter 199999999 5).clk.now < 0 + 200000000
    ∧ 0 + 200000000 ≤ (d.enter 200000000 5).clk.now ∧ d.twin.role ≠ .active
    ∧ ({ d with twin := { role := .active } } : Dev).twin.role = .active ∧ d.eng.st = .engaged := by decide +kernel

theorem witness_NeighboursConfirmTheTemperature :
    let d := hot { query := some 0, soft := true, now := 900, answers := [(4, 895, 0)], recheckAt := some 0 }
    d.boot.loaded = true ∧ State.reset.dev.boot.loaded = false
    ∧ (d.enter 20000000 7).clk.now ≤ 0 + 20000000 ∧ d.neighbours.any (·.1 == 4) = true ∧ d.neighbours.any (·.1 == 5) = false
    ∧ 0 + 20000000 ≤ (d.enter 20000000 5).clk.now ∧ d.checkPasses = true
    ∧ (hot { query := some 0, soft := true, now := 900, answers := [(4, 700, 0)] }).checkPasses = false
    ∧ 0 ≤ (d.enter 0 7).clk.now ∧ (4#16).toNat ≠ d.node ∧ d.fab.portTo 4 = some 1 ∧ (d.fab.ports.at 1).waitU = []
    ∧ 5 ≤ (d.fab.ports.at 1).avail false
    ∧ ({ d with pins := { ready := true }, boot := { d.boot with vstby := true } } : Dev).boot.vstby = true
    ∧ d.pins.ready = true ∧ d.boot.vstby = false := by decide +kernel

/-! ## Witnesses: the fabric -/

/-- A device whose port 1 is UP, and its fabric state beside the ports. -/
def netted (rs : List Rec) (p : Port) (g : Fab) : Dev := { dev rs with fab := { g with ports := [(1, p)] } }

theorem witness_other_serials : ∃ s : DWord, s ≠ Config.serial :=
  ⟨Config.serial + 1, fun h => by simp at h⟩

theorem witness_PortsTrainGreetAndGoDown :
    let d := netted [rec .xport 1 [(.PEER_NODE, 4), (.PEER_PORT, 0xFF)]] { up := true } { parent := some 1 }
    (d.fab.ports.at 1).up = true
    ∧ (let t : Dev := netted [rec .xport 1 []] { training := true } {}
      t.has .xport 1 = true ∧ (t.fab.ports.at 1).up = false ∧ (t.fab.ports.at 1).training = true)
    ∧ (d.fab.ports.at 0).up = false ∧ d.fab.parent = some 1
    ∧ d.cfgN .xport 1 .PEER_NODE = 4 ∧ (4#16).toNat ≠ d.node ∧ d.fab.dup = false
    ∧ (netted [rec .xport 1 [(.PEER_NODE, 0xFFFF), (.PEER_PORT, 0xFF)]] { up := true } {}).cfgN .xport 1 .PEER_NODE = 0xFFFF
    ∧ (let w : Dev := { twinDev [] with fab := { ports := [(4, { up := true })] }, twin := { role := .lined } }
      w.isTwin = true ∧ (w.fab.ports.at 4).up = true ∧ w.twin.role = .lined)
    ∧ d.stations = [] ∧ d.boot.loaded = true ∧ press.stations ≠ [] ∧ d.fab.fingers = []
    ∧ (∀ q, q < 1 → (d.fab.ports.at q).up = false) ∧ (d.fab.ports.at 1).creditsOk = true
    ∧ ({ up := true, credit := some { urgRx := 9, urgRet := 9, bulkRx := 0, bulkRet := 0, urgHeld := 0, bulkHeld := 0, stamp := 0 } }
        : Port).creditsOk = false := by decide +kernel

/-- A ROUTE message of a child. -/
def routeMsg (seq : Nat) : RouteMsg :=
  { src := 4, withdraw := false, routeSeq := BitVec.ofNat 32 seq, ranges := [(4, 6)] }

theorem witness_TheFabricElectsAndRoutes :
    let d := netted [rec .fabric 0 [(.CROWN_PRIO, 128), (.CROWN_LOST_MS, 20)],
        { typ := RT.mitten.code, addr := uid cMITTEN 0, body := 1 + uid cLOOP 0 * 2 ^ 32 }]
      { up := true, subtree := [(4, 6)] }
      { lostAt := some 0, routes := [(4, 7)], best := some (4, 1, 1), bestRun := true, running := true, crown := some 0 }
    (d.fab.ports.at 1).up = true ∧ (d.fab.ports.at 0).up = false ∧ (d.fab.ports.at 1).mismatch = false ∧ d.fab.dup = false
    ∧ (9#16).toNat ≠ d.node ∧ (0#16).toNat = d.node ∧ better (9, 0, 5) (4, 1, 1) = true
    ∧ d.fab.routes.get? 4 = some 7 ∧ (routeMsg 7).routeSeq.toNat ≤ 7 ∧ 7 - (routeMsg 7).routeSeq.toNat < 2147483648
    ∧ ¬ (routeMsg 8).routeSeq.toNat ≤ 7 ∧ d.fab.parent ≠ some 1 ∧ (23#5).toNat < 24 ∧ 24 ≤ (24#5).toNat
    ∧ d.fab.portTo 9 = none ∧ d.fab.crown = some d.node ∧ d.fab.portTo 5 = some 1 ∧ (d.fab.ports.at 1).waitU = []
    ∧ 16 ≤ (d.fab.ports.at 1).avail false ∧ (netted [] {} {}).fab.crown ≠ some 0
    ∧ 0 + 4000000 * d.cfgN .fabric 0 .CROWN_LOST_MS ≤ (d.enter 80000000 7).clk.now
    ∧ ¬ 0 + 4000000 * d.cfgN .fabric 0 .CROWN_LOST_MS ≤ (d.enter 79999999 7).clk.now
    ∧ d.cfgN .fabric 0 .CROWN_PRIO ≠ 255 ∧ d.fab.tooDeep = false
    ∧ (let a : Dev := { dev [] with boot := { (dev []).boot with stepped := true } }
      a.boot.stepped = true ∧ a.fab.crown = none ∧ ∀ q, q < 4 → (a.fab.ports.at q).up = false)
    ∧ (let w : Dev := { twinDev [] with boot := { (twinDev []).boot with stepped := true } }
      w.isTwin = true ∧ w.boot.stepped = true ∧ w.twin.paired = false ∧ w.twin.met = false)
    ∧ uid cMITTEN 0 ∈ d.homes ∧ uid cLOOP 0 ∈ d.fingersOf (uid cMITTEN 0) ∧ uid cMITTEN 1 ∉ d.homes
    ∧ [uid cLOOP 0].Nodup ∧ uclass (uid cLOOP 0 % 65536) ≠ cMITTEN := by decide +kernel

theorem witness_better_crowns_stand :
    ∃ w : Nat × Nat × Nat, better (0, 128, Config.serial.toNat) w = false ∧ better (9, 0, 5) w = true :=
  ⟨(4, 1, 1), by simp [better], by decide⟩

/-- A VISOR ticket with T at an instant and a buffer of a length. -/
def visorTicket (t len : Nat) : Nat := 0x109 + uid cNODE 0 * 2 ^ 320 + len * 2 ^ 352 + t * 2 ^ 448

/-- A running device with a visor pending. -/
def visored (v : Visor) (n : Nat) : Dev :=
  let d := holding (visorTicket 1000000 64) 0 (engaged (dev [rec .fabric 0 [(.VISOR_LEAD_US, 200), (.VISOR_TIMEOUT_MS, 100)]]))
  { d with
    fab := { visors := List.replicate n v }
    clk := { d.clk with tai := 4 * 1000000 * 2 ^ 46 } }

/-- A visor of this node that waits for node 4. -/
def visor1 (n : Nat) : Visor := { id := 3, node := n, t := 1000000, scope := uid cNODE 0, slot := some 5, len := 64, nodes := [0, 4] }

theorem witness_VisorsAreCollectedAndWritten :
    let d := visored (visor1 0) 1
    let k := tkt (visorTicket 1000000 64)
    let late := tkt (visorTicket 1200000 64)
    (d.pins.ready = true ∧ d.startable 0x09 = some k ∧ (d.enter 0 7).stamp = 1000000 ∧ tf k.entry 383 352 = 64
      ∧ tf k.entry 511 448 < (d.enter 0 7).stamp + 1000 * d.cfgN .fabric 0 .VISOR_LEAD_US
      ∧ ¬ tf late.entry 511 448 < (d.enter 0 7).stamp + 1000 * d.cfgN .fabric 0 .VISOR_LEAD_US
      ∧ ¬ (d.enter 0 7).stamp + 10000000000 < tf late.entry 511 448 ∧ 8 ≤ (visored (visor1 0) 8).fab.visors.length
      ∧ d.fab.visors.length < 8)
    ∧ ((1#32).getLsbD 0 = true ∧ (0#32).getLsbD 0 = false ∧ (0xFFFF0000#32).toNat / 65536 = 0xFFFF
      ∧ d.host.visorScope.toNat / 65536 ≠ 0xFFFF
      ∧ ∃ v ∈ (visored { visor1 0 with slot := none } 1).fab.visors, v.node = d.node ∧ v.slot = none)
    ∧ ((9#16).toNat ≠ d.node ∧ uid cNODE 0 ∈ d.scopeUnits (uid cNODE 0) ∧ d.scopeUnits (9 * 65536) = [])
    ∧ d.visorOf 0 3 = some (visor1 0) ∧ d.visorOf 0 4 = none ∧ (visor1 0).latched = false
    ∧ (visor1 0).t ≤ (d.enter 0 7).stamp ∧ (visored (visor1 9) 1).visorOf 9 3 = some (visor1 9)
    ∧ (∃ n ∈ (visor1 0).nodes, n ≠ d.node ∧ n ∉ (visor1 0).reported ∧ n ∉ (visor1 0).late)
    ∧ (∀ x ∈ (visor1 0).nodes, x ∈ [4, 0] ∨ x ∈ ([] : List Nat)) ∧ d.tkt 5 ≠ none
    ∧ (visor1 0).t + 1000000 * 100 ≤ ({ d with clk := { d.clk with tai := 4 * 101000000 * 2 ^ 46 } }.enter 0 7).stamp := by
  decide +kernel

/-! ## Witnesses: twins -/

/-- A referee of the pair 4 and 6, in a state. -/
def referee (r : Ref) : Dev :=
  { dev [{ typ := RT.referee.code, addr := 4 * 65536, body := 6 * 2 ^ 48 + 1 * 2 ^ 46 + 2 * 2 ^ 44 }] with
    ref := [(4, r)], clk := { State.reset.dev.clk with tai := 0, running := true } }

/-- A LEASE message. -/
def leaseMsg (src pair role epoch : Nat) : LeaseMsg :=
  { src := BitVec.ofNat 16 src, role := BitVec.ofNat 2 role, rank := 0, pairLo := BitVec.ofNat 16 pair
    epoch := BitVec.ofNat 32 epoch, expires := 6, stamp := 0 }

/-- A twin of node 0 with partner 6 and referee 9. -/
def twin0 (x : Twin) : Dev :=
  { twinDev [rec .twin 0 [(.PARTNER_NODE, 6), (.REF0_NODE, 9), (.REF1_NODE, 10), (.REF2_NODE, 0xFFFF), (.REF3_NODE, 0xFFFF),
      (.REF_LOST_MS, 10), (.HOLD_MAX_MS, 10), (.LINING_LAG_US, 200), (.SWAP_PIN_EN, 1)], rec .axis 0 [(.MODE, 1)]] with
    twin := x, fab := { ports := [(4, { up := true }), (1, { up := true, subtree := [(9, 10)] })] } }

theorem witness_RefereesFenceAndGrant :
    let b : Beat := { stamp := 0, role := 1, epoch := 1 }
    let d := referee { epoch := 1, holder := some 4, lo := some b, hi := some b }
    d.refRec 4 ≠ none ∧ d.refRec 5 = none ∧ d.refCfg 4 .PAIR_HI = 6 ∧ d.isTwin = false
    ∧ ((twin0 {}).isTwin = true ∧ (twin0 {}).pairLo = 0 ∧ (twin0 {}).partner = 6 ∧ (twin0 {}).refs[0]? ≠ none
      ∧ (twin0 {}).refs[3]? = none)
    ∧ (d.ref.at 4).holder = some 4 ∧ (leaseMsg 4 4 2 1).epoch.toNat = (d.ref.at 4).epoch
    ∧ (∀ x, (if 4 = 4 then (d.ref.at 4).lo else (d.ref.at 4).hi) = some x → x.stamp + 20000000 ≤ 20000000)
    ∧ (d.ref.at 4).fence = none
    ∧ (let f := referee { epoch := 1, holder := some 4, hi := some b, fence := some (4, 0, 0) }
      (f.ref.at 4).fence = some (4, 0, 0) ∧ (f.ref.at 4).failed = false ∧ (f.enter 19999 7).clk.now < 0 + 20000
      ∧ 0 + 20000 ≤ (f.enter 20000 7).clk.now
      ∧ (f.enter 80000 7).clk.now < ((f.ref.at 4).lowSince.getD (f.enter 80000 7).clk.now) + 80000
      ∧ f.otherTwin 4 4 = 6 ∧ (f.ref.at 4).beat 4 6 = some b ∧ b.role = 1)
    ∧ (let f := referee { lowSince := some 0, fence := some (4, 0, 0) }
      0 + 80000 ≤ (f.enter 80000 7).clk.now ∧ (f.ref.at 4).beat 4 6 = none)
    ∧ ((leaseMsg 4 4 2 1).expires.toNat % 65536 = d.otherTwin 4 4 ∧ (d.ref.at 4).hi = some b ∧ (d.ref.at 4).swapTo = none)
    ∧ (leaseMsg 9 4 2 1).src.toNat ≠ 4 ∧ (leaseMsg 9 4 2 1).src.toNat ≠ 6 := by decide +kernel

theorem witness_first_grants_have_a_twin :
    (referee {}).firstTwin 4 = 4 ∨ (referee {}).firstTwin 4 = (referee {}).pairHi 4 := by
  unfold Dev.firstTwin; split <;> simp

theorem witness_TwinsTakeAndLeaveTheirRoles :
    let d := twin0 { role := .active, epoch := 1, expires := some 0, refAt := 0 }
    (d.isTwin = true ∧ (leaseMsg 9 0 0 1).pairLo.toNat = d.pairLo ∧ (leaseMsg 9 0 0 1).epoch.toNat = d.twin.epoch
      ∧ (leaseMsg 9 4 0 1).pairLo.toNat ≠ d.pairLo ∧ d.twin.epoch < (leaseMsg 9 0 0 2).epoch.toNat)
    ∧ ((∀ u ∈ d.unitsOn, d.ust u = .fault → (d.us u).reason ≠ 0x0C03) ∧ d.servingRef = some 9 ∧ d.fab.portTo 9 = some 1
      ∧ (d.fab.ports.at 1).waitU = [] ∧ 18 ≤ (d.fab.ports.at 1).avail false)
    ∧ ((twin0 { role := .lined }).twin.role = .lined ∧ (twin0 {}).twin.role = .unlined ∧ (twin0 {}).lpUp = true)
    ∧ ((twin0 { role := .fenced }).twin.role = .fenced ∧ (twin0 { role := .fenced }).pins.fenceLow = false)
    ∧ (d.twin.swap = none ∧ (twin0 { swap := some none }).twin.swap = some none ∧ d.temp.swapAt = none
      ∧ ((holding 0x10A (6 * 2 ^ 128) (twin0 { swap := some (some 5) })).tkt 5 ≠ none))
    ∧ (d.twin.expired = false ∧ d.twin.expires = some 0 ∧ 0 ≤ (d.enter 0 7).qns)
    ∧ (10 ≤ 10 ∧ d.cfgB .twin 0 .SWAP_PIN_EN = true ∧ d.twin.refLost = false)
    ∧ (let k := tkt 0x10A (6 * 2 ^ 128)
      (engaged (holding 0x10A (6 * 2 ^ 128) d)).startable 0x0A = some k ∧ tf k.entry 143 128 = d.partner
      ∧ tf (tkt 0x10A (7 * 2 ^ 128)).entry 143 128 ≠ d.partner ∧ tf (tkt 0x10A).entry 143 128 = d.node)
    ∧ (d.boot.stage ≠ .unpowered ∧ d.has .axis 0 = true)
    ∧ (d.twin.refAt + 4000000 * d.cfgN .twin 0 .REF_LOST_MS ≤ (d.enter 40000000 7).clk.now
      ∧ ¬ d.twin.refAt + 4000000 * d.cfgN .twin 0 .REF_LOST_MS ≤ (d.enter 39999999 7).clk.now
      ∧ d.nextRef = some 1 ∧ (twin0 { refLost := true }).twin.refLost = true) := by decide +kernel

/-- A lining frame of epoch 1. -/
def liningFrame (seq stamp : Nat) (e : LiningEntry) : LiningFrame :=
  { epoch := 1, seq := BitVec.ofNat 32 seq, stamp := BitVec.ofNat 64 stamp, entry := e, last := true }

theorem witness_TheLiningKeepsAStandbyCurrent :
    let d := twin0 { role := .lined, epoch := 1, linSeq := some 8, snapped := true }
    let m : PairMsg := { req := true, node := 6, epoch := 1, liningCompat := 0, pairCrc := 0, serial := 0 }
    (d.isTwin = true ∧ d.lpUp = true ∧ m.node.toNat = d.partner ∧ d.twin.met = false ∧ (twin0 { met := true }).twin.met = true
      ∧ (twin0 { role := .active, partnerLined := true }).twin.partnerLined = true)
    ∧ ((liningFrame 0 0 (.partnerLane 0 true)).seq = 0 ∧ (twin0 { myOutcomes := [(5, 1)] }).twin.myOutcomes.get? 5 = some 1
      ∧ d.twin.myOutcomes.get? 5 = none ∧ d.twin.swap = none)
    ∧ ((liningFrame 8 0 (.act 0 5)).seq ≠ 0 ∧ d.twin.role ≠ .active ∧ d.twin.role ≠ .fenced
      ∧ ¬ (liningFrame 8 0 (.act 0 5)).epoch.toNat < d.twin.epoch ∧ d.twin.linSeq = some (liningFrame 8 0 (.act 0 5)).seq.toNat
      ∧ d.twin.linSeq ≠ some (liningFrame 9 0 (.act 0 5)).seq.toNat
      ∧ ¬ 1000 * d.cfgN .twin 0 .LINING_LAG_US < ((d.enter 800000 7).qns - 0) / 4
      ∧ (let z : Dev := { d with clk := { d.clk with tai := 800004 * 2 ^ 46 } }
        1000 * z.cfgN .twin 0 .LINING_LAG_US < ((z.enter 0 7).qns - 0) / 4))
    ∧ ((twin0 {}).twin.role = .unlined ∧ (twin0 {}).twin.linSeq = none ∧ (twin0 {}).twin.snapped = false
      ∧ ∀ n ∈ d.stations, d.marking n = none)
    ∧ ((twin0 { resyncAt := some 0 }).twin.resyncAt = some 0
      ∧ 0 + 4000000 * 2000 ≤ ((twin0 {}).enter 8000000000 7).clk.now
      ∧ ¬ 0 + 4000000 * 2000 ≤ ((twin0 {}).enter 7999999999 7).clk.now)
    ∧ (d.twin.mirrorStale = false ∧ d.twin.mirrorAt + 4000000 * d.cfgN .twin 0 .HOLD_MAX_MS ≤ (d.enter 40000000 7).clk.now) := by
  decide +kernel

/-! ## Witness: the invariant -/

theorem witness_EveryStepKeepsTheDeviceSound :
    State.reset.dev.Sound ∧ ∃ s', step { dev := State.reset.dev, pending := [.ready 0] } = .next s' :=
  ⟨⟨by decide +kernel, by decide +kernel, by decide +kernel, by decide +kernel, by decide +kernel, by decide +kernel,
    by decide +kernel⟩, _, rfl⟩

/-! ## Steps whose results the manual gives -/

/-- The device after a command. -/
def after (i : Instr) (d : Dev) : Option Dev :=
  match exec i (on d) with
  | .next s => some s.dev
  | _ => none

/-- Some facts of the device after a command. -/
def gives (i : Instr) (d : Dev) (p : Dev → Bool) : Bool := ((after i d).map p).getD false

/-- R48: the CRC of the ASCII bytes "123456789". -/
theorem test_crc32c : crc32c [0x31, 0x32, 0x33, 0x34, 0x35, 0x36, 0x37, 0x38, 0x39] = 0xE3069283 := by decide +kernel

/-- FIPS 180-4, the example of one block: the bytes "abc". -/
theorem test_sha256 :
    sha256 [0x61, 0x62, 0x63] = 0xba7816bf8f01cfea414140de5dae2223b00361a396177a9cb410ff61f20015ad := by decide +kernel

/-- The table gives no row bits. -/
theorem test_no_word_spells_a_command : decodeTableWord 32 0 = none ∧ (on (dev [])).withFetchWord 32 0 = on (dev []) :=
  ⟨rfl, rfl⟩

/-- R97: an engage request before READY is refused with 0x1101. -/
theorem test_engage_before_ready :
    gives (.engageDoorbell 0) (asking 0 .idle false) (fun d => d.eng.firstReason == 0x1101 && d.eng.st == .refused) = true := by
  decide +kernel

/-- A TELEM frame of sequence number 1 whose EOF does not hold its CRC. -/
def badCrc : RawFrame := { sof := BitVec.ofNat 64 (sofWord 0x24 3 false false 1), data := [0, 0, 0], eof := 0x87#8 ++ 0#56 }

/-- R30: an event increases EVENT_COUNT by one, and it wraps from 255 to 0 (R28). -/
theorem test_count_wraps :
    gives (.rxFrameDiscard 0 0 (.frame badCrc))
      { lane0 { up := true } with units := [(uid cLANE 0, { state := .run, count := 255, reason := 0x0607 })] }
      (fun d => (d.us (uid cLANE 0)).count == 0 && (d.us (uid cLANE 0)).reason == 0x0607) = true := by decide +kernel

/-- R147: at the arm deadline a page that may not arm is MISSED with 0x0E13. -/
theorem test_a_page_is_missed :
    gives (.armDeadline 0 7 3) { ready3 .queued with pll := [], stn := [(0, { lattice := 4 })] }
      (fun d => d.jobs.pages.any (fun p => p.state == .missed && p.reason == 0x0E13)
        && (d.host.tickets.isEmpty || d.jobs.pages.length == 1)) = true := by decide +kernel

/-- R133: JOB_ID 7 opens on station 0, and its ticket completes. -/
theorem test_a_job_opens :
    gives (.openJob 0) (engaged (holding 0x101 job7 (dev [rec .stnJet 0 []])))
      (fun d => d.jobs.isOpen == [(7, 1)] && d.host.tickets.isEmpty) = true := by decide +kernel

/-- R291: the exception that reaches OUT_K in the window makes a SUSPECT nozzle OUT. -/
theorem test_a_nozzle_is_out :
    gives (.except 0 0 (exceptOn [⟨0, 0, 0⟩]))
      (lane0 { up := true, hello := some greeting, noz := [(0, { st := 1, exc := 2, win := 0 })]
               frames := [{ seq := 4, blocks := 2, release := 0, fires := true, levels := [3] }] })
      (fun d => (d.noz 0 0).st == 2) = true := by decide +kernel

/-- R589: the retained word has the calibration generation in its low half. -/
theorem test_the_scratch_word_is_kept :
    gives (.scratchWrite 0)
      { dev [] with pins := { ready := true }, boot := { (dev []).boot with vstby := true }, cal := { gen := 9 } }
      (fun d => d.boot.scratch == 9) = true := by decide +kernel

/-- R567, R574: T_crit asserts at 125.0 degrees C, and not at 124.9. -/
theorem test_t_crit :
    gives (.diodeConversion 0 (.reading 1250)) (hot {}) (fun d => d.boot.stage == .critical && !d.pins.ready) = true
    ∧ gives (.diodeConversion 0 (.reading 1249)) (hot {}) (fun d => d.boot.stage == .up && d.pins.ready) = true := by
  decide +kernel

/-- R187, R188: the bytes of a completed read stand at the descriptor's destination. -/
theorem test_a_read_is_written :
    gives (.dmaReadCompletion 0 0 3 (.data (List.replicate 16 0xAA)))
      (channel { store := [{ desc with issued := 16 }], reads := [(3, 1, 16, 0)] })
      (fun d => Mem.bytes 0 d.plane.mem 0xFFFF 18 == 0 :: List.replicate 16 0xAA ++ [0]) = true := by decide +kernel

/-- R173: the return of a free band is rejected with 0x0D0D. -/
theorem test_a_free_band_is_not_returned :
    gives (.bandReturn 0 1 3) (banked 0) (fun d => (d.us (uid cBANK 1)).reason == 0x0D0D) = true := by decide +kernel

/-- R641: a holder without a heartbeat for 5 ms is fenced: its line, FENCE_OUT 1 by the record, goes low. -/
theorem test_an_absent_twin_is_fenced :
    gives (.leaseTimeout 20000000 4)
      (referee { epoch := 1, holder := some 4, lo := some { stamp := 0, role := 2, epoch := 1 } })
      (fun d => (d.ref.at 4).fence == some (4, 0, 20000000) && d.pins.fenceOut == 2) = true := by decide +kernel

/-! ## Witnesses of further clauses: start-up to plane memory -/

/-- The device with the reset state of every I/O bank applied. -/
def lit (d : Dev) : Dev := { d with pins := { d.pins with banks := ~~~0 } }

theorem witness_resets_during_a_gauntlet :
    ((asking 0 .gauntlet true).eng.st = .gauntlet ∧ (asking 0 .waitTime true).eng.st = .waitTime
      ∧ (asking 0 .idle true).eng.st ≠ .gauntlet ∧ (asking 0 .idle true).eng.st ≠ .waitTime) := by decide +kernel

theorem witness_a_release_without_answers_or_banks :
    (100 : Nat) ≤ 100 ∧ (inStage .up).boot.vstby = true ∧ (inStage .unpowered).boot.stage = .unpowered
    ∧ (headerCheck ({ (slots (header 7) (header 9)).boot with answers := 0 }.slotHeader 0)).isNone = false
    ∧ (headerCheck ({ (slots (header 7) (header 9)).boot with answers := 3 }.slotHeader 0)).isNone = true := by decide +kernel

/-- `almostReady` with both PLLs locked. -/
def readyNow (src : Nat) : Dev :=
  { almostReady with
    boot := { almostReady.boot with image := { header := 0, recs := [rec .stnJet 0 [], rec .time 0 [(.TIME_SRC, src)]] } }
    pll := [(0, { everLocked := true, locked := true }), (1, { everLocked := true, locked := true })]
    units := [(uid cPLL 2, { state := .idle })] }

theorem witness_ready_is_due_or_not :
    (∀ src ∈ [0, 1], (readyNow src).pins.ready = false ∧ (readyNow src).boot.loaded = true ∧ (readyNow src).boot.stepped = true
      ∧ (readyNow src).boot.domQueue = [] ∧ (readyNow src).boot.stage = .locking ∧ ((readyNow src).pll.at 0).locked = true
      ∧ ((readyNow src).pll.at 0).hold = false ∧ ((readyNow src).pll.at 1).locked = true ∧ ((readyNow src).pll.at 1).hold = false
      ∧ (readyNow src).fab.crown = some (readyNow src).node ∧ (readyNow src).fab.joined = true
      ∧ ((readyNow src).enter 0 7).mittensUp = true ∧ (readyNow src).clk.got = true ∧ (readyNow src).isTwin = false
      ∧ (readyNow src).twin.role ≠ .fenced ∧ (readyNow src).fab.running = false ∧ (readyNow src).cfgN .time 0 .TIME_SRC = src)
    ∧ 0 ∈ (readyNow 0).stations ∧ (readyNow 0).ust (uid cPLL 2) = .idle ∧ ((readyNow 0).pll.at 2).ref = false
    ∧ (almostReady.pll.at 0).locked = false := by decide +kernel

theorem witness_a_failed_domain_and_a_lost_one :
    (inStage .recovery).boot.stage = .recovery ∧ (inStage .recovery).boot.stage ≠ .up
    ∧ uid cLANE 0 ∈ (dev [rec .lane 0 []]).unitsIn 0 ∧ uid cAXIS 0 ∉ (dev [rec .lane 0 []]).unitsIn 0
    ∧ (88 : Nat) ∈ [88, 116, 117, 127] ∧ (marking.boot.stage = .up ∧ (marking.dom.at 88).good = true)
    ∧ State.reset.dev.boot.stage ≠ .up ∧ State.reset.dev.boot.stage ≠ .critical := by decide +kernel

theorem witness_locks_out_of_holdover_and_follow :
    (let p : Pll := { everLocked := true, hold := true, ref := true }
     (plls p {}).pllOn 0 = true ∧ (p.locked = true → p.follow = true) ∧ (p.hold = true → p.ref = true)
     ∧ (plls p {}).boot.lockFails.at 0 < 3 ∧ ((plls p {}).pll.at 0) = p)
    ∧ (let p : Pll := { everLocked := true, locked := true, follow := true }
      p.hold = false ∧ (p.locked = true → p.follow = true) ∧ (p.hold = true → p.ref = true) ∧ ((plls p {}).pll.at 0) = p)
    ∧ 2 ≤ (2 : Nat) ∧ ({ plls {} {} with stn := [(0, { coasting := true })] }.stn.at (2 - 2)).coasting = true := by decide +kernel

theorem witness_pins_wait_for_their_bank :
    (lit (asking 0 .idle true)).bankUp .control = true ∧ (asking 0 .idle true).bankUp .control = false
    ∧ (∀ src ∈ [0, 1, 2, 3], (lit (asking src .idle true)).engageSrc = src)
    ∧ (lit { asking 3 .idle true with eng := { latch := true } }).eng.latch = true
    ∧ (asking 3 .idle true).eng.latch = false ∧ (asking 3 .idle true).eng.st ≠ .engaged
    ∧ (asking 3 .idle true).pins.engage = false ∧ ({ asking 3 .idle true with pins := { engage := true } } : Dev).pins.engage = true
    ∧ (asking 0 .disengaging true).eng.st = .disengaging ∧ (asking 0 .refused true).eng.st = .refused := by decide +kernel

theorem witness_time_waits_and_run_downs_end :
    (let d := asking 0 .waitTime true
     let z : Dev := { d with boot := { d.boot with image := { header := 0, recs := [rec .startup 0 [(.TIME_WAIT_S, 1), (.STOP_MAX_MS, 1)]] } } }
     z.eng.requestAt = 0 ∧ (z.enter 3999999999 7).clk.now < z.eng.requestAt + 4000000000 * z.cfgN .startup 0 .TIME_WAIT_S
     ∧ z.eng.requestAt + 4000000000 * z.cfgN .startup 0 .TIME_WAIT_S ≤ (z.enter 4000000000 7).clk.now ∧ z.timeSettled = false
     ∧ (z.enter 3999999 7).clk.now < 0 + 4000000 * z.cfgN .startup 0 .STOP_MAX_MS
     ∧ 0 + 4000000 * z.cfgN .startup 0 .STOP_MAX_MS ≤ (z.enter 4000000 7).clk.now)
    ∧ (let z := { asking 0 .waitTime true with fab := { crown := some 0, running := true }, clk := { settled := true } }
      z.timeSettled = true)
    ∧ (stopping (some 0) false).eng.rundownAt = some 0
    ∧ (∃ f ∈ ((asking 0 .gauntlet true).enter 0 7).gauntlet [], (kindOf f.code).refuses = true)
    ∧ (let z : Dev := { dev [] with
        eng := { st := .gauntlet }, dom := [(116, { on := true, good := true }), (117, { on := true, good := true })]
        temp := { now := 250 } }
      z.temp.now < 1050 ∧ z.ust uTEMP ≠ .fault ∧ z.eng.st = .gauntlet
      ∧ ∀ f ∈ (z.enter 0 7).gauntlet [], (kindOf f.code).refuses = false) := by decide +kernel

theorem witness_host_resets_and_msix_holds :
    (HostResetKind.hotReset ≠ .perst) ∧ (lit (dev [])).bankUp .perst = true
    ∧ ((dev []).enter 39 7).clk.now < 40 ∧ 40 ≤ ((dev []).enter 40 7).clk.now
    ∧ ((15#32).toNat < (ring16 3).size.toNat ∧ (15 + 16 - 0) % 16 > (ring16 3).used) := by decide +kernel

theorem witness_msix_table_writes : (0x8000 ≤ (0x8004#16).toNat ∧ (0x8004#16).toNat < 0x9000)
    ∧ (0x0500#16).toNat / 4 * 4 ∉ [0x0100, 0x0200, 0x0204, 0x0208, 0x020C, 0x0220, 0x0224, 0x0228, 0x022C, 0x0240, 0x0244,
          0x0248, 0x024C, 0x0300, 0x0304, 0x0308, 0x030C, 0x0400] := by decide

theorem witness_heads_of_rings :
    (let freed (v : Nat) : Nat := (v + (ring16 3).size.toNat - (ring16 3).hostIdx.toNat) % (ring16 3).size.toNat
     3 < (ring16 3).size.toNat ∧ freed 3 ≤ (ring16 3).used ∧ ¬ (freed 4 ≤ (ring16 3).used) ∧ ¬ (16 < (ring16 3).size.toNat))
    ∧ (dev []).host.keptCq = [] ∧ (dev []).host.keptEq = [] ∧ (dev []).host.overflow = false ∧ (dev []).host.linkReset = none := by
  decide +kernel

theorem witness_jobs_close_in_their_ways :
    (let j : Jobs := { closed := [7] }
     7 ∈ j.closed ∧ 8 ∉ j.closed ∧ j.isOpen.get? 8 = none)
    ∧ (let p : Page := { order := 0, slot := 5, job := 7, id := 1, mask := 1, lines := 1, state := .settled }
      let j : Jobs := { isOpen := [(7, 1)], pages := [p] }
      7 ∉ j.closed ∧ j.isOpen.get? 7 ≠ none ∧ j.closing = [] ∧ ∀ p ∈ j.pages, p.job = 7 → p.state.terminal = true)
    ∧ tJob (tkt 0x10C (7 * 2 ^ 32)).entry = 7 := by decide +kernel

/-- A staging whose flash operation runs. -/
def flashing (g : StageStep) (cal : Bool) (op : FlashOp) (m : Mem := []) : Dev :=
  let d := staging g
  { d with boot := { d.boot with xspi := { run := some (cal, op) }, flash0 := m } }

theorem witness_flash_operations_of_a_staging :
    ((staging .none).boot.answers.getLsbD 0 = true ∧ (staging .none).boot.xspi.run = none ∧ (staging .none).boot.xspi.calOp = none
      ∧ smallImage.length = tf (tkt 0x10B (92 * 2 ^ 416)).entry 447 416
      ∧ (smallImage.take 88).length = tf (tkt 0x10B (88 * 2 ^ 416)).entry 447 416)
    ∧ (readExactly 92 (.error .timeout) = none ∧ readExactly 92 (.data [0]) = none)
    ∧ ((flashing .erasing false (.erase 0 (slotOff 1) slotSize)).xspiRuns false = some (.erase 0 (slotOff 1) slotSize)
      ∧ (flashing .erasing false (.erase 0 (slotOff 1) slotSize)).tkt 5 = some (tkt 0x10B (92 * 2 ^ 416))
      ∧ (flashing .writing false (.write 0 (slotOff 1 + 64) [1, 2])).boot.stStep = .writing)
    ∧ (let d := flashing .headerCheck false (.read 0 (slotOff 1) 64) (Mem.writeBytes 0xFF [] (slotOff 1) smallImage)
      d.boot.stStep = .headerCheck ∧ (headerCheck (d.boot.slotHeader d.boot.stSlot)).isNone = true
      ∧ d.xspiRuns false = some (.read 0 (slotOff 1) 64)) := by decide +kernel

theorem witness_reads_wait_for_slots_and_tags :
    (let d := (channel { jobs := [{ planeJob with fetched := 2, offset := 32, complete := false }], store := [desc], tokens := 16 * 8192000 })
     let z : Dev := { d with plane := { d.plane with slots := [0] } }
     let m := (z.enter 0 7).chanRun 0
     m.nextRead 0 = some desc ∧ m.slotOf = some 0 ∧ m.plane.freeTag = some 0
     ∧ (let y : Dev := { d with plane := { d.plane with slots := [] } }
       ((y.enter 0 7).chanRun 0).nextRead 0 = some desc ∧ ((y.enter 0 7).chanRun 0).slotOf ≠ some 0))
    ∧ (let q : Chan := { jobs := [{ planeJob with fetched := 2, offset := 32, complete := false }], store := [desc], reads := [(3, 1, 16, 0)] }
      let d := channel q
      let z : Dev := { d with boot := { d.boot with image := { header := 0, recs := [rec .dma 0 [(.TICKET_USE, 1), (.MAX_READS, 1)]] } } }
      let m := (z.enter 0 7).chanRun 0
      m.nextRead 0 = some desc ∧ m.cfgN .dma 0 .MAX_READS ≤ (m.plane.ch.at 0).reads.length) := by decide +kernel

theorem witness_pieces_of_lists :
    (let j : PlaneJob := { planeJob with sgCount := 2, listed := 0 }
     j.asked = j.sgCount ∧ ¬ ((∀ x ∈ [sg 16, sg 0], x.len ≠ 0 ∧ x.reserved = 0))
     ∧ ((channel { jobs := [j] }).plane.ch.at 0).jobs = [j] ∧ ((channel { jobs := [j] }).plane.ch.at 0).store = []
     ∧ ((channel { jobs := [j] }).plane.ch.at 0).sg = []) := by decide +kernel

/-! ## Witnesses of further clauses: pages, position, calibration, jet stations -/

theorem witness_deadlines_and_edges_by_the_lattice :
    (let d : Dev := { ready3 .queued with stn := [(0, { lattice := 4 })] }
     let e := d.enter 0 7
     ∃ p, d.pageJ 7 3 = some p ∧ (p.stn.at (d.firstStn p)).le = some 512 ∧ e.atDeadline (d.firstStn p) 512 = true
      ∧ p.deadline = false ∧ e.canArm p = true ∧ (({ d with pll := [] } : Dev).enter 0 7).canArm p = false
      ∧ ((ready3 .queued).enter 0 7).atDeadline 0 512 = false)
    ∧ (let p : Page := { queued with state := .armed, deadline := true, stn := [(0, { le := some 512, bound := true })] }
      let d : Dev := { withPage p with stn := [(0, { lattice := 4 })] }
      d.eng.st = .engaged ∧ d.pageJ 7 3 = some p ∧ (d.enter 0 7).edgeArrived p = true ∧ d.firstStn p < 8
      ∧ ((withPage p).enter 0 7).edgeArrived p = false ∧ (p.stn.at (d.firstStn p)).marked = false) :=
  ⟨⟨_, rfl, by decide +kernel⟩, by decide +kernel⟩

theorem witness_cues_wait_for_their_bank_and_edges_for_the_lattice :
    (let d := lit (web queued (some 0))
     d.bankUp .cues = true ∧ (web queued (some 0)).bankUp .cues = false ∧ d.ust (uid cCUE 3) = .run
      ∧ d.prevPlace 0 = some 0 ∧ (d.stn.at 0).leLast = some 0 ∧ d.unbound 0 = some queued ∧ d.binding 0 = true)
    ∧ (let z : Dev := { web queued (some 0) with stn := [(0, { leLast := some 0, prevEnd := some 0, lattice := 25600 })] }
      0 + z.cfg .stnPlace 0 .WEB_REPEAT ≤ (z.enter 0 6).place 0
      ∧ ¬ ((0 : Int) + z.cfg .stnPlace 0 .WEB_REPEAT - 0 < 65536 * ((z.cfgN .stnPlace 0 .BRIM_MIN_LINES : Nat) : Int)))
    ∧ (let z : Dev := { web queued (some 0) with stn := [(0, { leLast := some 0, prevEnd := some (65536 * 90), lattice := 25600 })] }
      z.prevPlace 0 = some (65536 * 90)
      ∧ (0 : Int) + z.cfg .stnPlace 0 .WEB_REPEAT - 65536 * 90 < 65536 * ((z.cfgN .stnPlace 0 .BRIM_MIN_LINES : Nat) : Int))
    ∧ (let p : Page := { queued with leMode := true, lePos := 5 }
      let z := web p none
      z.pageJ 7 3 = some p ∧ z.binding 0 = true ∧ p.state = .queued ∧ (p.stn.at 0).bound = false ∧ bit p.mask 0 = true
      ∧ (let y : Dev := { z with stn := [(0, { lattice := 5 })] }
        256 * (p.lePos - y.cfg .stnPlace 0 .STN_OFFSET) ≤ (y.enter 0 6).place 0))
    ∧ (let w : Dev := { web queued (some (-65536000)) with stn := [(0, { webWait := true })] }
      w.nodeNamed (w.cfgN .stnPlace 0 .UPSTREAM_NODE) = 4 ∧ (w.enter 0 6).edgeLate queued 0 = true
      ∧ nextSeq (w.stn.at 0).upSeq = 1 ∧ (2#32).toNat ≠ nextSeq (w.stn.at 0).upSeq
      ∧ (let y : Dev := { w with stn := [(0, { webWait := true, lattice := -9 })] }
        (y.enter 0 6).edgeLate { queued with stn := [(0, { le := some 0 })] } 0 = false ∧ w.prevPlace 0 = none)) := by
  decide +kernel

theorem witness_lattice_edges_and_coasts :
    (lit (placed true)).bankUp .encoders = true ∧ (placed true).bankUp .encoders = false ∧ (-3 : Int) ≠ 0
    ∧ (placed true).cfgN .enc ((placed true).cfgN .stnPlace 0 .PRI_ENC) .MODE ≠ 1
    ∧ ((placed true).stn.at 0).coasting = true ∧ ((placed false).stn.at 0).coasting = false
    ∧ (placed true).binding 0 = true ∧ ¬ (((placed true).enter 0 7).place 0 / 65536 ≠ ((placed true).stn.at 0).gAt)
    ∧ (let z : Dev := { placed true with stn := [(0, { lattice := 256 })] }
      (z.enter 0 7).place 0 / 65536 ≠ (z.stn.at 0).gAt)
    ∧ (let c (k : Nat) : Dev := { placed true with
        boot := { (dev []).boot with image := { header := 0, recs := [rec .stnJet 0 [], rec .stnPlace 0 [(.COAST_MAX, 5)]] } }
        jobs := { pages := [{ onePage with stn := [(0, { begun := true, coastLines := k })] }] } }
      ((c 4).marking 0).any (fun p => !(p.stn.at 0).cut && decide ((p.stn.at 0).coastLines < (c 4).cfgN .stnPlace 0 .COAST_MAX)) = true
      ∧ ((c 5).marking 0).any (fun p => !(p.stn.at 0).cut && decide ((c 5).cfgN .stnPlace 0 .COAST_MAX ≤ (p.stn.at 0).coastLines))
        = true) := by decide +kernel

theorem witness_encoders_of_stations :
    (let d := lit (dev [rec .enc 3 [(.MODE, 1), (.SSI_BITS, 12)], rec .stnJet 0 [], rec .stnPlace 0 [(.PRI_ENC, 3)]])
     d.bankUp .encoders = true ∧ 0 ∈ d.stnsOfEnc 3 ∧ d.cfgN .enc 3 .MODE = 1 ∧ d.has .enc 3 = true) := by decide +kernel

theorem witness_calibration_buffers_of_the_wrong_length :
    calRec.bytes.length ≠ 23 ∧ (storing 2 false).xspiRuns true = none
    ∧ (calibrating { gen := 3 }).cal.gen ≠ 0xFFFFFFFE := by decide +kernel

/-- `storing` while an operation of the store runs. -/
def writing (step : Nat) (w : Bool) (op : FlashOp) : Dev :=
  let d := storing step w
  { d with boot := { d.boot with xspi := { run := some (true, op) } } }

theorem witness_each_operation_of_the_store :
    (∀ n ∈ [0, 2, 3, 4, 5, 6, 7], ∀ op ∈ [FlashOp.erase 0 (calOff 0) 4096, .write 0 (calOff 0) [1], .read 0 (calOff 0) 32],
      (writing n true op).boot.xspi = { run := some (true, op), calOp := none, stageOp := none }
      ∧ (writing n true op).xspiRuns true = some op ∧ (writing n true op).cal.step = n
      ∧ Mem.wf 0xFF (writing n true op).boot.flash0 = true ∧ Mem.wf 0xFF (writing n true op).boot.flash1 = true
      ∧ (writing n true op).boot.answers.getLsbD 0 = true)
    ∧ (let d := writing 5 true (.read 0 0 0)
      d.boot.flashBytes d.calCs (calOff d.cal.target + 0x1000) d.cal.body.length = d.cal.body
      ∧ d.boot.flashBytes d.calCs (calOff d.cal.target + 0x40) 4 = leBytes 4 (crc32c d.cal.body).toNat)
    ∧ (let d := writing 5 false (.read 0 0 0)
      d.boot.flashBytes d.calCs (calOff d.cal.target + 0x1000) d.cal.body.length ≠ d.cal.body)
    ∧ ((writing 7 true (.read 0 0 32)).calSlot 0).map (·.1) = some (writing 7 true (.read 0 0 32)).cal.newGen
    ∧ ((writing 7 false (.read 0 0 32)).calSlot 0).map (·.1) ≠ some (writing 7 false (.read 0 0 32)).cal.newGen := by
  decide +kernel

theorem witness_pages_of_two_stations_wait_for_both :
    (let p : Page := { onePage with mask := 3, state := .marked, stn := [(0, { begun := true, marked := true }), (1, { marked := true })] }
     let d : Dev := { withPage p with jobs := { pages := [p], order := 1 } }
     p.auditDue 0 = true ∧ (p.stn.at 1).audited = false ∧ bit p.mask 1 = true ∧ d.stnOn 0 = true ∧ d.inBrim 0 = true
      ∧ (d.enter 0 7).auditWaits 0 = false) := by decide +kernel

theorem witness_readers_of_the_visor_and_the_mirror :
    (let d : Dev := { twinDev [rec .bank 1 []] with twin := { role := .active } }
     d.fab.visors.any (fun v => !v.latched) = false ∧ d.isTwin = true ∧ d.twin.role = .active ∧ d.has .bank 1 = true)
    ∧ (let d : Dev := { dev [rec .bank 1 []] with fab := { visors := [{ id := 3, node := 0, t := 0, scope := 0 }] } }
      d.fab.visors.any (fun v => !v.latched) = true ∧ d.has .bank 1 = true) := by decide +kernel

/-- `jetting` with its lane up. -/
def jetUp (bs : List Build) : Dev :=
  { jetting bs true with lane := [(0, { up := true, hello := some greeting })] }

theorem witness_events_come_due :
    ((jetting [] true).toBuild 0 = some running ∧ ((jetting [] true).enter 0 7).buildDue 0 running = true)
    ∧ (let p : Page := { running with stn := [(0, { begun := true, le := some 6553600000 })] }
      let z : Dev := { jetting [] true with jobs := { pages := [p], order := 1 } }
      z.toBuild 0 = some p ∧ (z.enter 0 7).buildDue 0 p = false)
    ∧ (let b : Build := { ord := 0, k := 1 }
      [b].find? (fun b => ((jetUp [b]).enter 0 7).step4Lanes 0 b != []) = some b ∧ b.k ≠ 0
      ∧ (∀ x ∈ [b], x.ord = b.ord → x.k = b.k → x = b)
      ∧ ∀ x ∈ ((jetting [b] false).stn.at 0).builds, ((jetting [b] false).enter 0 7).step4Lanes 0 x = [])
    ∧ (let b : Build := { ord := 0, k := 9, step4 := true, lanes := [(0, { step4 := true })] }
      let p : Page := { running with stn := [(0, { begun := true, le := some 0, built := 10 })] }
      let z : Dev := { jetUp [b] with
        jobs := { pages := [p], order := 1 }
        stn := [(0, { builds := [b], stamps := moved, edgeAt := 6000 })]
        clk := { (dev []).clk with tai := 6000 * 2 ^ 46 } }
      let e := z.enter 0 7
      z.page? 0 = some p ∧ p.state = .marking ∧ e.unbuilt 0 = none ∧ (∀ l ∈ z.lanesOf 0, (b.lanes.at l).ended = false)
      ∧ 0 ∈ z.lanesOf 0 ∧ b.coast = .undecided ∧ (z.stn.at 0).coasting = false ∧ (p.stn.at 0).cut = false
      ∧ (∀ l ∈ z.lanesOf 0, e.fate p { b with coast := .none } l ≠ .wait) ∧ z.eventsOf 0 p ≤ 9 + 1)
    ∧ (let b : Build := { ord := 0, k := 1 }
      let z := jetting [b] false
      z.isJet 0 = true ∧ (z.enter 0 7).unbuilt 0 = none
      ∧ (∀ l ∈ z.lanesOf 0, (z.enter 0 7).dueAt l running 1 = none) ∧ (b.lanes.at 0).ended = false)
    ∧ (let z : Dev := { jetting [{ ord := 0, k := 1 }] true with jobs := { pages := [{ running with state := .marked }] } }
      (z.enter 0 7).unbuilt 0 = none ∧ ∀ p ∈ z.jobs.pages, p.state ≠ .armed ∧ p.state ≠ .marking) := by decide +kernel

/-! ## Witnesses of further clauses: lanes and scan stations -/

theorem witness_exceptions_while_the_lane_is_out_or_not :
    (let q : SentFrame := { seq := 4, blocks := 2, release := 0, fires := true, levels := [3] }
     let d := lane0 { up := true, hello := some greeting, frames := [q] }
     d.laneAllOut 0 = false ∧ (d.noz 0 0).st ≠ 1
      ∧ (inSt (uid cLANE 0) .fault (lane0 { up := true, hello := some greeting, frames := [q], allOut := some (0, 0) })).laneAllOut 0 = true
      ∧ (d.lane.at 0).frames.find? (fun y => y.fires && y.seq == ({ exceptOn [⟨0, 1, 0⟩] with refSeq := 9 }).refSeq.toNat) = none
      ∧ (lane0 { events := 65534, noz := [(0, { st := 1 })] }).lane.at 0 ≠ {}) := by decide +kernel

/-- A TELEM frame of sequence number 1 as R369 lays it out, with the bits `alarms` in [15:0] of its second block. -/
def telem (alarms : Nat) : RawFrame :=
  let sof := sofWord 0x24 3 false false 1
  { sof := BitVec.ofNat 64 sof, data := [0, BitVec.ofNat 64 alarms, 0]
    eof := BitVec.ofNat 64 (eofWord (frameCrc sof [0, alarms, 0])) }

theorem witness_frames_that_are_discarded :
    upFault badCrc = some .crc ∧ upFault (telem 0x8000) = some .malformed ∧ upFault (telem 0) = none
    ∧ upFault { telem 0 with data := [0, 0] } = some .crc := by decide +kernel

theorem witness_exchanges_come_due :
    (let d := lane0 { up := true, hello := some greeting, timeAt := some 0, exch := some (1, 0) }
     d.laneOpen 0 = true ∧ (d.enter 0 7).exchangeDue 0 = (d.cfgN .lane 0 .TIME_PERIOD_US == 0))
    ∧ (let p : Dev := { lane0 { up := true, hello := some greeting, timeAt := some 0, exch := some (1, 0) } with
        boot := { (dev []).boot with image := { header := 0, recs := [rec .lane 0 [(.TIME_PERIOD_US, 1000)]] } } }
      (p.enter 3999999 7).exchangeDue 0 = false ∧ (p.enter 4000000 7).exchangeDue 0 = true)
    ∧ (let d (n : Nat) : Dev := { lane0 { exch := some (1, 0) } with clk := { (dev []).clk with tai := n * 2 ^ 46 } }
      ((d 39999).enter 0 7).qns < 0 + 40000 ∧ 0 + 40000 ≤ ((d 40000).enter 0 7).qns) := by decide +kernel

/-- A quad of lanes 0 and 1, with given states. -/
def quad (a b : Lane) : Dev :=
  { dev [rec .stnJet 0 [(.LANE_MASK, 3)], rec .stnPlace 0 [], rec .lane 0 [], rec .lane 1 []] with lane := [(0, a), (1, b)] }

theorem witness_lanes_meet_their_mates :
    (quad { training := true, lock := true } { up := true }).quadMates 0 = [1]
    ∧ ((quad { training := true, lock := true } { up := true }).lane.at 1).low = false
    ∧ ((quad { training := true, lock := true } { up := true, low := true }).lane.at 1).low = true
    ∧ (let d := engaged (quad { training := true, lock := true, low := true } { up := true })
      let z : Dev := { d with jobs := { pages := [onePage] } }
      z.inBrim 0 = false ∧ z.eng.st = .engaged ∧ z.has .lane 0 = true ∧ (z.lane.at 0).low = true)
    ∧ ((quad { training := true } {}).enter 7999999 7).clk.now < ((quad { training := true } {}).lane.at 0).trainAt + 8000000
    ∧ ((quad { training := true } {}).lane.at 0).trainAt + 8000000 ≤ ((quad { training := true } {}).enter 8000000 7).clk.now
    ∧ ((quad { training := true, fails := 1 } {}).lane.at 0).fails < 2
    ∧ ((quad { training := true, low := true, failsLow := 1 } {}).lane.at 0).failsLow < 2
    ∧ ((quad { training := true, lock := true } {}).lane.at 0).up = false := by decide +kernel

theorem witness_sweeps_of_edges_and_motion :
    (let d := lit (scanner { begun := true, rate := 100000000000, eosOver := false, tHat := 0 })
     (d.enter 0 6).notEdge 0 (!d.cfgB .sos 0 .POLARITY) (d.cfgN .sos 0 .FILTER_NS) = false
      ∧ (d.enter 0 6).notEdge 0 (d.cfgB .sos 0 .POLARITY) (d.cfgN .sos 0 .FILTER_NS) = true
      ∧ (d.enter 0 6).notEdge 1 (!d.cfgB .sos 1 .POLARITY) (d.cfgN .sos 1 .FILTER_NS) = false
      ∧ (d.enter 0 6).sosInWindow 0 ((d.enter 0 6).sosStamp 0) = true)
    ∧ (let w : Sweep := { j := 1, ord := some 0, tHat := 100, lv := [(0, [1, 1])] }
      let z := scanner { begun := true, sweep := some w }
      let y : Dev := { z with stn := [(0, { scan := { begun := true, sweep := some w }, stamps := moved })] }
      (z.enter 0 7).moves 0 = false ∧ (y.enter 0 7).moves 0 = true ∧ (y.scan 0).sweep = some w
      ∧ ({ w with ord := none } : Sweep).ord.bind y.page? = none) := by decide +kernel

/-! ## Witnesses of further clauses: drives, loops, time, temperature -/

theorem witness_axes_wait_for_their_instants :
    (let d := lit (axis0 4 2 { on := true, follow := some 0, alignAt := some 0, hallBad := 2 })
     d.bankUp .sigmaDelta = true ∧ d.bankUp .encoders = true ∧ (d.enter 0 7).loopPeriodDue 0 = true
      ∧ (axis0 4 2 {}).bankUp .sigmaDelta = false ∧ (axis0 4 2 {}).bankUp .encoders = false
      ∧ ((axis0 4 2 { period := some 1 }).enter 0 7).loopPeriodDue 0 = false
      ∧ 0 + 4000000 * d.cfgN .axis 0 .FOLLOW_MS ≤ (d.enter 0 7).clk.now
      ∧ 0 + 4000000 * d.cfgN .axis 0 .ALIGN_MS ≤ (d.enter 0 7).clk.now
      ∧ (d.axis.at 0).sampled ≠ some (d.enter 0 7).curveSlot
      ∧ (axis0 4 2 { sampled := some 0 }).axis.at 0 ≠ {} ∧ ((axis0 4 2 {}).enter 0 7).curveSlot = 0
      ∧ (d.axis.at 0).on = true ∧ d.cfgN .axis 0 .ANGLE_SRC ≠ 0)
    ∧ (let z : Dev := { axis0 4 2 { on := true, follow := some 0, alignAt := some 0 } with
        boot := { (dev []).boot with image := { header := 0, recs := [rec .axis 0 [(.FOLLOW_MS, 2), (.ALIGN_MS, 2)]] } } }
      (z.enter 7999999 7).clk.now < 0 + 4000000 * z.cfgN .axis 0 .FOLLOW_MS
      ∧ (z.enter 7999999 7).clk.now < 0 + 4000000 * z.cfgN .axis 0 .ALIGN_MS
      ∧ 0 + 4000000 * z.cfgN .axis 0 .FOLLOW_MS ≤ (z.enter 8000000 7).clk.now) := by decide +kernel

theorem witness_steppers_wait_for_their_instants :
    (let d := step0 1 { on := true, fullA := some 0, devAt := some 0 } none
     (d.enter 0 7).chopDue 0 = true ∧ ((step0 1 { period := some 0 } none).enter 0 7).chopDue 0 = false
      ∧ 0 + 40000000 ≤ (d.enter 40000000 7).clk.now ∧ (d.enter 39999999 7).clk.now < 0 + 40000000
      ∧ (d.step.at 0).stepAt + 4000000 * d.cfgN .step 0 .HOLD_DELAY_MS ≤ (d.enter 400000000 7).clk.now
      ∧ (d.enter 399999999 7).clk.now < (d.step.at 0).stepAt + 4000000 * d.cfgN .step 0 .HOLD_DELAY_MS
      ∧ (d.step.at 0).onAt + 4000000 * d.cfgN .step 0 .STALL_MS ≤ (d.enter 0 7).clk.now
      ∧ 0 + 4000000 * d.cfgN .step 0 .STALL_MS ≤ (d.enter 0 7).clk.now
      ∧ (d.prof.at (uid cSTEP 0)).slot ≠ some (d.enter 0 7).profSlot ∧ (d.enter 0 7).profSlot = 0)
    ∧ (let z : Dev := { step0 1 { on := true, devAt := some 0 } none with
        boot := { (dev []).boot with image := { header := 0, recs := [rec .step 0 [(.STALL_MS, 2)]] } } }
      (z.enter 7999999 7).clk.now < 0 + 4000000 * z.cfgN .step 0 .STALL_MS
      ∧ (z.enter 7999999 7).clk.now < (z.step.at 0).onAt + 4000000 * z.cfgN .step 0 .STALL_MS) := by decide +kernel

theorem witness_loops_and_lamps_have_their_grids :
    (let d := loop0 .run {} { duty := 30000, k := 63 }
     (d.enter 0 7).loopDue 0 = true ∧ ((loop0 .run { ranAt := some 0 } {}).enter 0 7).loopDue 0 = false
      ∧ (d.loop.at 0).holdAt = none ∧ (d.lamp.at 0).period ≠ some ((d.enter 0 7).lampPeriod 0)
      ∧ (d.enter 0 7).lampPeriod 0 = 0)
    ∧ (let h := loop0 .hold { holdAt := some 0 } {}
      let z : Dev := { h with boot := { (dev []).boot with image := { header := 0, recs := [rec .loop 0 [(.SRC_HOLD_MS, 2), (.DIV, 100)]] } } }
      z.ust (uid cLOOP 0) = .hold ∧ (z.enter 8000000 7).clk.now ≤ 0 + 4000000 * z.cfgN .loop 0 .SRC_HOLD_MS
      ∧ 0 + 4000000 * z.cfgN .loop 0 .SRC_HOLD_MS ≤ (z.enter 8000000 7).clk.now
      ∧ (h.enter 0 7).source 0 = some 0 ∧ (h.enter 0 7).clk.now ≤ 0 + 4000000 * h.cfgN .loop 0 .SRC_HOLD_MS)
    ∧ (loop0 .idle {} {}).ust (uid cLOOP 0) ≠ .run ∧ (loop0 .idle {} {}).ust (uid cLOOP 0) ≠ .hold := by decide +kernel

theorem witness_time_by_its_instants :
    (let d := timed .idle false 0
     d.clk.exchAt = none ∧ d.fab.parent ≠ none ∧ d.fab.running = false
      ∧ (let z : Dev := { d with clk := { d.clk with exchAt := some 0 } }
        z.clk.exchAt = some 0
        ∧ 0 + 4000000 * z.cfgN .time 0 .FAB_PERIOD_MS ≤ (z.enter 4000000000 7).clk.now))
    ∧ (let z := lit (timed .idle true 2)
      z.bankUp .ethernetTime = true ∧ (timed .idle true 2).bankUp .ethernetTime = false ∧ z.grandmaster = true
      ∧ true = !z.cfgB .time 0 .PPS_POL ∧ z.clk.clockClass = 6 ∧ z.clk.ppsAt = none
      ∧ 0 + 12000000000 ≤ (z.enter 12000000000 7).clk.now ∧ (z.enter 11999999999 7).clk.now < 0 + 12000000000)
    ∧ (let z := timed .idle true 1
      z.clk.syncAt = none ∧ z.fab.running = true
      ∧ (let y : Dev := { z with boot := { z.boot with image := { header := 0, recs := [rec .time 0 [(.TIME_SRC, 1), (.ANNOUNCE_TIMEOUT, 3)]] } } }
        y.announceWait = 12000000000)) := by decide +kernel

theorem witness_the_critical_millisecond :
    (let d : Dev := { inStage .critical with temp := { critAt := some 0 } }
     d.boot.stage = .critical ∧ d.temp.critAt = some 0 ∧ 0 + 4000000 ≤ (d.enter 4000000 7).clk.now
      ∧ (d.enter 3999999 7).clk.now < 0 + 4000000)
    ∧ (hot {}).fab.portTo 4 = some 1 ∧ 11 ≤ ((hot {}).fab.ports.at 1).avail false ∧ ((hot {}).fab.ports.at 1).waitU = []
    ∧ (hot { query := some 0 }).temp.soft = false ∧ (hot { query := some 0, soft := true }).temp.recheckAt = none := by
  decide +kernel

/-! ## Witnesses of further clauses: fabric, visors, twins, lining -/

/-- A TIME frame of a Xason port as R596 and R597 lay it out, with the bits `low` in [28:0] of its second block. -/
def xtime (low : Nat) : RawFrame :=
  let sof := sofWord 0x05 3 false false 1
  let data := [0, low, 0]
  { sof := BitVec.ofNat 64 sof, data := data.map (BitVec.ofNat 64 ·), eof := BitVec.ofNat 64 (eofWord (frameCrc sof data)) }

theorem witness_ports_discard_and_audit :
    (xFault (xtime 0)).isSome = false ∧ (xFault (xtime 1)).isSome = true
    ∧ (let d := netted [rec .xport 1 [(.PEER_NODE, 4), (.PEER_PORT, 0xFF)], rec .fabric 0 [(.AUDIT_PERIOD_MS, 100)]] { up := true }
        { parent := some 1 }
      d.fab.auditAt = none ∧ d.stations = [] ∧ d.boot.loaded = true
      ∧ (let z : Dev := { d with fab := { d.fab with auditAt := some 0 } }
        z.fab.auditAt = some 0
        ∧ 0 + 4000000 * z.cfgN .fabric 0 .AUDIT_PERIOD_MS ≤ (z.enter 400000000 7).clk.now
        ∧ ¬ 0 + 4000000 * z.cfgN .fabric 0 .AUDIT_PERIOD_MS ≤ (z.enter 399999999 7).clk.now))
    ∧ (netted [] { up := true } { parent := none }).fab.parent ≠ some 1 := by decide +kernel

/-- A frame from node 4 to node 5 on its way, with three blocks of body. -/
def passing : RouteHeader := { dst := 5, src := 4, hops := 3, bulk := false, typ := 0x0C, body := [0, 0, 0] }

theorem witness_candidacies_routes_and_waits :
    (let d := netted [rec .fabric 0 [(.CROWN_PRIO, 128)]] { up := true, subtree := [(5, 6)] } { best := some (4, 1, 1) }
     (d.fab.ports.at 1).up = true ∧ (d.fab.ports.at 1).mismatch = false ∧ (1 : Nat) ≠ 4 ∧ d.fab.dup = false
     ∧ (d.fab.ports.at 0).up = false ∧ d.fab.portTo 5 = some 1 ∧ (d.fab.ports.at 1).waitU = []
     ∧ (((XBody.forward { passing with hops := passing.hops + 1 }).blocks + 6 : Nat) : Int) ≤ (d.fab.ports.at 1).avail false
     ∧ d.fab.portTo 9 = none ∧ passing.dst ≠ 0xFFFF ∧ passing.dst.toNat ≠ d.node ∧ passing.hops.toNat < 24
     ∧ ({ passing with dst := 0xFFFF }).dst = 0xFFFF ∧ ({ passing with dst := 0 }).dst.toNat = d.node)
    ∧ (netted [] { up := true } { dup := true }).fab.dup = true
    ∧ (let a : Dev := { dev [] with boot := { (dev []).boot with stepped := true, stepAt := 5 } }
      a.boot.stepped = true ∧ a.boot.stepAt + 4000000 * a.cfgN .startup 0 .CROWN_WAIT_MS ≤ (a.enter 1600000005 7).clk.now
      ∧ (a.enter 1600000004 7).clk.now < a.boot.stepAt + 4000000 * a.cfgN .startup 0 .CROWN_WAIT_MS
      ∧ a.boot.stepAt + 20000000 ≤ (a.enter 20000005 7).clk.now ∧ (a.enter 20000004 7).clk.now < a.boot.stepAt + 20000000)
    ∧ (netted [rec .fabric 0 [(.CROWN_PRIO, 255), (.CROWN_LOST_MS, 20)]] {} { lostAt := some 0 }).cfgN .fabric 0 .CROWN_PRIO = 255 := by
  decide +kernel

theorem witness_scopes_name_units_or_not :
    uvalid (uid cNODE 0) = true ∧ uvalid 0xFFFF = false
    ∧ uvalid (tf (tkt (0x109 + 0xFFFF * 2 ^ 320)).entry 351 320 % 65536) = false
    ∧ uvalid (tf (tkt (visorTicket 1200000 64)).entry 351 320 % 65536) = true
    ∧ (let d := visored (visor1 0) 1
      uvalid (d.host.visorScope.toNat % 65536) = true ∧ d.host.visorScope.toNat / 65536 ≠ 0xFFFF
      ∧ uvalid ((0xFFFF#32).toNat % 65536) = false ∧ (0xFFFF#32).toNat / 65536 ≠ 0xFFFF) := by decide +kernel

theorem witness_fences_read_back_by_their_bank :
    (let b : Beat := { stamp := 0, role := 1, epoch := 1 }
     let f := lit (referee { epoch := 1, holder := some 4, hi := some b, fence := some (4, 0, 0), lowSince := some 0 })
     f.bankUp .control = true ∧ (referee {}).bankUp .control = false ∧ (f.ref.at 4).stuck = false
     ∧ (f.ref.at 4).failed = false ∧ ((f.ref.at 4).lowSince.getD 7) + 80000 ≤ (f.enter 80000 7).clk.now
     ∧ (f.enter 79999 7).clk.now < ((f.ref.at 4).lowSince.getD 7) + 80000
     ∧ f.otherTwin 4 4 = 6 ∧ b.role = 1)
    ∧ (let f := lit (referee { fence := some (4, 0, 0), failed := true, stuck := true, adoptedAt := some 0 })
      (f.ref.at 4).failed = true ∧ (f.ref.at 4).stuck = true ∧ (f.ref.at 4).adoptedAt = some 0
      ∧ 0 + 20000000 ≤ (f.enter 20000000 7).clk.now) := by decide +kernel

theorem witness_roles_and_grants :
    (let d := twin0 { role := .active, epoch := 1, expires := some 0, refAt := 0 }
     d.twin.role = .active ∧ d.twin.epoch < (leaseMsg 9 0 0 2).epoch.toNat ∧ (leaseMsg 9 0 0 1).epoch.toNat ≤ d.twin.epoch
     ∧ d.twin.beatAt = none ∧ (∀ u ∈ d.unitsOn, d.ust u = .fault → (d.us u).reason ≠ 0x0C03 ∧ (d.us u).reason ≠ 0x0C09))
    ∧ (let z := twin0 { role := .active, beatAt := some 0 }
      z.twin.beatAt = some 0 ∧ 0 + 4000000 ≤ (z.enter 4000000 7).clk.now ∧ (z.enter 3999999 7).clk.now < 0 + 4000000)
    ∧ (let z := lit (twin0 { role := .active })
      z.bankUp .control = true ∧ (twin0 { role := .active }).bankUp .control = false ∧ z.twin.role ≠ .fenced
      ∧ z.isTwin = true ∧ 10 ≤ 10 ∧ z.cfgB .twin 0 .SWAP_PIN_EN = true)
    ∧ (let z := engaged (twin0 { role := .lined })
      z.twin.role = .lined ∧ z.eng.st = .engaged ∧ z.has .axis 0 = true ∧ z.cfgN .axis 0 .MODE ≠ 4
      ∧ z.ust (uid cAXIS 0) ≠ .fault ∧ z.ust (uid cAXIS 0) ≠ .fenced ∧ z.twin.swap = none)
    ∧ (let z := holding 0x10A (6 * 2 ^ 128) (engaged (twin0 { role := .lined, outcomes := [(5, 1)] }))
      z.twin.role ≠ .active ∧ z.twin.outcomes.get? (5 % 65536) = some 1 ∧ z.twin.outcomes.get? (6 % 65536) = none
      ∧ tf (tkt 0x10A).entry 143 128 ≠ z.partner) := by decide +kernel

/-- An engaged lined standby whose lining is whole, with page 3 of job 7 in MARKING at station 0. -/
def standby : Dev :=
  { engaged (twin0 { role := .lined, epoch := 1, linSeq := some 8, snapped := true, sentSince := [0], swap := none }) with
    jobs := { isOpen := [(7, 1)], pages := [{ onePage with job := 7, id := 3, stn := [(0, { begun := true, le := some 5 })] }], order := 1 } }

theorem witness_entries_of_the_lining :
    (∀ e ∈ [LiningEntry.page 7 3 5 true, .page 7 3 3 false, .job 9 1 true, .binding 7 3 0 77, .engagement 3 9, .nozzle 0 1 2,
        .seq 0 4, .act 0 5, .partnerLane 0 true],
      (liningFrame 8 0 e).seq ≠ 0 ∧ standby.twin.role ≠ .active ∧ standby.twin.role ≠ .fenced
      ∧ ¬ (liningFrame 8 0 e).epoch.toNat < standby.twin.epoch
      ∧ standby.twin.linSeq = some (liningFrame 8 0 e).seq.toNat ∧ standby.twin.snapped = true ∧ e.wf = true)
    ∧ (standby.isTwin = true ∧ standby.lpUp = true ∧ (standby.jobs.pages.map (·.order)).Nodup
      ∧ (standby.pageJ 7 3).isSome = true ∧ standby.jobs.isOpen.get? 9 = none ∧ standby.jobs.closed.contains 9 = false
      ∧ standby.ust (uid cAXIS 0) ≠ .fault ∧ standby.eng.st = .engaged)
    ∧ (let z := twin0 { myOutcomes := [(5, 1)] }
      let c : Compl :=
        { seq := 1, slot := 5, vec := 0, tag := 0, job := 7, page := 0, typ := 1, outcome := 0, reason := 0, flags := 2 ^ fFINAL, pageState := 0, r0 := 0, r1 := 0 }
      let y : Dev := { z with host := { z.host with keptCq := [c] } }
      y.twin.myOutcomes.get? 5 = some 1 ∧ (∀ c ∈ y.host.keptCq, c.slot % 65536 = 5 ∧ bit c.flags fFINAL = true)) := by
  decide +kernel

/-! ## Witnesses of clauses that depend on instants, findings, numbers and the pins' bank -/

theorem witness_the_bank_of_the_control_pins_comes_up :
    (let d : Dev := { asking 3 .idle false with eng := { st := .idle, latch := true }, pins := { engage := true } }
     d.bankUp .control = false ∧ (lit d).bankUp .control = true ∧ d.engageSrc = 3 ∧ d.eng.latch = true
      ∧ d.pins.engage = true ∧ d.pins.ready = false ∧ d.boot.loaded = true ∧ d.pins.fenceLow = false
      ∧ (let m : Dev := { d with pins := { d.pins with banks := d.pins.banks ||| bankMask .control } }
        m.bankUp .control = true))
    ∧ ({ (dev []) with pins := { fenceLow := true } } : Dev).pins.fenceLow = true ∧ (dev []).eng.latch = false := by decide +kernel

theorem witness_domain_steps_and_timeouts_come_due :
    (let d : Dev := { stepping with
        boot := { stepping.boot with
          stepOnce := true, stepAt := 0, image := { header := 0, recs := [rec .startup 0 [(.DOMAIN_STEP_US, 100)]] } } }
     stepping.boot.stepOnce = false ∧ d.boot.stage = .stepping
      ∧ d.boot.stepAt + 4000 * d.cfgN .startup 0 .DOMAIN_STEP_US ≤ (d.enter 400000 7).clk.now
      ∧ ¬ d.boot.stepAt + 4000 * d.cfgN .startup 0 .DOMAIN_STEP_US ≤ (d.enter 399999 7).clk.now)
    ∧ (stepping.dom.at 116).on = true ∧ (stepping.dom.at 116).since + 400000 ≤ (stepping.enter 400000 7).clk.now := by
  decide +kernel

theorem witness_phase_errors_inside_and_outside_their_tolerance :
    (let d : Dev := { plls {} {} with
        boot := { (dev []).boot with image := { header := 0, recs := [rec .stnJet 0 [], rec .pll 0 [(.LOCK_TOL_PS, 500)]] } } }
     let x : PllSearch := { rate := 100000000000, refRate := 2500000, errs := [500, -500, 0, 1, 900] }
     4 ≤ x.errs.length ∧ (∀ v ∈ x.errs.take 4, absI v ≤ d.cfg .pll 0 .LOCK_TOL_PS) ∧ 2500000 ≤ x.refRate
      ∧ (d.pll.at 0).refLost = false ∧ d.pllOn 0 = true ∧ d.boot.lockFails.at 0 < 3)
    ∧ (let d : Dev := { plls { everLocked := true, locked := true } {} with
        boot := { (dev []).boot with image := { header := 0, recs := [rec .stnJet 0 [], rec .pll 0 [(.UNLOCK_TOL_PS, 2000)]] } } }
      (∀ v ∈ [2001, -2001, 2001, (9000 : Int)].take 4, d.cfg .pll 0 .UNLOCK_TOL_PS < absI v) ∧ d.pllOn 0 = true
      ∧ (d.pll.at 0).everLocked = true ∧ (d.pll.at 0).hold = false ∧ (d.pll.at 0).locked = true)
    ∧ ((plls { hold := true, ref := true } {}).pll.at 0).hold = true
    ∧ ((plls { hold := true, ref := true } {}).pll.at 0).ref = true := by decide +kernel

theorem witness_the_gauntlet_waits_for_a_lane_or_not :
    (let d : Dev := { dev [rec .lane 0 [], rec .startup 0 [(.LIVE_WAIT_MS, 10)]] with eng := { st := .gauntlet }, temp := { now := 250 } }
     d.eng.st = .gauntlet ∧ (d.enter 39999999 7).liveWaited = false ∧ (d.enter 40000000 7).liveWaited = true
      ∧ d.temp.now < 1050 ∧ d.ust uTEMP ≠ .fault)
    ∧ (lit (asking 3 .idle true)).bankUp .control = true ∧ (asking 3 .idle true).engageSrc = 3
    ∧ (lit { asking 3 .idle true with pins := { engage := true, ready := true } }).pins.engage = true := by decide +kernel

theorem witness_stamps_and_shares_of_the_lattice :
    (let d : Dev := lit { placed false with stn := [(0, { lattice := 10 })] }
     d.stnOn 0 = true ∧ d.bankUp .encoders = true ∧ (d.pll.at 2).follow = false ∧ (d.enter 0 7).edgesOf 0 60 5 = 60
      ∧ stampsOn 10 70 = [32, 64] ∧ stampsOn 64 10 = [32] ∧ d.cfgN .enc (d.cfgN .stnPlace 0 .PRI_ENC) .MODE ≠ 1
      ∧ d.cfgB .stnPlace 0 .SEC_EN = false)
    ∧ (let d : Dev := lit (dev [rec .enc 3 [(.MODE, 1), (.SSI_BITS, 12)], rec .stnJet 0 [], rec .stnPlace 0 [(.PRI_ENC, 3)]])
      ∀ m, m < 8 → d.binding m = true → d.cfgB .stnPlace m .SEC_EN = false) := by decide +kernel

theorem witness_lines_that_are_read_and_not_lost :
    running.blankLine 0 3 = false ∧ 3 ∉ (running.stn.at 0).lost ∧ (running.stn.at 0).tested 3 = false
    ∧ ({ running with spans := [{ stn := 0, first := 0, count := 10, blank := true, slot := 5 }] } : Page).blankLine 0 3 = true := by
  decide +kernel

theorem witness_upstream_numbers_are_new_or_not :
    (let x : Lane := { up := true, hello := some greeting, upSeq := some 7, upGaps := [(3, 2)] }
     x.up = true ∧ x.hello.isSome = true ∧ x.upNew 8 = true ∧ x.upNew 4 = true ∧ x.upNew 7 = false ∧ x.upNew 6 = false
      ∧ x.upNew 0 = false ∧ ({} : Lane).upNew 1 = true)
    ∧ greeting.features.toNat < 8 ∧ greeting.kind.toNat < 2 ∧ 8 ≤ ({ greeting with features := 8 }).features.toNat
    ∧ (let d := inSt (uid cLANE 0) .fault (lane0 { events := 65535, allOut := some (0, 0), noz := [(0, { st := 1 })] })
      d.laneAllOut 0 = true ∧ (d.noz 0 0).st = 1 ∧ (lane0 { events := 65535, noz := [(0, { st := 1 })] }).laneAllOut 0 = false) := by
  decide +kernel

theorem witness_windows_of_edges_close :
    (let d := scanner { begun := true, rate := 100000000000, eosOver := false, tHat := 0 }
     d.isScan 0 = true ∧ d.binding 0 = true ∧ (d.enter 0 7).sosClosed 0 = false ∧ (d.enter 10000000 7).sosClosed 0 = true
      ∧ d.cfgN .stnScan 0 .SE_PIXELS ≠ 0 ∧ (d.scan 0).eosOver = false ∧ (d.enter 0 7).eosClosed 0 = false
      ∧ (d.enter 10000000 7).eosClosed 0 = true) := by decide +kernel

/-- `axis0` with an over-current limit, a fast filter and a full scale of its SDM units. -/
def fastAxis (x : Axis) : Dev :=
  let d := lit (axis0 4 2 x)
  { d with boot := { d.boot with image := { header := 0, recs := [
      rec .axis 0 [(.MODE, 2), (.OC_LIMIT, 100)], rec .sdm 0 [(.FAST_OSR, 4), (.FS, 1000)],
      rec .sdm 1 [(.FAST_OSR, 4), (.FS, 1000)]] } } }

theorem witness_currents_beyond_their_limit :
    (let d := fastAxis { on := true }
     d.has .axis 0 = true ∧ d.bankUp .sigmaDelta = true ∧ (d.axis.at 0).trip = false
      ∧ 10 * d.cfg .axis 0 .OC_LIMIT < absI (d.sdmCurrent 0 (d.cfgN .sdm 0 .FAST_OSR) (List.replicate 10 true))
      ∧ (let iu := d.sdmCurrent 0 (d.cfgN .sdm 0 .FAST_OSR) [true, false, true, false, true, false, true, false, true, false]
        let iv := d.sdmCurrent 1 (d.cfgN .sdm 1 .FAST_OSR) [false, true, false, true, false, true, false, true, false, true]
        ∀ v ∈ [iu, iv, iu + iv], ¬ 10 * d.cfg .axis 0 .OC_LIMIT < absI v)
      ∧ ((fastAxis { trip := true }).axis.at 0).trip = true)
    ∧ (let d := axis0 4 2 { on := true, alignAt := some 0 }
      (d.axis.at 0).alignAt = some 0 ∧ (d.axis.at 0).on = true ∧ ((axis0 4 2 { alignAt := some 0 }).axis.at 0).on = false)
    ∧ (let d := step0 1 { on := true } none
      let z : Dev := { d with boot := { d.boot with image := { header := 0, recs := [
        rec .step 0 [(.OC_LIMIT, 10), (.SENSE_A_AIN, 0)], rec .ain 0 [(.GAIN, 65536), (.GAIN_SH, 16)]] } } }
      (z.step.at 0).trip = false ∧ 10 * z.cfg .step 0 .OC_LIMIT < absI ((z.enter 0 7).senseCurrent 0 .SENSE_A_AIN 200)
      ∧ ¬ 10 * z.cfg .step 0 .OC_LIMIT < absI ((z.enter 0 7).senseCurrent 0 .SENSE_A_AIN 50))
    ∧ (let d : Dev := { (step0 1 { on := true, devAt := some 0 } none) with eng := { st := .disengaging, rundownAt := some 0 } }
      d.eng.st ≠ .engaged ∧ (d.step.at 0).on = true) := by decide +kernel

theorem witness_loops_have_their_turn_and_rest :
    (let d := loop0 .run {} { duty := 30000, k := 63 }
     let e := d.enter 0 7
     let ran := ((e.updLoop 0 (fun x => { x with ranAt := some (e.qns / 4000) })).loopCount 0 0).closePast 0
     e.loopDue 0 = true ∧ e.loopTurn 0 = true ∧ e.loopRested 0 = false ∧ ran.source 0 = some 0 ∧ d.ust (uid cLOOP 0) = .run
      ∧ (d.lamp.at 0).failed = false ∧ (d.ain.at 0).outs = 7 ∧ d.ust (uid cAIN 0) ≠ .fault ∧ d.ust (uid cAIN 0) ≠ .fenced
      ∧ (false && e.lateConversion 0) = false
      ∧ (let z : Dev := inSt (uid cAIN 0) .fault d
        (((z.enter 0 7).updLoop 0 (fun x => { x with ranAt := some (e.qns / 4000) })).loopCount 0 0).closePast 0 |>.source 0) = none)
    ∧ (let d := inSt (uid cLOOP 0) .run (inSt (uid cLOOP 1) .run (engaged (dev [rec .loop 0 [(.DIV, 100)], rec .loop 1 [(.DIV, 100)]])))
      (d.enter 0 7).loopDue 1 = true ∧ (d.enter 0 7).loopTurn 1 = false ∧ (d.enter 0 7).loopTurn 0 = true)
    ∧ (let d : Dev := { dev [rec .loop 0 [(.DIV, 100), (.DST_KIND, 3)], rec .axis 0 []] with
        eng := { st := .disengaging, rundownAt := some 0 }, axis := [(0, { safe := true })] }
      (d.enter 0 7).loopRested 0 = true ∧ (d.enter 0 7).loopDue 0 = true ∧ (d.enter 0 7).loopTurn 0 = true)
    ∧ (let d := inSt (uid cLAMP 0) .run (engaged (dev [rec .lamp 0 [(.OC_MA, 100)], rec .ain 0 [(.GAIN, 65536), (.GAIN_SH, 16)]]))
      d.has .lamp 0 = true ∧ d.cfg .lamp 0 .OC_MA < d.scale (d.cfgN .lamp 0 .SENSE_AIN) (d.compensated 200)
      ∧ ¬ d.cfg .lamp 0 .OC_MA < d.scale (d.cfgN .lamp 0 .SENSE_AIN) (d.compensated 50)) := by decide +kernel

theorem witness_the_crown_and_its_masters :
    (timed .idle true 1).isCrown = true ∧ (timed .idle false 1).isCrown = false
    ∧ ((timed .idle true 1).enter 0 7).followsPtp ptp248 = true ∧ ((timed .idle false 0).enter 0 7).followsPtp ptp248 = false
    ∧ (timed .idle true 2).clk.tod ≠ none ∧ ({ (timed .idle true 2) with clk := {} } : Dev).clk.tod = none
    ∧ (∀ a, (timed .idle true 1).clk.syncAt = some a → False) := by
  refine ⟨by decide +kernel, by decide +kernel, by decide +kernel, by decide +kernel, by decide +kernel, by decide +kernel, ?_⟩
  intro a h; cases h

theorem witness_routes_with_and_without_the_own_id :
    (let r : RouteMsg := { src := 4, withdraw := false, routeSeq := 9, ranges := [(0, 6)] }
     r.withdraw = false ∧ (∃ y ∈ r.ranges.map (fun x => (x.1.toNat, x.2.toNat)), y.1 ≤ (dev []).node ∧ (dev []).node ≤ y.2)
      ∧ ¬ ∃ y ∈ (routeMsg 9).ranges.map (fun x => (x.1.toNat, x.2.toNat)), y.1 ≤ (dev []).node ∧ (dev []).node ≤ y.2)
    ∧ (dev []).mittenRec (uid cLOOP 0) = none := by decide +kernel

theorem witness_sessions_and_lanes_of_a_pair :
    (let d := twin0 { role := .lined, epoch := 1 }
     d.eng.sessionWait = false ∧ (leaseMsg 9 0 0 2).epoch.toNat > d.twin.epoch)
    ∧ (let d : Dev := { standby with eng := { standby.eng with sessionWait := true }, lane := [(3, { wasDown := true }), (4, { seq := 9 })] }
      d.eng.st = .engaged ∧ d.eng.sessionWait = true ∧ EngState.engaged.code = 3 ∧ (liningFrame 0 0 (.partnerLane 3 true)).seq = 0
      ∧ (d.lane.at 3).up = false ∧ (d.lane.at 3).wasDown = true ∧ (d.lane.at 3).viaPartner = false
      ∧ seqAfter (12#32).toNat (d.lane.at 4).seq = true ∧ seqAfter (3#32).toNat (d.lane.at 4).seq = false
      ∧ d.isTwin = true ∧ d.lpUp = true) := by decide +kernel

end Sys2Proof.Tests
end

/-! PROOFS. Unit addresses, reset, status words, mittens and the fetch of tickets (R24 to R36, R122 to R132). -/

namespace Sys2Proof.Machine

/-! ## Unit addresses -/

/-- Only the classes of the table have units (R25). -/
theorem class_le_of_lt_classSize {c i : Nat} (h : i < classSize c) : c ≤ 0x14 := by
  unfold classSize at h
  split at h <;> omega

theorem uclass_uid {c i : Nat} (hc : c < 64) (hi : i < 1024) : uclass (uid c i) = c := by
  unfold uclass uid
  omega

theorem uindex_uid {c i : Nat} (hi : i < 1024) : uindex (uid c i) = i := by
  unfold uindex uid
  omega

theorem uid_lt {c i : Nat} (hc : c < 64) (hi : i < 1024) : uid c i < 65536 := by
  unfold uid
  omega

theorem uvalid_uid {c i : Nat} (hc : c < 64) (hi : i < 1024) :
    uvalid (uid c i) = true ↔ c ≤ 0x14 ∧ i < classSize c := by
  simp only [uvalid, uclass_uid hc hi, uindex_uid hi, uid_lt hc hi, Bool.and_eq_true, decide_eq_true_eq, true_and]
  exact ⟨fun h => ⟨class_le_of_lt_classSize h, h⟩, fun h => h.2⟩

/-- The class field of a local unit id is bits [15:10], the index bits [9:0] (R24). -/
theorem bits_class_eq {u : Nat} : bits u 15 10 = uclass u := rfl
theorem bits_index_eq {u : Nat} : bits u 9 0 = uindex u := by simp [bits, uindex]

/-- A field's value is below 2 to its width (R2). -/
theorem bits_lt (x hi lo : Nat) : bits x hi lo < 2 ^ (hi - lo + 1) := Nat.mod_lt _ (Nat.two_pow_pos _)

/-- The node id has 16 bits, in boot recovery as well (R115). -/
theorem Dev.node_lt (d : Dev) : d.node < 65536 := by
  unfold Dev.node
  split
  · exact bits_lt _ 175 160
  · decide

/-- Settles O6: both splits are division with remainder by 1,024 and by 65,536. -/
theorem unitAddressesSplitIntoClassAndIndex : Obligations.UnitAddressesSplitIntoClassAndIndex := by
  unfold Obligations.UnitAddressesSplitIntoClassAndIndex
  refine ⟨fun c i hc hi => ?_, fun d u hu => ?_⟩
  · have hclass := uclass_uid hc hi
    have hindex := uindex_uid (c := c) hi
    exact ⟨uid_lt hc hi, bits_class_eq.trans hclass, bits_index_eq.trans hindex, hclass, hindex, uvalid_uid hc hi⟩
  · have hn := d.node_lt
    simp only [Dev.addr, bits]
    omega

/-! ## Reset -/

/-- No unit has a status word at reset, so each reads as the default. -/
theorem State.reset_us (u : Nat) : State.reset.dev.us u = {} := rfl

/-- Settles O3: a register is read off the reset state; the tables of units and counters are empty there, so every
entry is the default. -/
theorem resetHoldsTheDefaultsOfTheRegisters : Obligations.ResetHoldsTheDefaultsOfTheRegisters := by
  unfold Obligations.ResetHoldsTheDefaultsOfTheRegisters
  have hzero : ({} : UnitStat).word = 0#32 := by decide
  have hword : ∀ u, (State.reset.dev.us u).word = 0#32 := fun u => (congrArg UnitStat.word (State.reset_us u)).trans hzero
  have hctr : ∀ u k, State.reset.dev.ctrAt u k = 0#64 := fun _ _ => rfl
  have hsound : State.reset.dev.Sound :=
    { flash0 := rfl, flash1 := rfl, plane := rfl, cqSeq := by decide, eqSeq := by decide, distinct := List.nodup_nil
      fetched := fun _ h => absurd h List.not_mem_nil }
  exact ⟨rfl, rfl, rfl, rfl, rfl, rfl, rfl, rfl, rfl, rfl, rfl, rfl, rfl, rfl, rfl, rfl, rfl, rfl, rfl, rfl, rfl,
    hword, hctr, rfl, rfl, rfl, hsound⟩

/-! ## One report on a unit -/

section Event
variable (x : UnitStat) (cycle rank o sev code : Nat) (st : Option UState) (ack : Bool)

@[simp] theorem UnitStat.event_count : (x.event cycle rank o sev code st ack).count = x.count + 1 := rfl

variable {x cycle rank o sev code st ack}

/-- The first report of a CORE cycle takes the STATE it comes with. -/
theorem UnitStat.event_state_of_new_cycle (h : x.cycle ≠ cycle) :
    (x.event cycle rank o sev code st ack).state = st.getD x.state := by
  cases st <;> simp [UnitStat.event, h]

theorem UnitStat.event_rank_of_new_cycle (h : x.cycle ≠ cycle) (hst : st.isSome) :
    (x.event cycle rank o sev code st ack).rank = rank := by
  obtain ⟨s, rfl⟩ := Option.isSome_iff_exists.mp hst
  simp [UnitStat.event, h]

/-- A report without a reason leaves LAST_REASON and SEVERITY. -/
theorem UnitStat.event_without_reason :
    (x.event cycle rank o sev 0 st ack).reason = x.reason ∧ (x.event cycle rank o sev 0 st ack).sev = x.sev := by
  simp [UnitStat.event]

theorem UnitStat.event_told (hcode : code ≠ 0) : (x.event cycle rank o sev code st ack).told = true := by
  simp [UnitStat.event, hcode]

/-- A reason on a unit that has heard none in the cycle is taken, whatever stood before. -/
theorem UnitStat.event_takes_of_new_cycle (h : x.cycle ≠ cycle) (hsev : sev < 16) (hlt : code < 65536)
    (hcode : code ≠ 0) :
    (x.event cycle rank o sev code st ack).reason.toNat = code ∧ (x.event cycle rank o sev code st ack).sev.toNat = sev := by
  simp [UnitStat.event, h, hcode, Nat.mod_eq_of_lt hsev, Nat.mod_eq_of_lt hlt]

/-- Of a second reason in the same cycle, the one of the higher SEVERITY stands, a tie going to the lower code (R30). -/
theorem UnitStat.event_second_reason (h : x.cycle = cycle) (ho : x.order ≠ 0) (htold : x.told = true)
    (hsev : sev < 16) (hlt : code < 65536) (hcode : code ≠ 0) :
    ((x.event cycle rank o sev code st ack).reason.toNat, (x.event cycle rank o sev code st ack).sev.toNat) =
      if x.sev.toNat < sev ∨ (x.sev.toNat = sev ∧ code ≤ x.reason.toNat) then (code, sev)
      else (x.reason.toNat, x.sev.toNat) := by
  by_cases hw : x.sev.toNat < sev ∨ (x.sev.toNat = sev ∧ code ≤ x.reason.toNat)
  · simp [UnitStat.event, h, ho, htold, hcode, hw, Nat.mod_eq_of_lt hsev, Nat.mod_eq_of_lt hlt]
  · simp [UnitStat.event, h, ho, htold, hcode, hw]

/-- A happening of the same cycle that R682 takes later leaves the STATE. -/
theorem UnitStat.event_state_of_later_rank (h : x.cycle = cycle) (ho : x.order ≠ 0) (hrank : x.rank < rank)
    (hst : st.isSome) : (x.event cycle rank o sev code st ack).state = x.state := by
  obtain ⟨s, rfl⟩ := Option.isSome_iff_exists.mp hst
  simp [UnitStat.event, h, ho, hrank]

end Event

/-- Settles O4: the first report meets a cycle of its own, the second the cycle, the order and the reason of the first. -/
theorem anEventCountsAndTakesItsReason : Obligations.AnEventCountsAndTakesItsReason := by
  unfold Obligations.AnEventCountsAndTakesItsReason
  intro x cycle rank rank' o o' sev sev' code code' st st' ack ack' hx hsev hsev' hlt hlt' ho y z
  refine ⟨rfl, ?count, UnitStat.event_state_of_new_cycle hx, UnitStat.event_takes_of_new_cycle hx hsev hlt,
    ?quiet, ?two, ?later⟩
  case count =>
    simp only [y, z, UnitStat.event_count]
    bv_omega
  case quiet =>
    rintro rfl
    exact UnitStat.event_without_reason
  case two =>
    intro hcode hcode'
    obtain ⟨hreason, hsv⟩ : y.reason.toNat = code ∧ y.sev.toNat = sev :=
      UnitStat.event_takes_of_new_cycle hx hsev hlt hcode
    have hz := UnitStat.event_second_reason (x := y) (rank := rank') (o := o') (st := st') (ack := ack') rfl ho
      (UnitStat.event_told hcode) hsev' hlt' hcode'
    rwa [hreason, hsv] at hz
  case later =>
    intro hst' hst hrank
    have hy : y.rank = rank := UnitStat.event_rank_of_new_cycle hx hst
    exact UnitStat.event_state_of_later_rank rfl ho (hy ▸ hrank) hst'

/-! ## Mittens -/

theorem Stat.both_state (a b : Stat) :
    (a.both b).state.order ≤ a.state.order ∧ (a.both b).state.order ≤ b.state.order
    ∧ ((a.both b).state = a.state ∨ (a.both b).state = b.state) := by
  by_cases h : b.state.order < a.state.order
  · simp [Stat.both, h, Nat.le_of_lt h]
  · simp [Stat.both, h, Nat.le_of_not_lt h]

/-- What the status `m` of a mitten in the making owes to the fingers `fs` it was made from: each is no worse, the STATE is
one of theirs, and `setter` and LAST_REASON are those of the finger of the highest SEVERITY with the latest event
(R33, R34). -/
structure Stat.Shows (m : Stat) (fs : List Stat) : Prop where
  worst : ∀ f ∈ fs, m.state.order ≤ f.state.order
  state : ∃ f ∈ fs, f.state = m.state
  highest : ∀ f ∈ fs, f.sev ≤ m.sev
  setter : ∃ f ∈ fs, f.sev = m.sev ∧ f.reason = m.reason ∧ f.order = m.setter
  latest : ∀ f ∈ fs, f.sev = m.sev → f.order ≤ m.setter

/-- A further finger keeps the form. -/
theorem Stat.Shows.both {m : Stat} {fs : List Stat} (h : m.Shows fs) (g : Stat) : (m.both g).Shows (fs ++ [g]) := by
  obtain ⟨hm, hg, hor⟩ := Stat.both_state m g
  obtain ⟨f, hf, hfsev, hfreason, hforder⟩ := h.setter
  have hsev : (m.both g).sev = max m.sev g.sev := rfl
  refine ⟨?worst, ?state, ?highest, ?setter, ?latest⟩
  case worst =>
    intro f hf
    rcases List.mem_append.mp hf with hf | hf
    · exact Nat.le_trans hm (h.worst f hf)
    · exact List.mem_singleton.mp hf ▸ hg
  case state =>
    rcases hor with e | e
    · obtain ⟨f, hf, hs⟩ := h.state
      exact ⟨f, List.mem_append_left _ hf, hs.trans e.symm⟩
    · exact ⟨g, by simp, e.symm⟩
  case highest =>
    intro f hf
    rcases List.mem_append.mp hf with hf | hf
    · exact Nat.le_trans (h.highest f hf) (Nat.le_max_left ..)
    · exact List.mem_singleton.mp hf ▸ Nat.le_max_right ..
  case setter =>
    by_cases hs : m.sev < g.sev ∨ (m.sev = g.sev ∧ m.setter < g.order)
    · refine ⟨g, by simp, ?_⟩
      simp [Stat.both, hs]
      omega
    · refine ⟨f, List.mem_append_left _ hf, ?_⟩
      simp [Stat.both, hs, hfreason, hforder]
      omega
  case latest =>
    intro f hf hfm
    have hset : (m.both g).setter = if m.sev < g.sev ∨ (m.sev = g.sev ∧ m.setter < g.order) then g.order else m.setter := by
      simp [Stat.both]
    rw [hsev] at hfm
    rcases List.mem_append.mp hf with hf | hf
    · have := h.highest f hf
      have := h.latest f hf
      split at hset <;> omega
    · obtain rfl := List.mem_singleton.mp hf
      split at hset <;> omega

theorem Stat.foldl_both_shows {m : Stat} {fs : List Stat} (h : m.Shows fs) (gs : List Stat) :
    (gs.foldl Stat.both m).Shows (fs ++ gs) := by
  induction gs generalizing m fs with
  | nil => simpa using h
  | cons g gs ih => simpa using ih (h.both g)

theorem Stat.foldl_both_count (gs : List Stat) (m : Stat) (n : Nat) (h : m.count = n % 256) :
    (gs.foldl Stat.both m).count = gs.foldl (fun n f => n + f.count) n % 256 := by
  induction gs generalizing m n with
  | nil => exact h
  | cons g gs ih => exact ih (m.both g) (n + g.count) (by simp [Stat.both, h])

/-- A mitten with a finger shows the worst of its fingers. -/
theorem Stat.ofFingers_shows {fs : List Stat} (h : fs ≠ []) : (Stat.ofFingers fs).Shows fs := by
  cases fs with
  | nil => exact absurd rfl h
  | cons f fs =>
    have hfirst : Stat.Shows { f with count := f.count % 256, setter := f.order } [f] := by
      constructor <;> simp
    exact Stat.foldl_both_shows hfirst fs

/-- EVENT_COUNT of a mitten is the sum of its fingers' modulo 256 (R34). -/
theorem Stat.ofFingers_count (fs : List Stat) :
    (Stat.ofFingers fs).count = fs.foldl (fun n f => n + f.count) 0 % 256 := by
  cases fs with
  | nil => rfl
  | cons f fs => exact Stat.foldl_both_count fs _ (0 + f.count) (by simp)

/-- The status of a mitten at its home is that of its fingers, but for the STATE of a twin pair's (R33, R34, R36). -/
theorem Dev.statOf_homed {d : Dev} {a : Nat} {x : Rec} (fuel : Nat) (hhome : d.homed a = true)
    (hrec : d.mittenRec a = some x) :
    let s := Stat.ofFingers ((d.fingersOf a).map (d.statOf fuel))
    d.statOf (fuel + 1) a = { s with state := if bit x.body 31 then d.ust uNODE else s.state } := by
  rw [Dev.statOf]
  simp only [hhome, hrec, if_true]
  split <;> rfl

/-- The clause on LAST_REASON: the finger that `setter` stands for is one that none has a more recent event than. -/
theorem Stat.Shows.latest_reason {m : Stat} {fs : List Stat} (h : m.Shows fs) :
    ∃ f ∈ fs, f.sev = m.sev ∧ f.reason = m.reason ∧ ∀ g ∈ fs, g.sev = m.sev → g.order ≤ f.order := by
  obtain ⟨f, hf, hsev, hreason, horder⟩ := h.setter
  exact ⟨f, hf, hsev, hreason, fun g hg hgs => horder ▸ h.latest g hg hgs⟩

/-- Settles O5: a fold over the fingers keeps that the status so far shows the worst of those it has taken. -/
theorem aMittenShowsTheWorstOfItsFingers : Obligations.AMittenShowsTheWorstOfItsFingers := by
  unfold Obligations.AMittenShowsTheWorstOfItsFingers
  refine ⟨rfl, fun d fuel a x hhome hrec => ?_⟩
  intro m fs
  have hshows : fs ≠ [] → (Stat.ofFingers fs).Shows fs := Stat.ofFingers_shows
  have hne {f : Stat} (hf : f ∈ fs) : fs ≠ [] := List.ne_nil_of_mem hf
  have hm : m = { Stat.ofFingers fs with state := if bit x.body 31 then d.ust uNODE else (Stat.ofFingers fs).state } :=
    Dev.statOf_homed fuel hhome hrec
  rw [hm]
  refine ⟨Stat.ofFingers_count fs, fun f hf => (hshows (hne hf)).highest f hf, fun h => (hshows h).latest_reason,
    fun hone => ?_, fun hpair => if_pos hpair⟩
  simp only [hone, Bool.false_eq_true, if_false]
  exact ⟨fun f hf => (hshows (hne hf)).worst f hf, fun h => (hshows h).state⟩

/-! ## Completions -/

/-- From `h` to `g` the ticket ring, the tickets in the device, the next completion number and the completions kept are the
same, and nothing that was put on the interfaces is taken back: what a send or a report does to the host port. -/
structure HostSt.SameTickets (h g : HostSt) : Prop where
  tq : g.tq = h.tq
  tickets : g.tickets = h.tickets
  cqSeq : g.cqSeq = h.cqSeq
  keptCq : g.keptCq = h.keptCq
  out : h.out ⊆ g.out

theorem HostSt.SameTickets.refl (h : HostSt) : h.SameTickets h := ⟨rfl, rfl, rfl, rfl, List.Subset.refl _⟩

theorem HostSt.SameTickets.trans {a b c : HostSt} (h : a.SameTickets b) (g : b.SameTickets c) : a.SameTickets c :=
  ⟨g.tq.trans h.tq, g.tickets.trans h.tickets, g.cqSeq.trans h.cqSeq, g.keptCq.trans h.keptCq,
    List.Subset.trans h.out g.out⟩

/-- The same before an operation that keeps the completions `l` in place of those kept. -/
theorem HostSt.SameTickets.trans_keeping {a b c : HostSt} {l : List Compl} (h : a.SameTickets b)
    (g : HostSt.SameTickets { b with keptCq := l } c) : HostSt.SameTickets { a with keptCq := l } c :=
  ⟨g.tq.trans h.tq, g.tickets.trans h.tickets, g.cqSeq.trans h.cqSeq, g.keptCq, List.Subset.trans h.out g.out⟩

theorem HostSt.emit_sameTickets (o : Out) (h : HostSt) : h.SameTickets (h.emit o) :=
  ⟨rfl, rfl, rfl, rfl, List.subset_cons_self ..⟩

theorem HostSt.writeEntry_sameTickets (r : Ring) (slot : Nat) (e : Entry) (h : HostSt) :
    h.SameTickets (HostSt.writeEntry r slot e h) :=
  (HostSt.emit_sameTickets _ h).trans (HostSt.emit_sameTickets _ _)

theorem HostSt.writeEntry_out (r : Ring) (slot : Nat) (e : Entry) (h : HostSt) :
    Out.entryBody r slot (e.extractLsb' 32 480) ∈ (h.writeEntry r slot e).out
    ∧ Out.entryHead r slot (e.extractLsb' 0 32) ∈ (h.writeEntry r slot e).out := by
  simp [HostSt.writeEntry, HostSt.emit]

theorem HostSt.signal_sameTickets (v : Nat) (h : HostSt) : h.SameTickets (h.signal v) := by
  unfold HostSt.signal
  split
  · exact ⟨rfl, rfl, rfl, rfl, List.Subset.refl _⟩
  · exact HostSt.emit_sameTickets _ h

theorem HostSt.raise_sameTickets (v now us : Nat) (h : HostSt) : h.SameTickets (h.raise v now us) := by
  unfold HostSt.raise
  split
  · exact HostSt.signal_sameTickets v h
  · split
    · exact HostSt.SameTickets.refl h
    · exact ⟨rfl, rfl, rfl, rfl, List.Subset.refl _⟩

theorem HostSt.postEvents_sameTickets (x : PostCtx) (es : List Event) (h : HostSt) :
    h.SameTickets (HostSt.postEvents x es h) := by
  induction es generalizing h with
  | nil => exact ⟨rfl, rfl, rfl, rfl, List.Subset.refl _⟩
  | cons e es ih =>
    rw [HostSt.postEvents]
    split
    · exact ⟨rfl, rfl, rfl, rfl, List.Subset.refl _⟩
    · have hring : h.SameTickets { h with eq := h.eq.advance } := ⟨rfl, rfl, rfl, rfl, List.Subset.refl _⟩
      exact ((hring.trans (HostSt.writeEntry_sameTickets ..)).trans (HostSt.raise_sameTickets ..)).trans (ih _)

theorem HostSt.keepEvent_sameTickets (x : PostCtx) (e : Event) (h : HostSt) : h.SameTickets (h.keepEvent x e) := by
  have hseq : h.SameTickets { h with eqSeq := nextSeq h.eqSeq } := ⟨rfl, rfl, rfl, rfl, List.Subset.refl _⟩
  unfold HostSt.keepEvent
  dsimp only
  split
  · exact hseq.trans (HostSt.postEvents_sameTickets ..)
  · exact ⟨rfl, rfl, rfl, rfl, List.Subset.refl _⟩

/-- A completion stands in the completion ring (R126, R141). -/
def HostSt.Stands (x : PostCtx) (c : Compl) (h : HostSt) : Prop :=
  ∃ n p, Out.entryBody .completion n ((withPhase (c.entry x.stamp x.node) p).extractLsb' 32 480) ∈ h.out
    ∧ Out.entryHead .completion n ((withPhase (c.entry x.stamp x.node) p).extractLsb' 0 32) ∈ h.out

theorem HostSt.Stands.mono {x : PostCtx} {c : Compl} {h g : HostSt} (hc : h.Stands x c) (hout : h.out ⊆ g.out) :
    g.Stands x c := by
  obtain ⟨n, p, hbody, hhead⟩ := hc
  exact ⟨n, p, hout hbody, hout hhead⟩

/-- A completion waits to be posted in the host port, or stands in its ring (R114, R141). -/
def HostSt.Holds (x : PostCtx) (c : Compl) (h : HostSt) : Prop := c ∈ h.keptCq ∨ h.Stands x c

theorem HostSt.Holds.mono {x : PostCtx} {c : Compl} {h g : HostSt} (hc : h.Holds x c) (hg : h.SameTickets g) :
    g.Holds x c :=
  hc.imp (fun hkept => hg.keptCq ▸ hkept) (fun hstands => hstands.mono hg.out)

/-- The host port with one completion written to its ring and its vector raised (R126, R129). -/
def HostSt.wrote (x : PostCtx) (c : Compl) (h : HostSt) : HostSt :=
  ({ h with cq := h.cq.advance }.writeEntry .completion h.cq.devIdx.toNat
    (withPhase (c.entry x.stamp x.node) h.cq.phase)).raise c.vec x.now x.coal

theorem HostSt.wrote_does (x : PostCtx) (c : Compl) (h : HostSt) : h.SameTickets (h.wrote x c) ∧ (h.wrote x c).Stands x c := by
  have hring : h.SameTickets { h with cq := h.cq.advance } := ⟨rfl, rfl, rfl, rfl, List.Subset.refl _⟩
  have hraise : HostSt.SameTickets _ (h.wrote x c) := HostSt.raise_sameTickets ..
  obtain ⟨hbody, hhead⟩ := HostSt.writeEntry_out .completion h.cq.devIdx.toNat
    (withPhase (c.entry x.stamp x.node) h.cq.phase) { h with cq := h.cq.advance }
  exact ⟨(hring.trans (HostSt.writeEntry_sameTickets ..)).trans hraise, ⟨_, _, hraise.out hbody, hraise.out hhead⟩⟩

theorem HostSt.postCompls_full {x : PostCtx} {c : Compl} {cs : List Compl} {h : HostSt} (hroom : h.cq.room = 0) :
    HostSt.postCompls x (c :: cs) h = { h with keptCq := c :: cs } := by
  rw [HostSt.postCompls, if_pos hroom]

theorem HostSt.postCompls_room {x : PostCtx} {c : Compl} {cs : List Compl} {h : HostSt} (hroom : h.cq.room ≠ 0) :
    HostSt.postCompls x (c :: cs) h = HostSt.postCompls x cs (h.wrote x c) := by
  rw [HostSt.postCompls, if_neg hroom, HostSt.wrote]

/-- Posting completions: each goes to the ring or is kept, and none is lost. -/
theorem HostSt.postCompls_does (x : PostCtx) (cs : List Compl) (h : HostSt) :
    (∃ l, HostSt.SameTickets { h with keptCq := l } (HostSt.postCompls x cs h))
    ∧ ∀ c ∈ cs, (HostSt.postCompls x cs h).Holds x c := by
  induction cs generalizing h with
  | nil => exact ⟨⟨[], HostSt.SameTickets.refl _⟩, fun c hc => absurd hc List.not_mem_nil⟩
  | cons c cs ih =>
    by_cases hroom : h.cq.room = 0
    · rw [HostSt.postCompls_full hroom]
      exact ⟨⟨c :: cs, HostSt.SameTickets.refl _⟩, fun c hc => Or.inl hc⟩
    · rw [HostSt.postCompls_room hroom]
      obtain ⟨hsame, hstands⟩ := HostSt.wrote_does x c h
      obtain ⟨⟨l, hrest⟩, hholds⟩ := ih (h.wrote x c)
      refine ⟨⟨l, hsame.trans_keeping hrest⟩, fun c' hc' => ?_⟩
      rcases List.mem_cons.mp hc' with rfl | hc'
      · exact Or.inr (hstands.mono hrest.out)
      · exact hholds c' hc'

/-! A send puts frames on the interfaces and touches nothing else of the host port. -/

theorem Dev.portSend_sameTickets (p dst : Nat) (b : XBody) (d : Dev) : d.host.SameTickets (d.portSend p dst b).host :=
  HostSt.emit_sameTickets _ d.host

theorem Dev.sameTickets_ite {c : Prop} [Decidable c] {d a b : Dev} (ha : d.host.SameTickets a.host)
    (hb : d.host.SameTickets b.host) : d.host.SameTickets (if c then a else b).host := by
  split
  · exact ha
  · exact hb

theorem Dev.portQueue_sameTickets (p dst : Nat) (b : XBody) (d : Dev) :
    d.host.SameTickets (d.portQueue p dst b).host :=
  Dev.sameTickets_ite (Dev.portSend_sameTickets p dst b d) (HostSt.SameTickets.refl _)

theorem Dev.xsend_sameTickets (dst : Nat) (b : XBody) (d : Dev) : d.host.SameTickets (d.xsend dst b).host := by
  unfold Dev.xsend
  split
  · exact HostSt.SameTickets.refl _
  · split
    · exact Dev.portQueue_sameTickets ..
    · exact HostSt.SameTickets.refl _

theorem Dev.tellHome_sameTickets (fuel a : Nat) (d : Dev) : d.host.SameTickets (Dev.tellHome fuel a d).host := by
  induction fuel generalizing a with
  | zero => exact HostSt.SameTickets.refl _
  | succ fuel ih =>
    rw [Dev.tellHome]
    split
    · exact HostSt.SameTickets.refl _
    · split
      · exact ih _
      · exact Dev.xsend_sameTickets ..

theorem Dev.reportAs_sameTickets (sev : Nat) (ack : Bool) (u code : Nat) (st : Option UState) (det : Nat) (d : Dev) :
    d.host.SameTickets (d.reportAs sev ack u code st det).host := by
  have horder : d.host.SameTickets { d.host with order := d.host.order + 1 } := ⟨rfl, rfl, rfl, rfl, List.Subset.refl _⟩
  unfold Dev.reportAs
  dsimp only
  refine HostSt.SameTickets.trans ?_ (Dev.tellHome_sameTickets ..)
  split
  · exact horder.trans (HostSt.keepEvent_sameTickets ..)
  · exact horder

/-- From `e` to `d` at most one entry of the lining has gone to the partner (R648): a send, but for the numbering of the
lining; the tickets stay. -/
structure Dev.Lined (e d : Dev) : Prop where
  sent : ∃ w, Dev.Sent { e with twin := w } d
  host : e.host.SameTickets d.host

theorem Dev.Lined.refl (d : Dev) : d.Lined d := ⟨⟨_, Dev.Sent.refl d⟩, HostSt.SameTickets.refl _⟩

theorem Dev.Lined.clk {e d : Dev} (h : e.Lined d) : d.clk = e.clk := by
  obtain ⟨w, hw⟩ := h.sent
  exact hw.clk

theorem Dev.Lined.boot {e d : Dev} (h : e.Lined d) : d.boot = e.boot := by
  obtain ⟨w, hw⟩ := h.sent
  exact hw.boot

theorem Dev.xport_lined (p : Nat) (b : XBody) (w : Twin) (d : Dev) : d.Lined (({ d with twin := w } : Dev).xport p b) :=
  ⟨⟨w, Dev.xport_sent p b _⟩, Dev.portQueue_sameTickets p 0xFFFF b { d with twin := w }⟩

theorem Dev.lineOut_lined (last snap : Bool) (e : LiningEntry) (d : Dev) : d.Lined (d.lineOut last snap e) := by
  unfold Dev.lineOut
  split
  · exact Dev.xport_lined 4 _ _ d
  · exact Dev.Lined.refl d

theorem Dev.lineTicket_lined (rs outcome : Nat) (d : Dev) : d.Lined (d.lineTicket rs outcome) := by
  unfold Dev.lineTicket
  dsimp only
  split
  · exact Dev.xport_lined 4 _ d.twin d
  · exact Dev.lineOut_lined ..

theorem Dev.lineRefused_lined (k : Tkt) (d : Dev) : d.Lined (d.lineRefused k) := by
  unfold Dev.lineRefused
  split
  · exact Dev.Lined.refl d
  · exact Dev.lineOut_lined ..

theorem testBit_flagIf {fs j : Nat} (c : Bool) (i : Nat) (h : fs.testBit j = true) : (flagIf c fs i).testBit j = true := by
  cases c
  · exact h
  · simp [flagIf, flag, h]

/-- A final completion has FINAL set, whatever else its FLAGS say (R141). -/
theorem Dev.complFlags_final (slot outcome flags : Nat) (d : Dev) :
    (d.complFlags slot true outcome flags).testBit fFINAL = true := by
  have hfinal : (flagIf true flags fFINAL).testBit fFINAL = true := by simp [flagIf, flag]
  exact testBit_flagIf _ _ (testBit_flagIf _ _ hfinal)

theorem Dev.reportIf_sameTickets (c : Bool) (u code : Nat) (st : Option UState) (det : Nat) (d : Dev) :
    d.host.SameTickets (d.reportIf c u code st det).host :=
  Dev.sameTickets_ite (Dev.reportAs_sameTickets ..) (HostSt.SameTickets.refl _)

/-- The device with the ticket `slot` ended and a completion of it posted or kept. -/
def Dev.posted (slot : Nat) (c : Compl) (w : Twin) (d : Dev) : Dev :=
  { d with
    host := HostSt.postCompls d.postCtx (d.host.keptCq ++ [c])
      { d.host with cqSeq := nextSeq d.host.cqSeq, tickets := d.host.tickets.filter (fun x => x.slot != slot) }
    twin := w }

/-- A final completion, step by step: 0x0E19 where the partner reached another outcome, the completion, and the outcome to
the partner (R141, R158, R648). -/
theorem Dev.post_final {slot : Nat} (outcome reason flags pageState page r0 r1 : Nat) {d : Dev} {k : Tkt}
    (hk : d.tkt slot = some k) :
    ∃ c w, let r := d.reportIf (d.diverges slot outcome) uNODE 0x0E19
      d.post slot true outcome reason flags pageState page r0 r1 = (r.posted slot c w).lineTicket (slot % 65536) outcome
      ∧ c.seq = r.host.cqSeq ∧ c.slot = slot ∧ c.outcome = outcome ∧ c.reason = reason
      ∧ c.flags.testBit fFINAL = true := by
  apply Exists.intro
  apply Exists.intro
  refine ⟨?run, ?entry⟩
  case run =>
    simp only [Dev.post, hk, Bool.true_and, if_true]
    rfl
  case entry => exact ⟨rfl, rfl, rfl, rfl, Dev.complFlags_final ..⟩

/-- Posting a completion of a ticket ends the ticket. -/
theorem Dev.posted_does (slot : Nat) (c : Compl) (w : Twin) (d : Dev) :
    (d.posted slot c w).host.tq = d.host.tq ∧ (d.posted slot c w).host.cqSeq = nextSeq d.host.cqSeq
    ∧ (d.posted slot c w).tkt slot = none ∧ (d.posted slot c w).host.Holds d.postCtx c := by
  obtain ⟨⟨l, hsame⟩, hholds⟩ := HostSt.postCompls_does d.postCtx (d.host.keptCq ++ [c])
    { d.host with cqSeq := nextSeq d.host.cqSeq, tickets := d.host.tickets.filter (fun x => x.slot != slot) }
  refine ⟨hsame.tq, hsame.cqSeq, ?_, hholds c (by simp)⟩
  simp [Dev.tkt, Dev.posted, hsame.tickets]

/-- Where the completion `c` of a ticket has been posted or kept, and its outcome has gone to the partner, the ticket has
completed. -/
theorem Dev.completes_of_posted {d r f : Dev} {c : Compl} {w : Twin} (hr : d.host.SameTickets r.host)
    (hf : (r.posted c.slot c w).Lined f) (hseq : c.seq = r.host.cqSeq) (hfinal : c.flags.testBit fFINAL = true) :
    d.Completes c.slot c.outcome c.reason f ∧ f.host.tq = d.host.tq := by
  obtain ⟨htq, hnext, htkt, hholds⟩ := Dev.posted_does c.slot c w r
  have hstamp : f.stamp = r.postCtx.stamp := by
    simp only [Dev.stamp, Dev.quarters, hf.clk]
    rfl
  have hnode : f.node = r.postCtx.node := by
    simp only [Dev.node, Dev.hdr, hf.boot]
    rfl
  have hended : f.tkt c.slot = none := by rw [← htkt, Dev.tkt, Dev.tkt, hf.host.tickets]
  have hposted : f.host.Holds { r.postCtx with stamp := f.stamp, node := f.node } c := by
    rw [hstamp, hnode]
    exact hholds.mono hf.host
  refine ⟨⟨?_, hended, c, hseq.trans hr.cqSeq, rfl, rfl, rfl, hfinal, hposted⟩, ?_⟩
  · rw [hf.host.cqSeq, hnext, hr.cqSeq]
  · rw [hf.host.tq, htq, hr.tq]

/-- The final completion of a ticket ends it and arises once (R124, R141); the ticket ring stays. -/
theorem Dev.post_completes {slot : Nat} (outcome reason flags pageState page r0 r1 : Nat) {d : Dev}
    (hk : (d.tkt slot).isSome) :
    d.Completes slot outcome reason (d.post slot true outcome reason flags pageState page r0 r1)
    ∧ (d.post slot true outcome reason flags pageState page r0 r1).host.tq = d.host.tq := by
  obtain ⟨k, hk⟩ := Option.isSome_iff_exists.mp hk
  obtain ⟨c, w, hpost, hseq, rfl, rfl, rfl, hfinal⟩ := Dev.post_final outcome reason flags pageState page r0 r1 hk
  rw [hpost]
  exact Dev.completes_of_posted (Dev.reportIf_sameTickets ..) (Dev.lineTicket_lined ..) hseq hfinal

/-- A ticket that is refused ends with OUTCOME 1 and the code (R131, R132). -/
theorem Dev.refuse_completes {d : Dev} {k : Tkt} (code : Nat) (hk : (d.tkt k.slot).isSome) :
    d.Completes k.slot 1 code (d.refuse k code) ∧ (d.refuse k code).host.tq = d.host.tq := by
  unfold Dev.refuse
  split
  · have hl := (d.lineRefused_lined k).host
    have htkt : (d.lineRefused k).tkt k.slot = d.tkt k.slot := by rw [Dev.tkt, Dev.tkt, hl.tickets]
    have hpost := Dev.post_completes (d := d.lineRefused k) 1 code 0 5 (tf k.entry 159 128) 0 0 (htkt ▸ hk)
    rwa [Dev.Completes, hl.cqSeq, hl.tq] at hpost
  · split
    · exact Dev.post_completes 1 code 0 0xF (tf k.entry 159 128) 0 0 hk
    · exact Dev.post_completes 1 code 0 0xF 0 0 0 hk

/-! ## The fetch of tickets -/

theorem HostSt.mayFetch_iff (h : HostSt) :
    h.mayFetch = true ↔ h.tq.size ≠ 0 ∧ h.fetchHalt = false ∧ h.tq.devIdx ≠ h.tq.hostIdx
      ∧ (h.tickets.map (·.room)).sum + 4 ≤ (h.cq.size.toNat - 1 - h.cq.used) + (4096 - h.keptCq.length) := by
  have hsum : h.tickets.foldl (fun a k => a + k.room) 0 = (h.tickets.map (·.room)).sum := by
    rw [List.sum_eq_foldl, List.foldl_map]
  simp only [HostSt.mayFetch, RingSt.room, hsum, Bool.and_eq_true, bne_iff_ne, Bool.not_eq_true', decide_eq_true_eq,
    and_assoc]

section Fetch
variable {t : Nat} {x : Entry} {why : PcieError} {d : Dev}

/-- The ticket a fetch takes into the device, in the slot that TQ_HEAD names. -/
def HostSt.nextTkt (h : HostSt) (x : Entry) : Tkt := { slot := h.fetched * 65536 + h.tq.devIdx.toNat % 65536, entry := x }

/-- The device right after the fetch of an entry. -/
def Dev.fetched (d : Dev) (x : Entry) : Dev := { d with host := d.host.fetch x }

theorem actTicketFetch_of_not_mayFetch (h : d.host.mayFetch = false) : actTicketFetch t x d = d.enter t 7 := by
  simp [actTicketFetch, h]

theorem actTicketFetchError_of_not_mayFetch (h : d.host.mayFetch = false) : actTicketFetchError t why d = d.enter t 7 := by
  simp [actTicketFetchError, h]

/-- A fetched ticket without a finding waits, the youngest of all. -/
theorem actTicketFetch_of_sound (h : d.host.mayFetch = true) (hx : ticketFinding x = none) :
    actTicketFetch t x d = (d.enter t 7).fetched x := by
  simp only [actTicketFetch, Dev.enter_host, h, hx]
  rfl

/-- A fetched ticket with a finding is refused at once. -/
theorem actTicketFetch_of_finding {code : Nat} (h : d.host.mayFetch = true) (hx : ticketFinding x = some code) :
    actTicketFetch t x d = ((d.enter t 7).fetched x).refuse (d.host.nextTkt x) code := by
  have hlast : (d.host.fetch x).tickets.getLast? = some (d.host.nextTkt x) := List.getLast?_concat
  simp only [actTicketFetch, Dev.enter_host, h, hx, hlast]
  rfl

theorem Dev.fetched_tkt : (((d.enter t 7).fetched x).tkt (d.host.nextTkt x).slot).isSome := by
  rw [Dev.tkt, List.find?_isSome]
  exact ⟨d.host.nextTkt x, List.mem_append_right _ (List.mem_singleton_self _), beq_self_eq_true _⟩

/-- The ticket of a fetch with a finding ends with OUTCOME 1 and the code; TQ_HEAD has advanced. -/
theorem actTicketFetch_completes {code : Nat} (h : d.host.mayFetch = true) (hx : ticketFinding x = some code) :
    ((d.enter t 7).fetched x).Completes (d.host.nextTkt x).slot 1 code (actTicketFetch t x d)
    ∧ (actTicketFetch t x d).host.tq = ((d.enter t 7).fetched x).host.tq := by
  rw [actTicketFetch_of_finding h hx]
  exact Dev.refuse_completes code Dev.fetched_tkt

theorem actTicketFetchError_of_mayFetch (h : d.host.mayFetch = true) :
    Dev.Reports { d.enter t 7 with host := { d.host with fetchHalt := true } } uNODE 0x0E1C none
      (actTicketFetchError t why d) := by
  simp only [actTicketFetchError, Dev.enter_host, h]
  exact Dev.report_does ..

end Fetch

theorem ticketFinding_none {x : Entry} (hf : ticketFormatOk x = true) (hn : ticketNodeAny x = false) :
    ticketFinding x = none := by
  simp [ticketFinding, hf, hn]

theorem ticketFinding_format {x : Entry} (hf : ticketFormatOk x = false) : ticketFinding x = some 0x0E01 := by
  simp [ticketFinding, hf]

theorem ticketFinding_node {x : Entry} (hf : ticketFormatOk x = true) (hn : ticketNodeAny x = true) :
    ticketFinding x = some 0x0E02 := by
  simp [ticketFinding, hf, hn]

theorem runs_ticketFetch {t : Nat} {x : Entry} {s : State} {P : Dev → Prop} (h : P (actTicketFetch t x s.dev)) :
    Runs (.ticketFetch t x) s P := ⟨_, rfl, h⟩

theorem runs_ticketFetchError {t : Nat} {why : PcieError} {s : State} {P : Dev → Prop}
    (h : P (actTicketFetchError t why s.dev)) : Runs (.ticketFetchError t why) s P := ⟨_, rfl, h⟩

/-- Settles O22: `may` is what the model tests before a fetch, and each finding of the format ends the ticket it is of. -/
theorem ticketsAreFetchedInOrder : Obligations.TicketsAreFetchedInOrder := by
  unfold Obligations.TicketsAreFetchedInOrder
  intro s t x why e h next slot fetched may
  have hiff : h.mayFetch = true ↔ may := HostSt.mayFetch_iff h
  refine ⟨fun hmay => ?fetch, fun hmay => ?nothing⟩
  case fetch =>
    have hm : s.dev.host.mayFetch = true := hiff.mpr hmay
    exact ⟨fun hf hn => runs_ticketFetch (actTicketFetch_of_sound hm (ticketFinding_none hf hn)),
      fun hf => runs_ticketFetch (actTicketFetch_completes hm (ticketFinding_format hf)),
      fun hf hn => runs_ticketFetch (actTicketFetch_completes hm (ticketFinding_node hf hn)),
      runs_ticketFetchError (actTicketFetchError_of_mayFetch hm)⟩
  case nothing =>
    have hm : s.dev.host.mayFetch = false := Bool.eq_false_iff.mpr (mt hiff.mp hmay)
    exact ⟨runs_ticketFetch (actTicketFetch_of_not_mayFetch hm),
      runs_ticketFetchError (actTicketFetchError_of_not_mayFetch hm)⟩

end Sys2Proof.Machine
